-- ==== Sys2Proof/Word.lean ====
section
/-! DEFINITION. The word types of the block (R10, R11) and the byte-string types its digests use. -/

namespace Sys2Proof

/-- Eight bits. -/
abbrev Byte := BitVec 8
/-- A word is 32 bits (R10). -/
abbrev Word := BitVec 32
/-- A SHA-384 digest, 48 bytes: byte k of the string stands at bits [8k+7:8k]. -/
abbrev Digest := BitVec 384
/-- A 32-byte event payload, byte k at bits [8k+7:8k] (R465). -/
abbrev Payload := BitVec 256

/-- A tile number (R7). -/
abbrev TileId := Fin 32
/-- A logical device, mailbox or CXL.io function number (R7). -/
abbrev LdId := Fin 16
/-- A host head number (R7). -/
abbrev HeadId := Fin 4

end Sys2Proof
end

