-- ==== Sys2Proof/Syntax.lean ====
section
/-! DEFINITION. The commands of the block: one constructor per row of spec/opcode_table.json, with the operands that
come from outside the block (a mailbox, an address, bytes on a bus, what a flash or an engine unit returned). A mailbox
command reads its own arguments from the mailbox registers, so its constructor carries the mailbox number and the
outside results only. -/

namespace Sys2Proof

/-- One run of a digest job on a Thatch lane: the lane, and the wrong digest it computed, if it computed one (its low
256, 384 or 512 bits). -/
structure LaneRun where
  lane  : Nat
  wrong : Option (BitVec 512)
  deriving DecidableEq, Repr

/-- The lane runs of one comparison (R278): the three runs, the three of the second settlement, and the lanes that
fail a known-answer test made meanwhile. -/
structure CmpRuns where
  runs    : List LaneRun
  again   : List LaneRun
  katFail : List Nat
  deriving DecidableEq, Repr

/-- The unit runs of one Rafter operation (R291): units 0 E0, 1 E1, 2 L0, 3 L1; the units giving a wrong result, the
units failing their known-answer test, and which unit of each kind runs first. -/
structure RafterRun where
  eFirst  : Bool
  lFirst  : Bool
  wrong   : List Nat
  katFail : List Nat
  deriving DecidableEq, Repr

/-- A requester of the engines and the key store that has no mailbox (R29, R268): the Loft, the Ridge domain with the boot ROM and
the firmware pseudo-tile, and the gate for a tile. -/
inductive Domain where
  | loft
  | ridge
  | gate (t : TileId)
  deriving DecidableEq, Repr

/-- Who sends a request of a KEY_ row: a mailbox engine, whose request waits in its mailbox, or a domain, whose request is given in
the layout of that command (R29, R268, R433). -/
inductive Requester where
  | mailbox (h : LdId)
  | direct (d : Domain) (request : List Byte)
  deriving DecidableEq, Repr

/-- The pulses one OTP word took (R327): how many, and what the word reads afterwards at NORMAL and STRICT. -/
structure Burn where
  pulses : Nat
  normal : Word
  strict : Word
  deriving DecidableEq, Repr

/-- What one OTP row reads at a sense (R323): row number (spares from 2048), NORMAL and STRICT. -/
structure OtpRead where
  row    : Nat
  normal : Word
  strict : Word
  deriving DecidableEq, Repr

/-- Level of a supply monitor (R496, G_VMON_STAT.state): 0 OK, 1 WARN_LOW, 2 WARN_HIGH, 3 CRITICAL. -/
inductive VmonLevel where
  | ok | warnLow | warnHigh | critical
  deriving DecidableEq, Repr

/-- An erase type of a flash's BFPT (R344): the log2 of its size, and its typical and maximum time in microseconds. -/
structure EraseType where
  log2  : Nat
  typUs : Nat
  maxUs : Nat
  deriving DecidableEq, Repr

/-- A read mode of R342 that a flash's SFDP advertises for its address length: the profile's code, the dummy cycles listed for it with
the frequency in MHz each holds for, whether a continuous-read mode goes with it, and whether the SFDP header reads the same in it
(R343 step 6). -/
structure ReadMode where
  code       : Fin 8
  dummies    : List (Nat × BitVec 5)
  continuous : Bool
  checks     : Bool
  deriving DecidableEq, Repr

/-- What a flash returns to a discovery (R340 to R344): the signature bytes as a word, the SFDP revision (major × 256 + minor), the
DWORDs of the BFPT, the density, whether a 4BAIT, an xSPI Profile 1.0 table and an Octal DDR mode-change sequence table are present,
the command extension (inverted or repeated), the read modes, the maximum SCK in MHz, flag-status polling, suspend and resume, the
erase types, the times of a page program in microseconds, 1-1-4 page program, the page size (0 256 B, 1 512 B, 2 1 KiB), the first two
identification bytes, and the address length code and dummy cycles of the xSPI table's status reads. -/
structure FlashAnswer where
  signature : Word
  revision  : Nat
  dwords    : Nat
  density   : Nat
  fourByte  : Bool
  xspi      : Bool
  ddrSteps  : Bool
  inverted  : Option Bool
  modes     : List ReadMode
  maxMHz    : Nat
  flagPoll  : Bool
  suspend   : Bool
  erases    : List EraseType
  progTypUs : Nat
  progMaxUs : Nat
  quadProg  : Bool
  page      : Fin 3
  id        : BitVec 16
  regAddr   : Fin 3
  regDummy  : BitVec 5
  deriving DecidableEq, Repr

/-- What discovery finds of one flash (R342 to R345, R361): the result code, the profile entered, the erase types, the typical and
maximum time of a page program in microseconds, and what the polls of R350 take from the xSPI table. -/
structure Discovery where
  result    : Fin 5
  profile   : BitVec 3
  sck       : BitVec 3
  dummy     : BitVec 5
  addr4     : Bool
  flagPoll  : Bool
  suspend   : Bool
  omitRead  : Bool
  density   : BitVec 6
  erases    : List EraseType
  progTypUs : Nat
  progMaxUs : Nat
  quadProg  : Bool
  clkMode   : BitVec 2
  page      : BitVec 2
  id        : BitVec 16
  inverted  : Bool
  regAddr   : Fin 3
  regDummy  : BitVec 5
  deriving DecidableEq, Repr

/-- The flash offers an erase of a size given by its log2. -/
def Discovery.offers (d : Discovery) (log2 : Nat) : Bool := d.erases.any fun e => decide (e.log2 = log2)

/-- The erase field of a profile register (R361): bit 0 4 KiB, bit 1 32 KiB, bit 2 64 KiB. -/
def Discovery.erase (d : Discovery) : BitVec 3 :=
  BitVec.ofNat 3 ((if d.offers 12 then 1 else 0) + (if d.offers 15 then 2 else 0) + (if d.offers 16 then 4 else 0))

/-- Command-omit mode may be used with the flash in its profile: never in 8D-8D-8D (R358). -/
def Discovery.omits (d : Discovery) : Bool := d.omitRead && decide (d.profile ≠ 7)

/-- The smallest erase of at least 4 KiB that the flash offers (R181). -/
def Discovery.eraseUnit (d : Discovery) : Nat :=
  match (d.erases.filterMap fun e => if 12 ≤ e.log2 then some e.log2 else none).min? with
  | some k => 2 ^ k
  | none => 0x1000

/-- What a fetched group read (R144): the landed blocks, the level-1 node from the read source and from the other flash,
blocks read from the other flash, and the lane runs of the comparisons made: of the candidate, the node and each block of the
read source, then of the node and each block of the other flash. `kept`: the blocks, counted within the group, that had landed from the
flash that was the read source before (R156). -/
structure GroupRead where
  blocks    : List (List Byte)
  kept      : List Nat
  node      : List Byte
  nodeOther : Option (List Byte)
  others    : List (Nat × List Byte)
  candRuns  : CmpRuns
  nodeRuns  : CmpRuns
  leafRuns  : List CmpRuns
  otherRuns : CmpRuns
  otherLeafRuns : List CmpRuns
  deriving DecidableEq, Repr

/-- An image as a flash returns it to recovery sources 1 and 2 (R217, R218): the manifest slot, the tree nodes keyed
level × 65536 + index (one listed twice as the other flash holds it), the blocks, replacement blocks from the other flash,
and the OPEN area ranges; an empty manifest, or a node, block or range that is not listed, could not be read. -/
structure FlashImage where
  manifest : List Byte
  nodes    : List (Nat × List Byte)
  blocks   : List (Nat × List Byte)
  others   : List (Nat × List Byte)
  opens    : List (Nat × List Byte)
  deriving DecidableEq, Repr

/-- A select of CS_FLASH_N as it arrived (R187, R189): the first command bytes and the address, the SCK edges counted (R388), and
the SCK period in ns measured over the address phase (R173). -/
structure Sel where
  op    : Byte
  op2   : Byte
  addr  : Nat
  edges : Nat
  sckNs : Nat
  deriving DecidableEq, Repr

/-- Words of a read whose latency interval was too short, or whose line waited beyond t_LAT (R164, R173): the address of the first
and the count. A word that no Underlay access serves, or that a prefetch slot holds, is ready all the same (R166). -/
structure Late where
  addr  : Nat
  words : Nat
  deriving DecidableEq, Repr

/-- A sideband frame (R369, R371): SCK edges × lanes (doubled in SB4D), the whole words, and the words of the reply driven
meanwhile that were not ready at their edge (R376). -/
structure Frame where
  bits  : Nat
  words : List Word
  late  : List Nat
  deriving DecidableEq, Repr

/-- The transport of an SPDM request: the DOE responder of a function, that of the FM-owned logical device (R405), or a tile's
sideband. -/
inductive SpdmVia where
  | doe (f : LdId)
  | fm
  | sb  (t : TileId)
  deriving DecidableEq, Repr

/-- A memory line that the decoder reports on (R446, R448, R451): one or two symbols corrected, else uncorrectable. `loc`: the SRAM
owner; `contents`: code of R448; `line`: its index within the memory, which gives an Underlay line's channel (R439); `tile`: 32 or more
for none; `block`: image block, or 4 KiB unit of the OPEN area; `hard`: a corrected error is hard, or the other copy of double-copied
contents fails too; `mis`: the decoder took the line for another codeword and delivered `data` (R440); `unit`: the 64-byte line within
the block, the node or the OPEN unit, the group, node, staging line, firmware slot, context, mailbox, ring slot, register or key slot;
`data` and `other`: what the flash read first and the other flash returned for contents read again from them, and `runs` the lane runs
of the comparisons this takes (R278). -/
structure LineFault where
  sram     : Bool
  loc      : Nat
  contents : Nat
  line     : Nat
  tile     : Nat
  block    : Nat
  symbols  : Nat
  hard     : Bool
  mis      : Bool
  unit     : Nat
  data     : List Byte
  other    : List Byte
  runs     : List CmpRuns
  deriving DecidableEq, Repr

/-- Work of an Eave queue entry (R354 payload field `work`); an entry of the Purlin port names its submitter instead (R360). -/
inductive EaveWork where
  | discovery | walker | ruled | update | repair | sweep | probe
  deriving DecidableEq, Repr

/-- An entry that a submitter has put into a port's queue (R346): its words, its work, on the Purlin port its submitter, and the bytes
put into the port's SRAM at the entry's buffer offset for a write. -/
structure QueuedEntry where
  words : BitVec 128
  work  : EaveWork
  who   : Fin 4
  data  : List Byte
  deriving DecidableEq, Repr

/-- A held level-1 node that a repair or a resync takes bytes from (R175, R181): its index, what the flash read first and the other flash
hold of it, and the lane runs of the held node and of those two. -/
structure NodeRead where
  idx    : Nat
  first  : Option (List Byte)
  second : Option (List Byte)
  runs   : CmpRuns × CmpRuns × CmpRuns
  deriving DecidableEq, Repr

/-- How update writes went on one flash (R204, R229): whether every unit stands there after at most three attempts, how many
read-backs differed (R353), and the flash address of the unit that failed (R354). -/
structure WriteResult where
  ok       : Bool
  differed : Nat
  unit     : Nat
  deriving DecidableEq, Repr

/-- A command of the block. -/
inductive Instr where
  /-- VDD_AON_ON (R41). -/
  | vddAonOn
  /-- VDD_AON_LOSS (R70). -/
  | vddAonLoss
  /-- SUPPLIES_IN_RANGE (R41). -/
  | suppliesInRange
  /-- POR_EXPIRY (R41). -/
  | porExpiry (straps : BitVec 2) (crystal : Bool) (bank3v3 : BitVec 4)
  /-- PLL_LOCK (R41). -/
  | pllLock
  /-- SRAM_INIT_DONE (R323). -/
  | sramInitDone (katFail : List Nat) (drift : List OtpRead)
  /-- OTP_SENSE_DONE (R32). -/
  | otpSenseDone (romDigest : Digest) (ridgeLocks : Bool)
  /-- RIDGE_ROM_CHECKED (R43). -/
  | ridgeRomChecked (burns : List Burn)
  /-- UNDERLAY_TRAINED (R41). -/
  | underlayTrained (channels : BitVec 8) (purlin : FlashAnswer) (sig : RafterRun) (burns : List Burn)
  /-- GATE_MAX_EXPIRY (R48). -/
  | gateMaxExpiry
  /-- AWAIT_WINDOW_EXPIRY (R51). -/
  | awaitWindowExpiry
  /-- PURLIN_FW_LOAD_DONE (R55). -/
  | purlinFwLoadDone (readOk : Bool) (sig : RafterRun) (runs : List CmpRuns)
  /-- FW_CLAIM (R50). -/
  | fwClaim (h : LdId)
  /-- FW_MANIFEST (R53). -/
  | fwManifest (h : LdId) (sig : RafterRun)
  /-- FW_TREE (R53). -/
  | fwTree (h : LdId) (runs : List CmpRuns)
  /-- FW_BLOCK (R54). -/
  | fwBlock (h : LdId) (run : CmpRuns)
  /-- FW_STATUS (R432). -/
  | fwStatus (h : LdId)
  /-- FW_ABORT (R55). -/
  | fwAbort (h : LdId)
  /-- FW_ACTIVATE (R58). -/
  | fwActivate (h : LdId)
  /-- FW_WINDOW (R432). -/
  | fwWindow (h : LdId)
  /-- FW_SVN_COMMIT (R236). -/
  | fwSvnCommit (h : LdId) (burns : List Burn)
  /-- FW_PURLIN_STORE (R236). -/
  | fwPurlinStore (h : LdId) (readBackOk : Bool)
  /-- IMVON_READY (R55). -/
  | imvonReady
  /-- FW_READY_TIMEOUT (R55). -/
  | fwReadyTimeout
  /-- LOAD_IDLE_EXPIRY (R55). -/
  | loadIdleExpiry
  /-- LOCKSTEP_MISMATCH (R33). -/
  | lockstepMismatch
  /-- TAKEOVER_END (R34). -/
  | takeoverEnd (us : Nat)
  /-- DOZE_HOLD_EXPIRY (R59). -/
  | dozeHoldExpiry
  /-- DOZE_WAKE (R60). -/
  | dozeWake
  /-- SUPPLY_WARNING (R70). -/
  | supplyWarning
  /-- RIDGE_PLL_LOSS (R20). -/
  | ridgePllLoss
  /-- RIDGE_RELOCK_RESULT (R20). -/
  | ridgeRelockResult (locked : Bool)
  /-- PLL_LOCK_LOSS (R493). -/
  | pllLockLoss (pll : Fin 4)
  /-- PLL_RELOCK_RESULT (R493). -/
  | pllRelockResult (pll : Fin 4) (locked : Bool) (us : Nat)
  /-- CRYSTAL_LOSS (R490). -/
  | crystalLoss
  /-- TEMP_SAMPLE (R495). -/
  | tempSample (site : Fin 8) (deci : Int)
  /-- VMON_CROSSING (R496). -/
  | vmonCrossing (mon : Fin 12) (mv : Nat)
  /-- HOURS_TICK (R491). -/
  | hoursTick
  /-- DEVICE_STATUS (R427). -/
  | deviceStatus (h : LdId)
  /-- DEVICE_RESET (R69). -/
  | deviceReset (h : LdId)
  /-- DEVICE_DOZE (R59). -/
  | deviceDoze (h : LdId)
  /-- DEVICE_WAKE (R60). -/
  | deviceWake (h : LdId)
  /-- DEVICE_TRIAL (R63). -/
  | deviceTrial (h : LdId)
  /-- DEVICE_LOCKDOWN (R64). -/
  | deviceLockdown (h : LdId)
  /-- DEVICE_DEPOT (R67). -/
  | deviceDepot (h : LdId) (burns : List Burn)
  /-- DEVICE_OWNER_CFG (R427). -/
  | deviceOwnerCfg (h : LdId) (sig : RafterRun) (readBackOk : Bool)
  /-- TILE_STATUS (R429). -/
  | tileStatus (h : LdId)
  /-- TILE_ENABLE (R80). -/
  | tileEnable (h : LdId)
  /-- TILE_DISABLE (R80). -/
  | tileDisable (h : LdId)
  /-- TILE_POWER_ON (R88). -/
  | tilePowerOn (h : LdId)
  /-- TILE_POWER_OFF (R89). -/
  | tilePowerOff (h : LdId)
  /-- TILE_FETCH (R80). -/
  | tileFetch (h : LdId)
  /-- TILE_RESET (R80). -/
  | tileReset (h : LdId)
  /-- TILE_RESTORE (R80). -/
  | tileRestore (h : LdId)
  /-- TILE_POLICY (R430). -/
  | tilePolicy (h : LdId) (lost : Option Nat)
  /-- TILE_FILTER (R430). -/
  | tileFilter (h : LdId) (lost : Option Nat)
  /-- BANK_SWITCH (R22). -/
  | bankSwitch (t : TileId)
  /-- PWR_EN_ASSERT (R88). -/
  | pwrEnAssert (t : TileId)
  /-- PWR_OFF_DELAY_EXPIRY (R89). -/
  | pwrOffDelayExpiry (t : TileId)
  /-- PGOOD_RISE (R90). -/
  | pgoodRise (t : TileId)
  /-- PGOOD_LOSS (R90). -/
  | pgoodLoss (t : TileId)
  /-- PGOOD_TIMEOUT (R90). -/
  | pgoodTimeout (t : TileId)
  /-- PGOOD_SETTLED (R80). -/
  | pgoodSettled (t : TileId)
  /-- ALERT_ASSERT (R91). -/
  | alertAssert (t : TileId)
  /-- CHATTER_EXIT (R93). -/
  | chatterExit (t : TileId) (alert : Bool)
  /-- ALERT_STUCK (R94). -/
  | alertStuck (t : TileId)
  /-- ALERT_UNSTUCK (R94). -/
  | alertUnstuck (t : TileId)
  /-- RESET_LIMIT_HOUR_END (R101). -/
  | resetLimitHourEnd (t : TileId)
  /-- RERELEASE (R80). -/
  | rerelease (t : TileId)
  /-- RELEASE (R85). -/
  | release (t : TileId) (mirror : List (Nat × List Byte))
  /-- EARLY_RELEASE (R86). -/
  | earlyRelease (t : TileId) (mirror : List (Nat × List Byte))
  /-- DISCOVERY_DONE (R343). -/
  | discoveryDone (t : TileId) (main twin : FlashAnswer) (twinFitted : Bool)
  /-- DISCOVERY_RETRY_EXPIRY (R88). -/
  | discoveryRetryExpiry (t : TileId) (main twin : FlashAnswer) (twinFitted : Bool)
  /-- SELECT_DONE (R129). -/
  | selectDone (t : TileId) (main twin : Option (List (List Byte))) (slotA slotB : BitVec 128)
  /-- MANIFEST_READ_DONE (R137). -/
  | manifestReadDone (t : TileId) (bytes : List Byte)
  /-- SIGNATURE_RESULT (R139). -/
  | signatureResult (t : TileId) (sig : RafterRun)
  /-- TREE_NODE_READ (R140). -/
  | treeNodeRead (t : TileId) (level idx : Nat) (node : List Byte) (other : Option (List Byte)) (runs otherRuns : CmpRuns)
  /-- OPEN_STAGE_DONE (R141). -/
  | openStageDone (t : TileId) (ranges : List (Nat × List Byte))
  /-- GROUP_LANDED (R144). -/
  | groupLanded (t : TileId) (g : Nat) (read : GroupRead)
  /-- EAVE_ENTRY_COMPLETE (R352). -/
  | eaveEntryComplete (port : Fin 33) (words : BitVec 128) (work : EaveWork) (code : BitVec 4) (who : Fin 5)
      (data : List Byte) (queued : List QueuedEntry)
  /-- POLL_TIMEOUT (R351). -/
  | pollTimeout (port : Fin 33) (words : BitVec 128) (work : EaveWork) (who : Fin 5) (queued : List QueuedEntry)
  /-- CONT_TIMEOUT (R348). -/
  | contTimeout (port : Fin 33) (words : BitVec 128) (work : EaveWork) (who : Fin 5) (queued : List QueuedEntry)
  /-- LANE_KAT (R277). -/
  | laneKat (lane : Fin 32) (pass : Bool)
  /-- SWEEP_PASS_START (R176). -/
  | sweepPassStart (t : TileId) (main twin : FlashAnswer)
  /-- SWEEP_GROUP (R178). -/
  | sweepGroup (t : TileId) (g : Nat) (twin : Bool) (read : GroupRead) (copyRuns : CmpRuns) (copyLeafRuns : List CmpRuns)
      (heldRuns : CmpRuns)
  /-- SWEEP_AREA_COMPARE (R177). -/
  | sweepAreaCompare (t : TileId) (twin : Bool) (area level idx : Nat) (data : List Byte) (other : Option (List Byte))
      (runs : List CmpRuns)
  /-- RESYNC_DONE (R183). -/
  | resyncDone (t : TileId) (twin : Bool) (other : List (Nat × List Byte)) (nodes : List NodeRead) (readBack : Option (List (List Byte)))
  /-- REPAIR_DONE (R181). -/
  | repairDone (t : TileId) (twin : Bool) (nodes : List NodeRead) (readBack : Option (List Byte))
  /-- REFILL_DONE (R180). -/
  | refillDone (t : TileId) (block : Nat) (main twin : Option (List Byte)) (runs : List CmpRuns)
  /-- READ_ARRAY (R162). -/
  | readArray (t : TileId) (sel : Sel) (n : Nat) (late : Option Late) (faults : List LineFault)
  /-- READ_SFDP (R167). -/
  | readSfdp (t : TileId) (sel : Sel) (n : Nat)
  /-- READ_ID (R194). -/
  | readId (t : TileId) (sel : Sel) (n : Nat)
  /-- READ_STATUS (R193). -/
  | readStatus (t : TileId) (sel : Sel) (n : Nat)
  /-- READ_FLAG (R193). -/
  | readFlag (t : TileId) (sel : Sel) (n : Nat)
  /-- CLEAR_FLAG (R192). -/
  | clearFlag (t : TileId) (sel : Sel)
  /-- WRITE_ENABLE (R192). -/
  | writeEnable (t : TileId) (sel : Sel)
  /-- WRITE_DISABLE (R192). -/
  | writeDisable (t : TileId) (sel : Sel)
  /-- WRITE_STATUS (R192). -/
  | writeStatus (t : TileId) (sel : Sel) (data : List Byte)
  /-- READ_CONFIG (R195). -/
  | readConfig (t : TileId) (sel : Sel) (n : Nat)
  /-- WRITE_CONFIG (R195). -/
  | writeConfig (t : TileId) (sel : Sel) (data : List Byte)
  /-- ENTER_4B (R192). -/
  | enter4b (t : TileId) (sel : Sel)
  /-- EXIT_4B (R192). -/
  | exit4b (t : TileId) (sel : Sel)
  /-- RESET_ENABLE (R192). -/
  | resetEnable (t : TileId) (sel : Sel)
  /-- RESET (R192). -/
  | reset (t : TileId) (sel : Sel)
  /-- SUSPEND (R192). -/
  | suspend (t : TileId) (sel : Sel)
  /-- RESUME (R192). -/
  | resume (t : TileId) (sel : Sel)
  /-- NOP (R192). -/
  | nop (t : TileId) (sel : Sel)
  /-- PROGRAM (R199). -/
  | program (t : TileId) (sel : Sel) (data : List Byte)
  /-- ERASE (R199). -/
  | erase (t : TileId) (sel : Sel)
  /-- OPCODE_DENY (R190). -/
  | opcodeDeny (t : TileId) (sel : Sel)
  /-- SELECT_UNANSWERED (R72). -/
  | selectUnanswered (t : TileId) (sel : Sel)
  /-- SELECT_MALFORMED (R209). -/
  | selectMalformed (t : TileId) (sel : Sel) (reason : Fin 5)
  /-- SELECT_OVERLAP (R363). -/
  | selectOverlap (t : TileId) (edges : Nat)
  /-- FLASH_WRITE_DONE (R202). -/
  | flashWriteDone (t : TileId) (twin : Bool) (readBack : Option (List Byte))
  /-- STAGE_QUIET_EXPIRY (R207). -/
  | stageQuietExpiry (t : TileId) (region : Fin 32)
  /-- STAGE_UNIT_REWRITE_DONE (R207). -/
  | stageUnitRewriteDone (t : TileId) (twin : Bool) (readBack : Option (List Byte))
  /-- SIDEBAND_BAD_FRAME (R371). -/
  | sidebandBadFrame (t : TileId) (f : Frame)
  /-- SIDEBAND_NOP (R377). -/
  | sidebandNop (t : TileId) (f : Frame)
  /-- REPLAY (R378). -/
  | replay (t : TileId) (f : Frame)
  /-- SIDEBAND_READ (R380). -/
  | sidebandRead (t : TileId) (f : Frame)
  /-- SIDEBAND_WRITE (R380). -/
  | sidebandWrite (t : TileId) (f : Frame)
  /-- BOOT_OK (R234). -/
  | bootOk (t : TileId) (f : Frame)
  /-- RESET_REQ (R384). -/
  | resetReq (t : TileId) (f : Frame)
  /-- UPDATE_COMMIT (R227). -/
  | updateCommit (t : TileId) (f : Frame)
  /-- UPDATE_ABANDON (R230). -/
  | updateAbandon (t : TileId) (f : Frame)
  /-- OPEN_COMMIT (R207). -/
  | openCommit (t : TileId) (f : Frame)
  /-- MEASURE_EXTEND_SB (R249). -/
  | measureExtendSb (t : TileId) (f : Frame)
  /-- SPDM_SEND (R386). -/
  | spdmSend (t : TileId) (f : Frame)
  /-- SPDM_SB_RESPONSE (R386). -/
  | spdmSbResponse (t : TileId)
  /-- RESTORE_SOURCE_DONE (R218). -/
  | restoreSourceDone (t : TileId) (flash : FlashImage) (sig : RafterRun) (runs : List CmpRuns)
  /-- PUSH_WAIT_EXPIRY (R220). -/
  | pushWaitExpiry (t : TileId)
  /-- RESTORE_FLASH_WRITE_DONE (R221). -/
  | restoreFlashWriteDone (t : TileId) (main twin : WriteResult)
  /-- SWITCH_RECORD_WRITE (R233). -/
  | switchRecordWrite (t : TileId) (main twin : WriteResult)
  /-- UPDATE_VERIFIED (R228). -/
  | updateVerified (t : TileId) (sig : RafterRun) (runs : List CmpRuns)
  /-- UPDATE_WRITE_STEP_DONE (R229). -/
  | updateWriteStepDone (t : TileId) (main twin : WriteResult)
  /-- UPDATE_READBACK_DONE (R229). -/
  | updateReadbackDone (t : TileId) (main twin : WriteResult)
  /-- UPDATE_ARMED (R229). -/
  | updateArmed (t : TileId)
  /-- TRIAL_EXPIRY (R234). -/
  | trialExpiry (t : TileId)
  /-- ORPHAN_EXPIRY (R410). -/
  | orphanExpiry
  /-- IMAGE_STAGE (R226). -/
  | imageStage (h : LdId)
  /-- IMAGE_WRITE (R431). -/
  | imageWrite (h : LdId)
  /-- IMAGE_COMMIT (R227). -/
  | imageCommit (h : LdId)
  /-- IMAGE_ABANDON (R230). -/
  | imageAbandon (h : LdId)
  /-- IMAGE_CONFIRM (R234). -/
  | imageConfirm (h : LdId)
  /-- IMAGE_RECOVER (R220). -/
  | imageRecover (h : LdId) (opens : List (Nat × List Byte)) (sig : RafterRun) (runs : List CmpRuns)
  /-- IMAGE_GOLDEN (R222). -/
  | imageGolden (h : LdId)
  /-- GOLDEN_PURLIN_WRITE_DONE (R224). -/
  | goldenPurlinWriteDone (t : TileId) (ok : Bool)
  /-- IMAGE_SVN_COMMIT (R235). -/
  | imageSvnCommit (h : LdId) (burns : List Burn)
  /-- IMAGE_FORMAT (R431). -/
  | imageFormat (h : LdId)
  /-- IMAGE_FORMAT_DONE (R431). -/
  | imageFormatDone (t : TileId) (main twin : List (Option (List Byte)))
  /-- IMAGE_OPEN_ERASE (R431). -/
  | imageOpenErase (h : LdId)
  /-- EXTEND (R239). -/
  | extend (requester : Fin 5) (reg : Fin 320) (digest : Digest)
  /-- RECORD (R467). -/
  | record (lost : Option Nat)
  /-- JOURNAL_WRITE_DONE (R472). -/
  | journalWriteDone (n : Nat) (ok : Bool)
  /-- JOURNAL_HEAD_FOUND (R474). -/
  | journalHeadFound (torn : Bool)
  /-- JOURNAL_SCAN_DONE (R474). -/
  | journalScanDone
  /-- PURLIN_PROBE (R360). -/
  | purlinProbe (answer : FlashAnswer)
  /-- PURLIN_MAPPED_READ (R356). -/
  | purlinMappedRead (addr : Nat) (len : Nat)
  /-- PURLIN_MAPPED_WRITE (R356). -/
  | purlinMappedWrite (addr : Nat)
  /-- PURLIN_RESUME_EXPIRY (R359). -/
  | purlinResumeExpiry
  /-- MAP_WAIT_EXPIRY (R359). -/
  | mapWaitExpiry (addr : Nat)
  /-- MEASURE_READ (R434). -/
  | measureRead (h : LdId)
  /-- MEASURE_LOG (R434). -/
  | measureLog (h : LdId)
  /-- MEASURE_EXTEND (R434). -/
  | measureExtend (h : LdId)
  /-- MEASURE_QUOTE (R435). -/
  | measureQuote (h : LdId) (run : RafterRun)
  /-- MEASURE_BLOCK (R434). -/
  | measureBlock (h : LdId)
  /-- GET_VERSION (R259). -/
  | getVersion (via : SpdmVia)
  /-- GET_CAPABILITIES (R260). -/
  | getCapabilities (via : SpdmVia)
  /-- NEGOTIATE_ALGORITHMS (R260). -/
  | negotiateAlgorithms (via : SpdmVia)
  /-- GET_DIGESTS (R261). -/
  | getDigests (via : SpdmVia)
  /-- GET_CERTIFICATE (R261). -/
  | getCertificate (via : SpdmVia)
  /-- CHALLENGE (R265). -/
  | challenge (via : SpdmVia) (run : RafterRun)
  /-- GET_MEASUREMENTS (R262). -/
  | getMeasurements (via : SpdmVia) (run : RafterRun)
  /-- KEY_EXCHANGE (R264). -/
  | keyExchange (via : SpdmVia) (run : RafterRun)
  /-- FINISH (R264). -/
  | finish (via : SpdmVia)
  /-- END_SESSION (R263). -/
  | endSession (via : SpdmVia)
  /-- HEARTBEAT (R259). -/
  | heartbeat (via : SpdmVia)
  /-- KEY_UPDATE (R263). -/
  | keyUpdate (via : SpdmVia)
  /-- CHUNK_SEND (R259). -/
  | chunkSend (via : SpdmVia) (run : RafterRun)
  /-- CHUNK_GET (R259). -/
  | chunkGet (via : SpdmVia)
  /-- GET_ENCAPSULATED_REQUEST (R259). -/
  | getEncapsulatedRequest (via : SpdmVia)
  /-- DELIVER_ENCAPSULATED_RESPONSE (R259). -/
  | deliverEncapsulatedResponse (via : SpdmVia)
  /-- GET_CSR (R259). -/
  | getCsr (via : SpdmVia) (run : RafterRun)
  /-- SET_CERTIFICATE (R259). -/
  | setCertificate (via : SpdmVia)
  /-- SPDM_UNSUPPORTED (R259). -/
  | spdmUnsupported (via : SpdmVia)
  /-- KEY_GENERATE (R312). -/
  | keyGenerate (who : Requester)
  /-- KEY_DERIVE (R311). -/
  | keyDerive (who : Requester)
  /-- KEY_IMPORT_PLAIN (R312). -/
  | keyImportPlain (who : Requester)
  /-- KEY_IMPORT_WRAPPED (R312). -/
  | keyImportWrapped (who : Requester)
  /-- KEY_EXPORT (R312). -/
  | keyExport (who : Requester)
  /-- KEY_PUBLIC (R312). -/
  | keyPublic (who : Requester)
  /-- KEY_INFO (R312). -/
  | keyInfo (who : Requester)
  /-- KEY_DESTROY (R306). -/
  | keyDestroy (who : Requester)
  /-- KEY_PROVE (R313). -/
  | keyProve (who : Requester) (run : RafterRun)
  /-- KEY_RANDOM (R433). -/
  | keyRandom (who : Requester)
  /-- KEY_HASH_OPEN (R272). -/
  | keyHashOpen (who : Requester) (bound : Option (Fin 320)) (runs : List CmpRuns)
  /-- KEY_HASH_UPDATE (R273). -/
  | keyHashUpdate (who : Requester) (runs : List CmpRuns)
  /-- KEY_HASH_FINAL (R273). -/
  | keyHashFinal (who : Requester) (runs : List CmpRuns)
  /-- KEY_HASH_FINAL_COMPARE (R278). -/
  | keyHashFinalCompare (who : Requester) (runs : List CmpRuns)
  /-- KEY_HASH_HASH (R272). -/
  | keyHashHash (who : Requester) (bound : Option (Fin 320)) (runs : List CmpRuns)
  /-- KEY_HASH_CLOSE (R270). -/
  | keyHashClose (who : Requester)
  /-- KEY_CIPHER_OPEN (R280). -/
  | keyCipherOpen (who : Requester)
  /-- KEY_CIPHER_AAD (R281). -/
  | keyCipherAad (who : Requester)
  /-- KEY_CIPHER_TEXT (R285). -/
  | keyCipherText (who : Requester)
  /-- KEY_CIPHER_FINAL (R285). -/
  | keyCipherFinal (who : Requester)
  /-- KEY_CIPHER_SEAL (R282). -/
  | keyCipherSeal (who : Requester)
  /-- KEY_CIPHER_OPEN_SEALED (R285). -/
  | keyCipherOpenSealed (who : Requester)
  /-- KEY_CIPHER_WRAP (R287). -/
  | keyCipherWrap (who : Requester)
  /-- KEY_CIPHER_UNWRAP (R287). -/
  | keyCipherUnwrap (who : Requester)
  /-- KEY_CIPHER_CLOSE (R270). -/
  | keyCipherClose (who : Requester)
  /-- KEY_SIGN (R290). -/
  | keySign (who : Requester) (run : RafterRun)
  /-- KEY_VERIFY (R289). -/
  | keyVerify (who : Requester) (run : RafterRun)
  /-- KEY_ECDH (R289). -/
  | keyEcdh (who : Requester) (run : RafterRun)
  /-- RAFTER_JOB_DONE (R291). -/
  | rafterJobDone (op : Fin 6) (run : RafterRun) (tag : Word) (tile : Option TileId)
  /-- CTX_IDLE_EXPIRY (R270). -/
  | ctxIdleExpiry (h : LdId) (spar : Bool) (ctx : Fin 12)
  /-- SPAR_PLL_IDLE_STOP (R492). -/
  | sparPllIdleStop
  /-- HEALTH_TEST_FAIL (R295). -/
  | healthTestFail (apt : Bool) (rawBits : Nat)
  /-- STARTUP_TEST_DONE (R293). -/
  | startupTestDone (pass : Bool) (rawBits : Nat)
  /-- DRBG_RESEED (R294). -/
  | drbgReseed (inst1 : Bool)
  /-- TAG_SCAN (R303). -/
  | tagScan (upsets : List (Fin 256 × BitVec 512))
  /-- OTP_STATUS (R329). -/
  | otpStatus (h : LdId)
  /-- OTP_READ (R329). -/
  | otpRead (h : LdId)
  /-- OTP_PROGRAM (R327). -/
  | otpProgram (h : LdId) (burns : List Burn)
  /-- OTP_UDS (R336). -/
  | otpUds (h : LdId) (burns : List Burn)
  /-- OTP_FINALISE (R330). -/
  | otpFinalise (h : LdId) (burns : List Burn)
  /-- OTP_LIFECYCLE (R336). -/
  | otpLifecycle (h : LdId) (burns : List Burn)
  /-- OTP_REVOKE (R321). -/
  | otpRevoke (h : LdId) (burns : List Burn)
  /-- OTP_REPAIR (R332). -/
  | otpRepair (h : LdId) (burns : List Burn)
  /-- OTP_RESENSE (R333). -/
  | otpResense (h : LdId)
  /-- RESENSE_TRIGGER (R333). -/
  | resenseTrigger
  /-- RESENSE_DONE (R333). -/
  | resenseDone (drift : List OtpRead)
  /-- LOG_READ_RING (R437). -/
  | logReadRing (h : LdId)
  /-- LOG_READ_JOURNAL (R476). -/
  | logReadJournal (h : LdId)
  /-- LOG_ROUTE (R463). -/
  | logRoute (h : LdId)
  /-- CAL_READ (R502). -/
  | calRead (h : LdId)
  /-- CAL_WRITE (R502). -/
  | calWrite (h : LdId) (readBackOk : Bool)
  /-- DOORBELL (R417). -/
  | doorbell (h : LdId)
  /-- DOORBELL_WHILE_BUSY (R418). -/
  | doorbellWhileBusy (h : LdId)
  /-- MAILBOX_WRITE_WHILE_BUSY (R417). -/
  | mailboxWriteWhileBusy (h : LdId) (offset : Nat) (bytes : List Byte)
  /-- EVT_PEND_CLEAR (R462). -/
  | evtPendClear (f : LdId) (word : Fin 16) (mask : Word)
  /-- MSIX_UNMASK (R463). -/
  | msixUnmask (f : LdId) (vec : Fin 64)
  /-- RC_READ (R507). -/
  | rcRead (f : LdId) (addr : Nat) (len : Nat)
  /-- GUTTER_LO_READ (R477). -/
  | gutterLoRead (f : LdId) (which : Fin 3)
  /-- BAR_ACCESS_OVERRUN (R510). -/
  | barAccessOverrun (f : LdId) (addr : Nat) (len : Nat)
  /-- REGISTER_WRITE (R508). -/
  | registerWrite (f : Option LdId) (addr : Nat) (bytes : List (Option Byte))
  /-- LINK_DOWN (R410). -/
  | linkDown (head : HeadId) (reason : Fin 3)
  /-- LINK_UP (R411): the rate, the lanes, the flit mode, whether a switch port enables multi-logical-device operation, and the
  posted, S2M DRS and S2M NDR credits the host advertises (none: infinite). -/
  | linkUp (head : HeadId) (rate : BitVec 3) (width : BitVec 5) (flit256 mld : Bool) (posted drs ndr : Option Nat)
  /-- FUNCTION_LEVEL_RESET (R410). -/
  | functionLevelReset (f : LdId)
  /-- CXL_RESET (R410). -/
  | cxlReset (f : LdId)
  /-- IDE_CHECK_FAIL (R405). -/
  | ideCheckFail (head : HeadId)
  /-- CXL_MEM_READ (R403) at a host physical address. -/
  | cxlMemRead (f : LdId) (hpa : Nat) (fault : Option LineFault)
  /-- CXL_MEM_WRITE (R403) at a host physical address; `gap`: nanoseconds since the last write into a push or stage window (R485). -/
  | cxlMemWrite (f : LdId) (hpa gap : Nat) (bytes : List (Option Byte))
  /-- HDM_DECODER_COMMIT (R404). -/
  | hdmDecoderCommit (f : LdId) (idx : Fin 4) (base size dpa skip ways : Nat) (lock : Bool)
  /-- DOE_REQUEST (R400) of a function, or of the FM-owned logical device (none). -/
  | doeRequest (f : Option LdId) (vendor : BitVec 16) (type : BitVec 8) (data : List Byte)
  /-- DOE_ABORT (R400). -/
  | doeAbort (f : Option LdId)
  /-- GET_LD_INFO (R396). -/
  | getLdInfo
  /-- GET_LD_ALLOCATIONS (R396). -/
  | getLdAllocations
  /-- SET_LD_ALLOCATIONS (R396). -/
  | setLdAllocations (granularity count : Nat) (sizes : List Nat)
  /-- GET_QOS_CONTROL (R396). -/
  | getQosControl
  /-- SET_QOS_CONTROL (R396). -/
  | setQosControl (value : List Byte)
  /-- GET_QOS_STATUS (R396). -/
  | getQosStatus
  /-- IDENTIFY_MEMORY_DEVICE (R399). -/
  | identifyMemoryDevice (f : LdId)
  /-- GET_SUPPORTED_LOGS (R399). -/
  | getSupportedLogs (f : LdId)
  /-- GET_LOG (R399). -/
  | getLog (f : LdId) (offset len : Nat)
  /-- GET_EVENT_RECORDS (R399). -/
  | getEventRecords (f : LdId) (log : Fin 4)
  /-- CLEAR_EVENT_RECORDS (R399). -/
  | clearEventRecords (f : LdId) (log : Fin 4) (handles : List Nat)
  /-- GET_TIMESTAMP (R399). -/
  | getTimestamp (f : LdId)
  /-- SET_TIMESTAMP (R399). -/
  | setTimestamp (f : LdId) (value : BitVec 64)
  /-- GET_PARTITION_INFO (R399). -/
  | getPartitionInfo (f : LdId)
  /-- GET_POISON_LIST (R399). -/
  | getPoisonList (f : LdId) (dpa len : Nat)
  /-- CXL_MAILBOX_UNSUPPORTED (R399). -/
  | cxlMailboxUnsupported (f : LdId) (opcode : BitVec 16)
  /-- PATROL_SCRUB (R451). -/
  | patrolScrub (passDone : Bool) (fault : Option LineFault)
  /-- CHANNEL_RETRAIN_DONE (R452). -/
  | channelRetrainDone (ch : Fin 8) (ok : Bool)
  /-- CHANNEL_RETRY (R452). -/
  | channelRetry (ch : Fin 8) (ok : Bool)
  /-- UNDERLAY_INIT_DONE (R445). -/
  | underlayInitDone
  /-- SELF_REFRESH_ENTRY (R453). -/
  | selfRefreshEntry
  /-- FLASH_READY_EXPIRY (R88). -/
  | flashReadyExpiry (t : TileId)
  /-- RELOAD_COPY_DONE (R58). -/
  | reloadCopyDone (blocks : List (Nat × List Byte)) (runs : List CmpRuns)
  /-- FW_WINDOW_VERIFIED (R432). -/
  | fwWindowVerified (sig : RafterRun) (runs : List CmpRuns)
  /-- HOST_CREDITS_RETURNED (R484): how many posted, S2M DRS and S2M NDR credits. -/
  | hostCreditsReturned (head : HeadId) (posted drs ndr : Nat)
  deriving DecidableEq, Repr

end Sys2Proof
end

