-- ==== Sys2Proof/Config.lean ====
section
/-! DEFINITION. What one part fixes in mask, the cryptographic functions of the standards the spec names, and the
free values: constants with no body, so no proof can lean on a value of them. -/

namespace Sys2Proof.Config

/-- Ridge ROM reference digest, held in mask (R32). -/
opaque ridgeRomRef : Digest
/-- Boot ROM identity value, 48 bytes in mask (R242 register 1). -/
opaque bootRomId : Digest
/-- ridge_issue, a 16-bit number fixed in mask (R254). -/
opaque ridgeIssue : BitVec 16
/-- boot_issue, the issue number of the boot ROM in mask (G_ISSUE, R511). -/
opaque bootIssue : BitVec 16
/-- Provisioning key digest of the HYBRID key blob held in the boot ROM (R52). -/
opaque provKeyHybrid : Digest
/-- Provisioning key digest of the P-384 key blob held in the boot ROM (R52). -/
opaque provKeyP384 : Digest
/-- The journal key of BARREN, derived from a constant in mask (R473). -/
opaque journalMaskKey : Digest
/-- The journal key while no device secret is burned, which the spec does not state (R473). -/
opaque journalBlankKey : Digest
/-- The store key derived from a mask constant and the power-cycle count, by a derivation the spec does not give (R304). -/
opaque storeFallbackKey : Nat → Digest
/-- The public key of the leaf certificate of an SPDM certificate chain (X.509 v3), as its 97-byte SEC 1 encoding. -/
opaque chainLeafKey : List Byte → List Byte

/-- SHA-384 (FIPS 180-4). -/
opaque sha384 : List Byte → Digest
/-- SHA-256 (FIPS 180-4). -/
opaque sha256 : List Byte → BitVec 256
/-- SHA-512 (FIPS 180-4). -/
opaque sha512 : List Byte → BitVec 512
/-- HMAC-SHA-384 (FIPS 198-1): key, message. -/
opaque hmacSha384 : List Byte → List Byte → Digest
/-- HMAC-SHA-256. -/
opaque hmacSha256 : List Byte → List Byte → BitVec 256
/-- HMAC-SHA-512. -/
opaque hmacSha512 : List Byte → List Byte → BitVec 512

/-- Byte `i` of the output of generate call `n` of DRBG unit `inst` (R294): entropy, so a free value. -/
opaque drbgByte : (inst : Nat) → (n : Nat) → (i : Nat) → Byte

/-- The P-384 public key of a secret scalar: byte `i` of the 97-byte SEC 1 encoding. -/
opaque p384Public : List Byte → Nat → Byte
/-- The ML-DSA-87 public key of a seed: byte `i` of 2,592. -/
opaque mldsaPublic : List Byte → Nat → Byte
/-- An ECDSA P-384 signature under a scalar over a 48-byte hash, with the per-signature randomness numbered. -/
opaque ecdsaSign : List Byte → Digest → Nat → Nat → Byte
/-- An ML-DSA-87 signature under a seed, context string and message, with numbered randomness: byte `i` of 4,627. -/
opaque mldsaSign : List Byte → List Byte → List Byte → Nat → Nat → Byte
/-- ECDSA P-384 verification: public key, hash, signature. -/
opaque ecdsaVerify : List Byte → List Byte → List Byte → Bool
/-- ML-DSA-87 verification: public key, context string, message, signature. -/
opaque mldsaVerify : List Byte → List Byte → List Byte → List Byte → Bool
/-- Whether a 97-byte encoding is a valid P-384 point (R289). -/
opaque p384ValidPoint : List Byte → Bool
/-- ECDH P-384: scalar and peer key; byte `i` of 48. -/
opaque p384Ecdh : List Byte → List Byte → Nat → Byte

/-- AES-GCM or AES-CTR key stream byte `i` for key and initial counter block. -/
opaque aesStream : List Byte → List Byte → Nat → Byte
/-- GCM tag: key, IV, additional data, ciphertext. -/
opaque gcmTag : List Byte → List Byte → List Byte → List Byte → BitVec 128
/-- KW wrap (SP 800-38F): key, text; byte `i`. -/
opaque kwWrap : List Byte → List Byte → Nat → Byte
/-- KW unwrap: the plaintext, or none when the integrity check fails. -/
opaque kwUnwrap : List Byte → List Byte → Option (List Byte)
/-- KWP wrap. -/
opaque kwpWrap : List Byte → List Byte → Nat → Byte
/-- KWP unwrap. -/
opaque kwpUnwrap : List Byte → List Byte → Option (List Byte)

/-- The chaining states of an HMAC key after its two pads (R274), by algorithm: 0 SHA-256, 1 SHA-384, 2 SHA-512. -/
opaque hmacPads : (alg : BitVec 2) → (key : List Byte) → BitVec 512 × BitVec 512
/-- The HMAC of a message from those states (FIPS 198-1). -/
opaque hmacValue : (alg : BitVec 2) → BitVec 512 × BitVec 512 → List Byte → BitVec 512
/-- The chaining state of a hash, or of an HMAC's inner pass, after whole blocks (R276). -/
opaque hashState : (alg : BitVec 2) → Option (BitVec 512 × BitVec 512) → List Byte → BitVec 512
/-- The same from a given chaining state. -/
opaque hashOn : (alg : BitVec 2) → BitVec 512 → List Byte → BitVec 512
/-- The digest that the chaining state after the last block gives. -/
opaque hashOut : (alg : BitVec 2) → BitVec 512 → BitVec 512

/-- The 12-byte IV base of a SESSION slot formed from drawn or derived output, which the spec does not state (R301). -/
opaque sessionIvBase : List Byte → BitVec 96

/-- The opcode that the emulated SFDP gives an erase size, by its log2, that the default table has no opcode for (R197). -/
opaque eraseOpcode : (four : Bool) → (log2 : Nat) → Byte

/-- The single self-signed certificate of a key as an SPDM certificate chain (X.509 v3, DSP0274; R266). -/
opaque selfSignedChain : (subject : List Byte) → List Byte
/-- The certificate that the Shakan issues with the DIK for slot 1 (R261, R309): issuer key (the DIK's scalar), subject public key,
register 4's value, and its numbered randomness, as the bytes of one certificate. -/
opaque slot1Cert : (issuer subject register4 : List Byte) → Nat → List Byte
/-- A certificate signing request (R259): subject key (its scalar), the request, and its numbered randomness. -/
opaque csrBytes : (key request : List Byte) → Nat → List Byte
/-- The SPDM key schedule (R260, DSP0274): byte `i` of the value a label number names, from the DHE secret and a transcript.
Labels: 0 and 1 the request and response keys of the handshake with their IV, 2 and 3 those of the session, 4 and 5 the finished
keys of requester and responder. -/
opaque spdmKey : (label : Nat) → (secret transcript : List Byte) → Nat → Byte
/-- The key and IV that KEY_UPDATE derives from a direction's key and IV (DSP0274). -/
opaque spdmUpdatedKey : List Byte → Nat → Byte
/-- CTExponent of CAPABILITIES, which the spec does not give. -/
opaque spdmCtExponent : Byte
/-- Code of ERROR NegotiationFail, which the spec names without its number (R260). -/
opaque spdmNegotiationFail : Byte
/-- The evidence blocks that make up the trusted computing base of a measurement summary hash. -/
opaque spdmTcbBlocks : List Nat
/-- The secured-message version selected in KEY_EXCHANGE_RSP. -/
opaque securedVersion : BitVec 16
/-- The vendor ID that the Shakan presents on CXL.io (R265, R397). -/
opaque vendorId : BitVec 16
/-- Bytes of configuration space whose contents PCIe and CXL 3.1 give, not the spec (R397). -/
opaque configByte : Nat → Byte
/-- What Identify Memory Device and the FM API report that the spec does not state: byte `i`. -/
opaque identifyByte : Nat → Byte

/-- Byte at an offset of the ring whose slot holds no record: Underlay contents the spec does not state (R445). -/
opaque ringByte : Nat → Byte

/-- A byte the spec leaves open, fresh for each number. -/
opaque freeByte : Nat → Byte
/-- A 32-bit value the spec leaves open, fresh for each number. -/
opaque freeWord : Nat → Word
/-- A choice the spec leaves open, fresh for each number. -/
opaque freeNat : Nat → Nat

end Sys2Proof.Config
end

