-- ==== Sys2Proof/Machine/State.lean ====
section
/-! DEFINITION. The state of the block: every register, queue, buffer, counter, mode and area the spec names, as plain
data, with the commands that wait first in, first out; and its state right after reset. -/

namespace Sys2Proof.Machine

/-- Why the machine would stop with a fault. -/
inductive Fault where
  /-- Raised by no command: the spec gives the block no access that stops it. It is here because the interface asks for
  a type of faults; safe. -/
  | none
  deriving DecidableEq, Repr

/-- Why a command has no meaning. -/
inductive Refusal where
  /-- An arm of `exec` for a command not modelled yet, by its mnemonic; safe. -/
  | notModelled (mnemonic : String)
  deriving DecidableEq, Repr

/-- The twelve device modes (R8). -/
inductive DevMode where
  | cold | gate | await | load | serve | doze | maintain | provision | trial | lockdown | barren | depot
  deriving DecidableEq, Repr

/-- Mode-change causes (R36). -/
inductive ModeCause where
  | powerOn | resetCmd | supply | anchors | noAnchors | blank | gateDone | raw
  | claim | window | loadReject | loadIdle | loadLink | loadAbort | purlinBad | loadDone | fwNotReady | loadTakeover
  | dozeEnter | wake | maintainBegin | maintainDone | maintainAbort | maintainFallback | trialCmd
  | ridgeRom | ridgeClock | thatch | loft | lifecycle | lockCmd | sensor | depotCmd | depotFuse
  deriving DecidableEq, Repr

/-- Lifecycle states (R8). -/
inductive Lifecycle where
  | raw | blank | provisioned | depot
  deriving DecidableEq, Repr

/-- The eight tile states (R71). -/
inductive TileState where
  | absent | off | held | fetch | early | run | restore | quarantine
  deriving DecidableEq, Repr

/-- Tile change causes (R81). -/
inductive TileCause where
  | cold | enable | disable | powerOn | pgoodRise | pgoodLoss | powerOff | pgoodTimeout | fetchCmd | earlyRelease
  | release | rerelease | tileReset | platformReset | alertReset | earlyMiss | underrun | verifyFail | restoreCmd
  | alertRecover | fallback | copyLost | watchedFail | restoreOk | noSource | switch | lockdown | depot
  | stageSet | stageClear
  deriving DecidableEq, Repr

/-- Status of a lockable OTP region (R324). -/
inductive RegionStatus where
  | unfinalised | locked | fault | retry
  deriving DecidableEq, Repr

/-- Where the COLD sequence stands (R41). -/
inductive ColdPhase where
  | off | attic | por | pll | sram | sense | ridge | decided | ended | supplyStop
  deriving DecidableEq, Repr

/-- G_MODE (R35). -/
structure GMode where
  mode         : DevMode
  prev         : DevMode
  cause        : ModeCause
  trial        : Bool
  barren       : Bool
  dozeArmed    : Bool
  fwFromPurlin : Bool
  loaderMb     : LdId
  deriving DecidableEq, Repr

/-- Start-up and mode bookkeeping (R37, R41, R43, R49 to R61). `wakeTick`: the tick of the last wake trigger that met a device
in SERVE (R61). -/
structure Boot where
  vddAon         : Bool
  suppliesOk     : Bool
  phase          : ColdPhase
  underlayDone   : Bool
  decision       : Option (DevMode × ModeCause)
  romDigest      : Digest
  romMatch       : Bool
  dozeHold       : Nat
  windowRunning  : Bool
  purlinBlocked  : Bool
  heldClaim      : Option LdId
  maintainFrom   : DevMode
  heldLockdown   : Option ModeCause
  ridgeHeld      : Bool
  wakeTick       : Option Nat
  ownerRun       : Option RafterRun
  deriving DecidableEq, Repr

/-- What the Loft runs (R33, R34, R55, R58, R533). -/
inductive LoftRun where
  | off | bootRom | released | imvon | reload | stopped
  deriving DecidableEq, Repr

/-- A lockstep takeover in progress (R34, R460): the mode at the mismatch and the commands completed meanwhile. -/
structure Takeover where
  mode    : DevMode
  okCount : Nat
  busyCount : Nat
  bootRom : Bool
  deriving DecidableEq, Repr

/-- The Loft's pairs (R32 to R34): what they run, which pair runs it, a takeover in progress. -/
structure Loft where
  run      : LoftRun
  onPairB  : Bool
  takeover : Option Takeover
  deriving DecidableEq, Repr

/-- FW_STATUS.phase (R432). -/
inductive FwPhase where
  | idle | claimed | manifest | blocks | verified | reload
  deriving DecidableEq, Repr

/-- A firmware image with its manifest and tree, as a slot of the Underlay holds it (R55, R58, R223). Nodes are keyed
level × 65536 + index. -/
structure FwImage where
  manifest : List Byte
  digest   : Digest
  nodes    : List (Nat × List Byte)
  blocks   : List (Nat × List Byte)
  deriving DecidableEq, Repr

/-- The firmware load in progress (R50 to R57). `second0`, `second1`: the second copies of the firmware slots (R442, R448). -/
structure FwLoad where
  phase      : FwPhase
  claimMb    : LdId
  fromPurlin : Bool
  windowRun  : Option (Nat × Nat)
  image      : Option FwImage
  rejected   : Nat
  slot0      : Option FwImage
  slot1      : Option FwImage
  second0    : Option FwImage
  second1    : Option FwImage
  running    : Option FwImage
  deriving DecidableEq, Repr

/-- One temperature site (R494, R495): latest reading in 0.1 °C, its conditions, the reading at the last OTP sense. -/
structure TempSite where
  deci     : Int
  warn     : Bool
  crit     : Bool
  atSense  : Int
  deriving DecidableEq, Repr

/-- Always-on domain (R16, R490 to R503). `cycleTick`: the tick at which the power-cycle count last advanced (R465). -/
structure Attic where
  tick          : Nat
  cycleTick     : Nat
  hours         : Nat
  cycles        : Nat
  countersFresh : Bool
  crystal       : Bool
  xtalLost      : Bool
  keptSeq       : Nat
  locked        : BitVec 5
  relocks       : Nat
  sites         : Vector TempSite 8
  vmon          : Vector VmonLevel 12
  bank3v3       : BitVec 4
  sparStopped   : Bool
  clocksHeld    : BitVec 4
  vppIn         : Bool
  pwrTick       : Option Nat
  deriving DecidableEq, Repr

/-- Calibration in force (R499 to R503). -/
structure Cal where
  state       : BitVec 2
  pending     : Bool
  pwrSpacing  : BitVec 8
  pwrGroup    : BitVec 8
  block       : List Byte
  deriving DecidableEq, Repr

/-- A sparse array of words: (index, value) pairs, strictly rising, no zero value listed. -/
abbrev Rows := List (Nat × Word)

/-- The OTP array, its shadows and its controller (R317 to R338). Spare S_e has row number 2048 + e. `behind`: the mailboxes whose
command waited at the responder while the last programming command ran (R328). -/
structure Otp where
  normal          : Rows
  strict          : Rows
  shadow          : Rows
  status          : Vector RegionStatus 5
  lifecycle       : Lifecycle
  undecodable     : Bool
  busy            : Bool
  overrides       : Bool
  policyOverridden : Bool
  marginal        : List Nat
  marginalCold    : Nat
  marginalResense : Nat
  lastPass        : BitVec 2
  senseHours      : Nat
  senseWaiting    : Bool
  redirected      : List (Nat × Nat)
  badSpares       : List Nat
  lcBurned        : Bool
  behind          : List LdId
  senser          : Option LdId
  feature         : Word
  deriving DecidableEq, Repr

/-- A ridge register entry (R250). lastBy: 0 none, 1 Ridge domain, 2 boot ROM, 3 Loft, 4 gate. -/
structure RidgeReg where
  value     : Digest
  counter   : BitVec 64
  epoch     : BitVec 16
  saturated : Bool
  overflow  : Bool
  trial     : Bool
  lastBy    : BitVec 8
  gen       : Word
  deriving DecidableEq, Repr

/-- A measurement log entry (R252). -/
structure LogEntry where
  reg     : Nat
  kind    : BitVec 8
  lastBy  : BitVec 8
  gen     : Word
  counter : BitVec 64
  digest  : Digest
  deriving DecidableEq, Repr

/-- A request at the boundary of the Ridge domain (R20, R239): an extend with who makes it, the event kind, T_GEN and digest
logged, or the reset of a register. -/
inductive RidgeReq where
  | extend (reg : Fin 320) (who kind : BitVec 8) (gen : Word) (digest : Digest)
  | reset (reg : Fin 320)
  deriving DecidableEq, Repr

/-- The Ridge domain (R240 to R257): its power, the requests held at its boundary in their order (R20), its registers and
the measurement log, oldest entry first. -/
structure Ridge where
  powered : Bool
  held    : List RidgeReq
  regs    : Vector RidgeReg 320
  log     : List LogEntry
  deriving DecidableEq, Repr

/-- Slot state (R299). -/
inductive SlotState where
  | empty | valid | bad
  deriving DecidableEq, Repr

/-- A key slot (R299, R300, R302). `ty`: 0 AES128, 1 AES256, 2 HMAC, 3 P384, 4 MLDSA87, 5 SECRET; `origin`: 0 GENERATED,
1 DERIVED, 2 IMPORTED; `material` byte k at bits [8k+7:8k]. -/
structure KeySlot where
  state      : SlotState
  ty         : BitVec 4
  origin     : BitVec 2
  fresh      : Bool
  exportable : Bool
  system     : Bool
  usage      : BitVec 10
  keyBytes   : BitVec 7
  owner      : BitVec 5
  parent     : BitVec 8
  layer      : BitVec 4
  material   : BitVec 512
  tag        : BitVec 64
  salt       : Word
  counter    : BitVec 64
  deriving DecidableEq, Repr

/-- A request to the key store held at the boundary while the port is (R20): the destruction of a slot, the advance of a slot's counter
(R282), or the slots and certificate of a firmware release. -/
inductive KeyReq where
  | destroy (slot : Fin 256)
  | advance (slot : Fin 256)
  | firmware
  deriving DecidableEq, Repr

/-- The key store (R299 to R315); `held`: requests held at the boundary, in their order (R20); `formed`: the material the Ridge domain
last derived for each of its slots, which deriving one again gives again (R304). -/
structure Keys where
  slots         : Vector KeySlot 256
  storeKey      : Digest
  journalKey    : Digest
  bootNonce     : Option Digest
  uds           : Option (BitVec 256)
  storeFallback : Bool
  tagFailures   : Nat
  slot2Chain    : List Byte
  aliasCert     : List Byte
  held          : List KeyReq
  formed        : List (Nat × BitVec 512)
  deriving DecidableEq, Repr

/-- A Thatch context (R268 to R279). `tested`: the lanes that passed their known-answer test since the context last ran a block (R279).
`alg`: 0 SHA-256, 1 SHA-384, 2 SHA-512; `pads`: the two chaining states of an HMAC key (R274); `bound`: the register its digest goes to
(R275); `forced`: a chaining state that two lanes of a DUAL context agreed on and that is not the true one, with the bytes taken by then
(R276). -/
structure HashCtx where
  alg     : BitVec 2
  slot    : Option Nat
  pads    : Option (BitVec 512 × BitVec 512)
  bound   : Option (Fin 320)
  dual    : Bool
  data    : List Byte
  forced  : Option (Nat × BitVec 512)
  tested  : BitVec 32
  tainted : Bool
  closed  : Bool
  failed  : Bool
  deriving DecidableEq, Repr

/-- A Spar context (R280 to R286). `mode`: 0 GCM, 1 CTR, 2 KW, 3 KWP. -/
structure SparCtx where
  mode    : BitVec 2
  decrypt : Bool
  session : Bool
  slot    : Nat
  key     : List Byte
  iv      : List Byte
  aad     : List Byte
  text    : List Byte
  textSeen : Bool
  closed  : Bool
  failed  : Bool
  deriving DecidableEq, Repr

/-- Who holds an entry of an engine's job queue: a mailbox engine, or a domain without a mailbox (R268). -/
abbrev JobOwner := LdId ⊕ Domain

/-- Engines, entropy and DRBG (R268 to R297). Thatch contexts: 12 of each mailbox, 32 of the Loft, 32 of the Ridge domain, 8 of the
gate for each tile; Spar contexts: 6 of each mailbox, 32 of the Loft; `sparQ` and `rafterQ`: the jobs that hold a queue entry
(R16, R268). -/
structure Engines where
  retired      : BitVec 32
  ecRetired    : BitVec 2
  latRetired   : BitVec 2
  thatch       : Vector (Option HashCtx) 512
  spar         : Vector (Option SparCtx) 128
  sparQ        : List JobOwner
  rafterQ      : List JobOwner
  sparRefused  : List Nat
  source       : BitVec 2
  inst0Ready   : Bool
  inst1Ready   : Bool
  hourFailures : Nat
  startFails   : Nat
  rct          : Nat
  apt          : Nat
  calls0       : Nat
  calls1       : Nat
  since0       : Nat
  since1       : Nat
  deriving DecidableEq, Repr

/-- A raise waiting in the Gutter queue (R465, R467): stamped when it was raised. -/
structure Waiting where
  hours    : Nat
  cycles   : Nat
  tick     : Nat
  source   : Nat
  severity : Nat
  tile     : Nat
  code     : Nat
  payload  : Payload
  deriving DecidableEq, Repr

/-- A record of the ring (R465). -/
structure Record where
  seq : Nat
  body : Waiting
  mac : BitVec 64
  deriving DecidableEq, Repr

/-- A drop episode (R469, R460), stamped at its first drop. -/
structure Episode where
  reason : Nat
  source : Nat
  count  : Nat
  hours  : Nat
  cycles : Nat
  tick   : Nat
  deriving DecidableEq, Repr

/-- The recorder (R458 to R477). `journal`: records in Purlin with their slot of the journal area, oldest first; `ring`:
records in the ring, oldest first; `jHead`: sequence number of the head J found at COLD, 0 if none; `jPos`: the slot the
writer programs next; `jUnit`: the writer starts the next unit first (R474, R475). -/
structure Gutter where
  queue     : List Waiting
  started   : Bool
  seq       : Nat
  mac       : BitVec 64
  ring      : List Record
  headSlot  : Nat
  filled    : Bool
  overwrite : Bool
  jState    : BitVec 2
  jSeq      : Nat
  scanning  : Bool
  verdict   : BitVec 3
  episode   : Option Episode
  drops     : Nat
  journal   : List (Nat × Record)
  jHead     : Nat
  jPos      : Nat
  jUnit     : Bool
  torn      : Bool
  loft      : BitVec 512
  deriving DecidableEq, Repr

/-- What one CXL.io function holds of events (R461 to R463, R477), MSI-X (R398, R463, R484), its configuration space (R397) and accesses
(R513). `capHead`, `capLow`, `capJrnl`: the captured HI word its next read returns; `msixOn`, `msixMask`: the enable and the function mask
of MSI-X; `bars`: the addresses that BAR0 and BAR2 hold; `msgAddr`: message address and data of a vector; `waiting`: vectors whose
message waits for credits; `sent`: messages issued, vector with address and data. -/
structure FnEvents where
  pend      : BitVec 512
  routes    : List Host.Cell
  quarter   : BitVec 2
  capHead   : Option Word
  capLow    : Option Word
  capJrnl   : Option Word
  msixOn    : Bool
  msixMask  : Bool
  bars      : BitVec 64 × BitVec 64
  vecMask   : BitVec 64
  pending   : BitVec 64
  msgAddr   : List (Nat × BitVec 96)
  waiting   : List Nat
  sent      : List (Nat × BitVec 96)
  addrOver  : Bool
  unmapped  : Bool
  overruns  : Nat
  deriving DecidableEq, Repr

/-- A mailbox block (R416). -/
structure Mailbox where
  opcode       : BitVec 16
  flags        : BitVec 16
  length       : Word
  gen          : Word
  tag          : BitVec 16
  go           : Bool
  busy         : Bool
  done         : Bool
  ringIgnored  : Bool
  writeIgnored : Bool
  compStatus   : BitVec 8
  compTag      : BitVec 16
  compLen      : Word
  compGen      : Word
  fill         : Nat
  payload      : List Host.Cell
  deriving DecidableEq, Repr
/-- The tables of one bank (R22, R97, R171, R185, R189, R214, R237, R515), as their register words. -/
structure Tables where
  policy  : Word
  policy2 : Word
  serve   : Word
  sweep   : Word
  recover : Word
  cls     : Word
  filter  : Word
  ident   : Word
  optab   : Vector Word 256
  deriving DecidableEq, Repr

/-- T_STATE and T_GEN (R76). `pgoodCond`: 0 NORMAL, 1 CHATTER; `alertCond`: 0 NORMAL, 1 CHATTER, 2 STUCK. -/
structure TileCtl where
  state         : TileState
  stage         : Bool
  switchPending : Bool
  noEarly       : Bool
  pgood         : Bool
  alert         : Bool
  pgoodCond     : BitVec 2
  alertCond     : BitVec 2
  pwrEn         : Bool
  rstHeld       : Bool
  resetsCapped  : Bool
  pwrPending    : Bool
  cause         : TileCause
  prev          : TileState
  gen           : Word
  deriving DecidableEq, Repr

/-- Power, input conditioning and reset bookkeeping (R80 to R101). `resumedDone`: phase DONE stood at the entry to the resumed fetch
(R84). -/
structure TilePower where
  settled        : Bool
  flashReady     : Bool
  pwrCause       : TileCause
  pwrDropPending : Bool
  offUntil       : Nat
  pgoodQ         : Bool
  alertQ         : Bool
  pgoodEdges     : List Nat
  alertEdges     : List Nat
  stateDenied    : Bool
  resumed        : Bool
  resumedDone    : Bool
  afterReset     : Bool
  autoResets     : Nat
  noEarlyDigest  : Digest
  powerCtl       : Bool
  flashPower     : Bool
  deriving DecidableEq, Repr

/-- A group read ahead of acceptance (R139), with the flash it came from (true: the twin). -/
structure AheadGroup where
  group : Nat
  twin  : Bool
  read  : GroupRead
  deriving DecidableEq, Repr

/-- An upper node read ahead of acceptance (R139, R140), with the flash it came from and the lane runs of its comparisons. -/
structure AheadNode where
  key       : Nat
  twin      : Bool
  node      : List Byte
  other     : Option (List Byte)
  runs      : CmpRuns
  otherRuns : CmpRuns
  deriving DecidableEq, Repr

/-- T_VERIFY, T_PROGRESS, T_WMARK (R159) and the walker's bookkeeping (R129 to R153). `readFails`: the reads that failed once and are
issued once more on the same flash (true: the twin), by address (R135); `discTries`: discoveries made in this fetch (R88). -/
structure TileVerify where
  phase       : BitVec 4
  partition   : Bool
  readTwin    : Bool
  mainFault   : Bool
  twinFault   : Bool
  cause       : BitVec 8
  accepted    : Bool
  watchedHeld : Bool
  region      : BitVec 5
  replaced    : Nat
  prefixLen   : Nat
  watermark   : Nat
  manifest    : List Byte
  digest      : Digest
  sigPending  : Bool
  checkCause  : BitVec 8
  nodes       : List (Nat × List Byte)
  verified    : List Nat
  held        : List Nat
  ahead       : List AheadGroup
  aheadNodes  : List AheadNode
  openDone    : Bool
  replMain    : Nat
  replTwin    : Nat
  mismMain    : Bool
  mismTwin    : Bool
  readFails   : List (Bool × Nat)
  discTries   : Nat
  trialFetch  : Bool
  source      : BitVec 8
  startTick   : Nat
  deriving DecidableEq, Repr

/-- The manifest in force since the last release (R131, R515) and what the release record needs (R246, R257). -/
structure TileForce where
  manifest   : List Byte
  digest     : Digest
  partition  : Bool
  source     : BitVec 8
  lastKind   : BitVec 8
  layout     : Option (Nat × Nat × Nat × Nat)
  headLayout : Option (Nat × Nat × Nat × Nat)
  copyValid  : Bool
  deriving DecidableEq, Repr

/-- T_RESTORE (R237) and the restore in progress (R216 to R221). `failedTrial`: the failed trial's manifest digest, or the first 16 bytes
that the ARMED record gives of it; `mainOut`, `twinOut`: the flash has been marked down since its last discovery (R218). -/
structure TileRestore where
  source     : BitVec 3
  waiting    : Bool
  tried      : BitVec 5
  fallback   : Bool
  goldenU    : Bool
  goldenBusy : Bool
  lastCause  : BitVec 8
  restores   : Nat
  readTwin   : Bool
  selected   : Bool
  failedTrial : Option (Digest ⊕ BitVec 128)
  badAddrs   : List Nat
  goldenPend : List Byte
  golden     : List Byte
  goldenBase : Nat
  ready      : Bool
  writing    : Option (Bool × BitVec 8)
  mainOut    : Bool
  twinOut    : Bool
  deriving DecidableEq, Repr

/-- A switch record waiting to be written, as an update write (R233): partition, state code, manifest digest. -/
structure SwitchWrite where
  partition : Bool
  state     : BitVec 8
  digest    : Digest
  deriving DecidableEq, Repr

/-- A write in the tile's write queue (R202), or a mirrored one (R231): the size of the view erase, 0 for a program; the ranges of
the area it changes, as offset and length; the resulting bytes of a program; how far it has come, with the attempts made. -/
structure RuledWrite where
  size  : Nat
  parts : List (Nat × Nat)
  data  : List Byte
  mainDone : Bool
  tries : Nat
  deriving DecidableEq, Repr

/-- A unit of a STAGE-rule commit (R207): its number, the bytes of its erase unit taken as the erase begins, whether main has it,
the attempts made, and whether the commit ends with it. -/
structure CommitUnit where
  unit  : Nat
  bytes : List Byte
  mainDone : Bool
  tries : Nat
  last  : Bool
  deriving DecidableEq, Repr

/-- T_UPDATE and T_TRIAL (R237) and the update in progress (R226 to R234). `records`: the switch-record area as SELECT read it and
the gate has written it since, by slot (R128). `staged` and `stagedBad`: the staging area as a commit found it, and its lines that
were poisoned (R227, R448). -/
structure TileUpdate where
  phase     : BitVec 4
  owner     : BitVec 2
  mailbox   : LdId
  target    : Bool
  selected  : Bool
  bootOk    : Bool
  result    : BitVec 3
  cause     : BitVec 8
  runMs     : Nat
  trialTick : Nat
  count     : Nat
  step      : Nat
  staged    : List Host.Cell
  stagedBad : List Nat
  content   : List Byte
  mainOk    : Bool
  twinOk    : Bool
  trial     : Option Digest
  switchSeq : Nat
  selDigest : BitVec 128
  records   : List (Nat × List Byte)
  switches  : List SwitchWrite
  mirror    : List RuledWrite
  deriving DecidableEq, Repr

/-- A stream slot of the prefetch buffer (R168): the view address after the last byte served from it, the line at which it stopped for
what stands there until the read has reached it (R169), and the 64-byte lines of the view it holds. -/
structure Slot where
  pos   : Nat
  stop  : Option Nat
  lines : List Nat
  deriving DecidableEq, Repr

/-- T_SERVE_STAT (R174), the prefetch slots (R168: least recently used last), the once-per-release event marks (R151) and the
emulated SFDP image built at the last release (R167). -/
structure TileServe where
  underruns  : Nat
  outside    : Nat
  slots      : List Slot
  sfdp       : List Byte
  missed     : List Nat
  missedW    : List (Nat × Bool)
  deriving DecidableEq, Repr

/-- A repair (R181): the flash, the address of the erase unit, the attempts made, and whether its erase has been issued. -/
structure Repair where
  twin  : Bool
  addr  : Nat
  tries : Nat
  begun : Bool
  deriving DecidableEq, Repr

/-- T_SWEEP_STAT (R186) and the repair queue (R181). `pos`: the item of the area that a pass compares next (R177); `passTick`: when
the last pass began, or phase DONE was reached (R176). -/
structure TileSweep where
  phase      : BitVec 4
  pos        : Nat
  target     : Bool
  mainDown   : Bool
  twinDown   : Bool
  mismatches : Nat
  lastMism   : Nat
  passes     : Nat
  passTick   : Nat
  repairs    : List Repair
  suspect    : List Nat
  densityMain : Nat
  densityTwin : Nat
  deriving DecidableEq, Repr

/-- Why an event was held back and how often (R212, R385): a key, the tick it was last raised, the count since. -/
structure Holdoff where
  key  : Nat
  tick : Nat
  held : Nat
  deriving DecidableEq, Repr

/-- Emulated registers (R192 to R196), write queue (R202) and STAGE-rule units (R207), T_FILTER_STAT (R214). `going`: a write
that left the queue while its program or erase was in progress on a flash (true: the twin), which still completes (R205). -/
structure TileFilter where
  wel        : Bool
  wip        : Bool
  statusHi   : BitVec 6
  eraseErr   : Bool
  progErr    : Bool
  protErr    : Bool
  eraseSus   : Bool
  progSus    : Bool
  addr4      : Bool
  protocol   : BitVec 2
  octalDummy : BitVec 8
  wrap       : BitVec 8
  spare      : BitVec 32
  resetArmed : Bool
  queue      : List RuledWrite
  changed    : List Nat
  committing : List CommitUnit
  going      : Option (RuledWrite × Bool)
  progTokens : List (Nat × Nat × Nat)
  eraseTokens : List (Nat × Nat × Nat)
  holdoffs   : List Holdoff
  denyCount  : Nat
  frameBad   : Nat
  busyIgn    : Nat
  noWel      : Nat
  writesDone : Nat
  commitsDone : Nat
  wroteMain  : Bool
  wroteTwin  : Bool
  deriving DecidableEq, Repr

/-- A sideband reply as built (R374): the status word and the result words. -/
structure Reply where
  status : Word
  words  : List Word
  deriving DecidableEq, Repr

/-- A slot of the Loft's range, counted from slot 16 (R305). -/
abbrev LoftSlot := Fin 112

/-- An SPDM session (R263, R264): the key slots of its two directions, its secret and transcript, and what the encapsulated flow of
mutual authentication has read: `encap` 0 not requested, 1 reading the chain, 2 read. -/
structure Session where
  id         : Nat
  slot       : Nat
  mutualAuth : Bool
  encap      : Nat
  peerChain  : List Byte
  peer       : Digest
  done       : Bool
  secret     : List Byte
  th         : List Byte
  reqSlot    : LoftSlot
  rspSlot    : LoftSlot
  deriving DecidableEq, Repr

/-- SPDM connection state of one responder (R259 to R266): how far the connection has come, its transcripts, the request being handled
(`locked`: a secured message not yet opened) with its session, the response waiting, its sessions, and the messages carried in chunks.
-/
structure Spdm where
  versioned  : Bool
  capable    : Bool
  mutCap     : Bool
  chunkCap   : Bool
  negotiated : Bool
  vca        : List Byte
  msgB       : List Byte
  msgL       : List Byte
  request    : Option (List Byte)
  locked     : Bool
  inSession  : Option Nat
  response   : Option (List Byte × Bool)
  sessions   : List Session
  chunkIn    : List Byte
  chunkSeq   : Nat
  chunkTotal : Nat
  large      : List Byte
  largeSeq   : Nat
  handle     : Byte
  deriving DecidableEq, Repr

/-- Sideband state (R379 to R382, R390). -/
structure TileSideband where
  mode      : BitVec 2
  frames    : BitVec 16
  bad       : Nat
  skips     : Nat
  spdmBusy  : Bool
  spdmReady : Bool
  secured   : Bool
  length    : Nat
  lastCmd   : BitVec 8
  lastResult : BitVec 8
  lastAlive : BitVec 4
  scratch   : Vector Word 16
  buffer    : List Host.Cell
  alive     : Option (BitVec 4)
  reply     : Reply
  statBad   : Nat
  statUnder : Nat
  statSkips : Nat
  spdm      : Spdm
  deriving DecidableEq, Repr

/-- The tile's flashes as last discovered, T_EAVE_ID and T_EAVE_STAT (R361). `mainShown` and `twinShown`: the profile registers show the
discovery, which a tile reset ends (R15, R361); `readId`: the identification bytes as the last DISCOVER read them (R194); `mainWork` and
`twinWork`: the work of the program or erase outstanding (R350, R361); `queue`: the port's entries with their work, oldest first (R346,
R361); `chain`: the select that is held, true for the twin's (R348); `buffer`: the port's SRAM, by buffer offset (R346); `last`: the
entry completed last, as the port wrote it back; `mainFailed`, `twinFailed`: the last failed entry of a flash as the port wrote it back;
`format`: the part of the push buffer that an IMAGE_FORMAT writes, as offset and length (R431). -/
structure TileEave where
  main       : Option Discovery
  twin       : Option Discovery
  mainShown  : Bool
  twinShown  : Bool
  twinFitted : Bool
  mainId     : BitVec 16
  twinId     : BitVec 16
  readId     : BitVec 16
  mainWork   : Option EaveWork
  twinWork   : Option EaveWork
  queue      : List (BitVec 128 × EaveWork)
  chain      : Option Bool
  buffer     : List Host.Cell
  last       : BitVec 128
  mainFailed : Option (BitVec 128)
  twinFailed : Option (BitVec 128)
  lastError  : BitVec 4
  lastSel    : Bool
  readErrors : Nat
  writeErrors : Nat
  format     : Option (Nat × Nat)
  deriving DecidableEq, Repr

/-- The tile's Underlay areas (R442): verified copy, level-1 nodes, OPEN copy, staging area with its granules, and the
granules its update area and golden copy take (R443). -/
structure TileMem where
  copy     : List Host.Cell
  tree     : List (Nat × List Byte)
  opens    : List Host.Cell
  staging  : List Host.Cell
  granules : List Nat
  updGranules : Nat
  goldGranules : Nat
  deriving DecidableEq, Repr

/-- A tile (R21, R22): its registers and areas; `switching`: the mailbox whose bank commit waits for the switch (R22, R430). -/
structure Tile where
  ctl      : TileCtl
  power    : TilePower
  active   : Tables
  inactive : Tables
  switching : Option LdId
  verify   : TileVerify
  force    : TileForce
  restore  : TileRestore
  update   : TileUpdate
  serve    : TileServe
  sweep    : TileSweep
  filter   : TileFilter
  side     : TileSideband
  eave     : TileEave
  mem      : TileMem
  deriving DecidableEq, Repr

/-- One key of an IDE stream (R405): the key set, direction and sub-stream it was programmed for, the slot that holds it, and the copy
its pipe holds while its key epoch lasts (R30, R307). -/
structure IdeKey where
  sub  : Byte
  slot : Fin 256
  key  : Option (BitVec 256)
  deriving DecidableEq, Repr

/-- A CXL.mem response that waits in its S2M slot for a credit of the host (R482, R483): the data, and the code it is answered with. -/
structure S2m where
  data : List Byte
  code : Nat
  deriving DecidableEq, Repr

/-- A host head (R413, R483, R484); `skid`: the CXL IDE mode, skid or containment (R405); `posted`, `drs`, `ndr`: the posted and S2M credits
the host has given and not taken back, none for infinite; `drsHeld`, `ndrHeld`: the responses that wait for one, oldest first; `turn`:
the pointer of the arbiter of its functions' messages (R486). -/
structure Head where
  up      : Bool
  rate    : BitVec 3
  width   : BitVec 5
  flit256 : Bool
  ioPipe  : List IdeKey
  memPipe : List IdeKey
  skid    : Bool
  reason  : BitVec 3
  downs   : Nat
  posted  : Option Nat
  drs     : Option Nat
  ndr     : Option Nat
  drsHeld : List S2m
  ndrHeld : List S2m
  turn    : Fin 16
  deriving DecidableEq, Repr

/-- A committed HDM decoder (R404). -/
structure Decoder where
  base : Nat
  size : Nat
  dpa  : Nat
  lock : Bool
  deriving DecidableEq, Repr

/-- A logical device (R395 to R410). -/
structure Ld where
  enabled   : Bool
  pipe      : List IdeKey
  decoders  : Vector (Option Decoder) 4
  spdm      : Spdm
  doeBusy   : Bool
  quote     : Option (List (Nat × List Byte))
  denyTick  : Option Nat
  denyCount : Nat
  denyDpa   : Nat
  filtTick  : Option Nat
  filtCount : Nat
  timestamp : Option (Nat × Nat)
  deriving DecidableEq, Repr

/-- The Gable port (R392 to R414); `lanes`: the lanes a head keeps, as a mask (R394); `loaderAlive`: the loader rule has not failed since
LOAD_DONE; `stayed`: the logical devices whose head has stayed up and whose function has not been reset since then (R408); `fmSpdm`,
`fmBusy`: the DOE of the FM-owned logical device (R396, R405); `tokens`: bytes left in the bucket of the push and stage windows after the
last write (R485). -/
structure HostPort where
  straps      : BitVec 2
  bifur       : BitVec 2
  bifCapped   : Bool
  widths      : Vector (BitVec 5) 4
  lanes       : Vector (BitVec 16) 4
  mld         : Bool
  ldCount     : Nat
  ownerSource : BitVec 2
  ownerDigest : Option Digest
  loaderAlive : Bool
  stayed      : BitVec 16
  fmSpdm      : Spdm
  fmBusy      : Bool
  heads       : Vector Head 4
  lds         : Vector Ld 16
  poison      : List Nat
  qos         : List Byte
  tokens      : Nat
  deriving DecidableEq, Repr

/-- The Purlin port (R355 to R361) and the contents of the Shakan's own flash. `queues`: the entries of the Loft, the gate, the Gutter
and the boot ROM, oldest first; `turn`: the requester with the highest priority, 4 for mapped reads; `chain`: the submitter whose select
is held (R348, R355); `buffer`: the port's SRAM (R346); `last`: the entry completed last, as the port wrote it back (R346, R360);
`omitting`: the flash is in continuous read (R358); `ranges`: submitter, address and length of the programs and erases whose poll has
not read ready (R357); `miss`: the mapped miss that waits for the flash (R359). -/
structure Purlin where
  queues     : Vector (List (BitVec 128)) 4
  turn       : Nat
  chain      : Option Nat
  buffer     : List Host.Cell
  last       : BitVec 128
  omitting   : Bool
  state      : BitVec 2
  disc       : Option Discovery
  cfg        : BitVec 4
  busy       : Bool
  suspended  : Bool
  lastError  : BitVec 4
  mapErrors  : Nat
  errors     : Nat
  runErrors  : Nat
  lines      : List Nat
  served     : Nat
  ranges     : List (Nat × Nat × Nat)
  miss       : Option (Nat × Nat)
  contents   : List Host.Cell
  deriving DecidableEq, Repr

/-- Underlay and SRAM integrity (R439 to R456); `spares`: the spare table, the lines moved, latest first (R446); `memTick`: the tick of
the last CXL.mem access (R453); `poisoned`: staging lines of a tile, push-buffer lines as tile 32
(R448 code 3). -/
structure MemCtl where
  initDone    : Bool
  scrubbing   : Bool
  channelUp   : BitVec 8
  retrains    : Vector Nat 8
  badLines    : Vector (List Nat) 8
  spares      : List Nat
  sparesOut   : Bool
  passes      : BitVec 16
  corrected   : Nat
  uncorrU     : Nat
  uncorrS     : Nat
  corrTick    : List (Nat × Nat × Nat)
  poolTick    : Option Nat
  selfRefresh : Bool
  memTick     : Option Nat
  push        : List Host.Cell
  poisoned    : List (Nat × Nat)
  deriving DecidableEq, Repr

/-- What the block drove on its last response: bytes on a bus or link, and a completion code of that interface. -/
structure Response where
  data : List Byte
  code : Nat
  deriving DecidableEq, Repr

/-- The block. `pending`: the commands that wait, first in, first out; `responder`: mailboxes whose command is accepted, in doorbell
order (R425); `resp`: what the last command drove; `freeCtr`: the model's own count of free values drawn (log entry 13). -/
structure State where
  pending   : List Instr
  gmode     : GMode
  boot      : Boot
  loft      : Loft
  fw        : FwLoad
  attic     : Attic
  cal       : Cal
  otp       : Otp
  ridge     : Ridge
  keys      : Keys
  eng       : Engines
  gutter    : Gutter
  fns       : Vector FnEvents 16
  mbs       : Vector Mailbox 16
  responder : List LdId
  tiles     : Vector Tile 32
  host      : HostPort
  purlin    : Purlin
  memctl    : MemCtl
  resp      : Response
  freeCtr   : Nat
  deriving DecidableEq, Repr

/-! ### Codes -/

def DevMode.code : DevMode → Nat
  | .cold => 0 | .gate => 1 | .await => 2 | .load => 3 | .serve => 4 | .doze => 5 | .maintain => 6 | .provision => 7
  | .trial => 8 | .lockdown => 9 | .barren => 10 | .depot => 11

def ModeCause.code : ModeCause → Nat
  | .powerOn => 0x00 | .resetCmd => 0x01 | .supply => 0x02 | .anchors => 0x10 | .noAnchors => 0x11 | .blank => 0x12
  | .gateDone => 0x13 | .raw => 0x14 | .claim => 0x20 | .window => 0x21 | .loadReject => 0x22 | .loadIdle => 0x23
  | .loadLink => 0x24 | .loadAbort => 0x25 | .purlinBad => 0x26 | .loadDone => 0x27 | .fwNotReady => 0x28
  | .loadTakeover => 0x29 | .dozeEnter => 0x30 | .wake => 0x31 | .maintainBegin => 0x32 | .maintainDone => 0x33
  | .maintainAbort => 0x34 | .maintainFallback => 0x35 | .trialCmd => 0x36 | .ridgeRom => 0x40 | .ridgeClock => 0x41
  | .thatch => 0x42 | .loft => 0x43 | .lifecycle => 0x44 | .lockCmd => 0x45 | .sensor => 0x46 | .depotCmd => 0x50
  | .depotFuse => 0x51

def Lifecycle.code : Lifecycle → Nat
  | .raw => 0 | .blank => 1 | .provisioned => 2 | .depot => 3

def TileState.code : TileState → Nat
  | .absent => 0 | .off => 1 | .held => 2 | .fetch => 3 | .early => 4 | .run => 5 | .restore => 6 | .quarantine => 7

def TileCause.code : TileCause → Nat
  | .cold => 0x00 | .enable => 0x01 | .disable => 0x02 | .powerOn => 0x03 | .pgoodRise => 0x04 | .pgoodLoss => 0x05
  | .powerOff => 0x06 | .pgoodTimeout => 0x07 | .fetchCmd => 0x08 | .earlyRelease => 0x09 | .release => 0x0A
  | .rerelease => 0x0B | .tileReset => 0x0C | .platformReset => 0x0D | .alertReset => 0x0E | .earlyMiss => 0x0F
  | .underrun => 0x10 | .verifyFail => 0x11 | .restoreCmd => 0x12 | .alertRecover => 0x13 | .fallback => 0x14
  | .copyLost => 0x15 | .watchedFail => 0x16 | .restoreOk => 0x17 | .noSource => 0x18 | .switch => 0x19
  | .lockdown => 0x1A | .depot => 0x1B | .stageSet => 0x1C | .stageClear => 0x1D

def RegionStatus.code : RegionStatus → Nat
  | .unfinalised => 0 | .locked => 1 | .fault => 2 | .retry => 3

def SlotState.code : SlotState → Nat
  | .empty => 0 | .valid => 1 | .bad => 2

/-! ### The default tables of the boot ROM (R97, R171, R185, R191, R214, R237) -/

/-- An opcode table entry from its fields (R189). -/
def optEntry (action func addr dummy wrap io proto busyOk wel : Nat) : Word :=
  BitVec.ofNat 32 (action + func * 8 + addr * 256 + dummy * 1024 + wrap * 32768 + io * 65536 + proto * 1048576 +
    busyOk * 16777216 + wel * 33554432)

/-- Protocol bits: S 1, Q 2, O 4, D 8 (R189). -/
def defaultOptab : Nat → Word
  | 0x03 => optEntry 1 0 1 0 0 0 1 1 0 | 0x13 => optEntry 1 0 3 0 0 0 1 1 0
  | 0x0B => optEntry 1 0 1 8 0 0 1 1 0 | 0x0C => optEntry 1 0 3 8 0 0 1 1 0
  | 0x3B => optEntry 1 0 1 12 0 1 1 1 0 | 0x3C => optEntry 1 0 3 12 0 1 1 1 0
  | 0xBB => optEntry 1 0 1 12 0 2 1 1 0 | 0xBC => optEntry 1 0 3 12 0 2 1 1 0
  | 0x6B => optEntry 1 0 1 12 0 3 1 1 0 | 0x6C => optEntry 1 0 3 12 0 3 1 1 0
  | 0xEB => optEntry 1 0 1 12 0 4 3 1 0 | 0xEC => optEntry 1 0 3 12 0 4 7 1 0
  | 0xEE => optEntry 1 0 3 0 0 0 8 1 0
  | 0x5A => optEntry 1 1 2 8 0 0 15 1 0
  | 0x9F => optEntry 2 0 0 0 0 0 15 1 0 | 0x05 => optEntry 2 1 0 0 0 0 15 1 0
  | 0x70 => optEntry 2 2 0 0 0 0 15 1 0 | 0x85 => optEntry 2 7 1 8 0 0 15 1 0
  | 0x06 => optEntry 2 4 0 0 0 0 15 1 0 | 0x04 => optEntry 2 5 0 0 0 0 15 1 0
  | 0x50 => optEntry 2 3 0 0 0 0 15 1 0
  | 0x01 => optEntry 2 6 0 0 0 0 15 0 1 | 0x81 => optEntry 2 8 1 0 0 0 15 0 1
  | 0xB7 => optEntry 2 9 0 0 0 0 15 1 0 | 0xE9 => optEntry 2 10 0 0 0 0 15 1 0
  | 0x66 => optEntry 2 11 0 0 0 0 15 1 0 | 0x99 => optEntry 2 12 0 0 0 0 15 1 0
  | 0x75 => optEntry 2 13 0 0 0 0 15 1 0 | 0x7A => optEntry 2 14 0 0 0 0 15 1 0
  | 0xB9 => optEntry 2 15 0 0 0 0 15 1 0 | 0xAB => optEntry 2 15 0 0 0 0 15 1 0
  | 0x02 => optEntry 3 0 1 0 0 0 3 0 1 | 0x12 => optEntry 3 0 3 0 0 0 15 0 1
  | 0x32 => optEntry 3 0 1 0 0 3 1 0 1 | 0x34 => optEntry 3 0 3 0 0 3 1 0 1
  | 0x20 => optEntry 4 0 1 0 0 0 3 0 1 | 0x21 => optEntry 4 0 3 0 0 0 15 0 1
  | 0x52 => optEntry 4 1 1 0 0 0 3 0 1 | 0x5C => optEntry 4 1 3 0 0 0 15 0 1
  | 0xD8 => optEntry 4 2 1 0 0 0 3 0 1 | 0xDC => optEntry 4 2 3 0 0 0 15 0 1
  | _ => 0

def Tables.defaults : Tables where
  policy  := 0x14012001#32
  policy2 := 0x000A0A0A#32
  serve   := 0x00000025#32
  sweep   := 0x003C051F#32
  recover := 0x00020A1F#32
  cls     := 0
  filter  := 0x00000010#32
  ident   := 0
  optab   := Vector.ofFn fun i => defaultOptab i.val

/-! ### Reset -/

def TileCtl.reset : TileCtl where
  state := .off; stage := false; switchPending := false; noEarly := false; pgood := false; alert := false
  pgoodCond := 0; alertCond := 0; pwrEn := false; rstHeld := true; resetsCapped := false; pwrPending := false
  cause := .cold; prev := .absent; gen := 0

def TilePower.reset : TilePower where
  settled := false; flashReady := false; pwrCause := .powerOn; pwrDropPending := false; offUntil := 0; pgoodQ := false
  alertQ := false; pgoodEdges := []; alertEdges := []; stateDenied := false; resumed := false; resumedDone := false
  afterReset := false; autoResets := 0
  noEarlyDigest := 0; powerCtl := false; flashPower := false

def TileVerify.reset : TileVerify where
  phase := 0; partition := false; readTwin := false; mainFault := false; twinFault := false; cause := 0
  accepted := false; watchedHeld := false; region := 0; replaced := 0; prefixLen := 0
  watermark := 0; manifest := []; digest := 0; sigPending := false; checkCause := 0; nodes := []; verified := []
  held := []; ahead := []; aheadNodes := []; openDone := false; replMain := 0; replTwin := 0; mismMain := false
  mismTwin := false; readFails := []; discTries := 0; trialFetch := false; source := 0; startTick := 0

def TileForce.reset : TileForce where
  manifest := []; digest := 0; partition := false; source := 0xFF#8; lastKind := 0; layout := none; headLayout := none; copyValid := false

def TileRestore.reset : TileRestore where
  source := 0; waiting := false; tried := 0; fallback := false; goldenU := false
  goldenBusy := false; lastCause := 0; restores := 0; readTwin := false; selected := false; failedTrial := none
  badAddrs := []; goldenPend := []
  golden := []; goldenBase := 0; ready := false; writing := none; mainOut := false; twinOut := false

def TileUpdate.reset : TileUpdate where
  phase := 0; owner := 0; mailbox := 0; target := false; selected := false; bootOk := false; result := 0; cause := 0
  runMs := 0; trialTick := 0; count := 0; step := 0; staged := []; stagedBad := []; content := []; mainOk := false; twinOk := false; trial := none
  switchSeq := 0; selDigest := 0; records := []; switches := []; mirror := []

def TileServe.reset : TileServe where
  underruns := 0; outside := 0; slots := []; sfdp := []; missed := []; missedW := []

def TileSweep.reset : TileSweep where
  phase := 0; pos := 0; target := false; mainDown := false; twinDown := false; mismatches := 0; lastMism := 0; passes := 0; passTick := 0
  repairs := []; suspect := []; densityMain := 0; densityTwin := 0

def TileFilter.reset : TileFilter where
  wel := false; wip := false; statusHi := 0; eraseErr := false; progErr := false; protErr := false
  eraseSus := false; progSus := false; addr4 := false; protocol := 0; octalDummy := 0; wrap := 0; spare := 0
  resetArmed := false; queue := []; changed := []; committing := []; going := none; progTokens := []; eraseTokens := []
  holdoffs := []; denyCount := 0; frameBad := 0; busyIgn := 0; noWel := 0; writesDone := 0; commitsDone := 0
  wroteMain := false; wroteTwin := false

/-- The reply due after a sideband reset (R374): cmd 0x00, alive 0, no result words. -/
def Reply.empty : Reply := { status := 0x00000800#32, words := [] }

def Spdm.reset : Spdm where
  versioned := false; capable := false; mutCap := false; chunkCap := false; negotiated := false; vca := []; msgB := []
  msgL := []; request := none; locked := false; inSession := none; response := none; sessions := []; chunkIn := []; chunkSeq := 0
  chunkTotal := 0; large := []; largeSeq := 0; handle := 0

def TileSideband.reset : TileSideband where
  mode := 0; frames := 0; bad := 0; skips := 0; spdmBusy := false; spdmReady := false; secured := false
  length := 0; lastCmd := 0; lastResult := 0; lastAlive := 0; scratch := Vector.replicate 16 0
  buffer := []; alive := none; reply := Reply.empty; statBad := 0; statUnder := 0; statSkips := 0; spdm := .reset

def TileEave.reset : TileEave where
  main := none; twin := none; mainShown := false; twinShown := false; twinFitted := false; mainId := 0; twinId := 0; readId := 0
  mainWork := none; twinWork := none; queue := []; chain := none; buffer := []; last := 0; mainFailed := none; twinFailed := none
  lastError := 0; lastSel := false; readErrors := 0; writeErrors := 0; format := none

def TileMem.reset : TileMem where
  copy := []; tree := []; opens := []; staging := []; granules := []
  updGranules := 0; goldGranules := 0

def Tile.reset : Tile where
  ctl := .reset; power := .reset; active := .defaults; inactive := .defaults; switching := none; verify := .reset
  force := .reset; restore := .reset; update := .reset; serve := .reset; sweep := .reset; filter := .reset
  side := .reset; eave := .reset; mem := .reset

def RidgeReg.reset : RidgeReg where
  value := 0; counter := 0; epoch := 0; saturated := false; overflow := false; trial := false; lastBy := 0; gen := 0

def Ridge.reset : Ridge where
  powered := false; held := []; regs := Vector.replicate 320 .reset; log := []

def KeySlot.reset : KeySlot where
  state := .empty; ty := 0; origin := 0; fresh := false; exportable := false; system := false; usage := 0
  keyBytes := 0; owner := 0; parent := 0; layer := 0; material := 0; tag := 0; salt := 0; counter := 0

def Keys.reset : Keys where
  slots := Vector.replicate 256 .reset; storeKey := 0; journalKey := 0; bootNonce := none; uds := none
  storeFallback := false; tagFailures := 0; slot2Chain := []; aliasCert := []; held := []; formed := []

def Engines.reset : Engines where
  retired := 0; ecRetired := 0; latRetired := 0; thatch := Vector.replicate 512 none; spar := Vector.replicate 128 none
  sparQ := []; rafterQ := []
  sparRefused := []; source := 0; inst0Ready := false; inst1Ready := false; hourFailures := 0; startFails := 0
  rct := 0; apt := 0; calls0 := 0; calls1 := 0; since0 := 0; since1 := 0

def Gutter.reset : Gutter where
  queue := []; started := false; seq := 0; mac := 0; ring := []; headSlot := 0; filled := false; overwrite := false
  jState := 0; jSeq := 0; scanning := false; verdict := 0; episode := none; drops := 0; journal := []; jHead := 0; jPos := 0
  jUnit := false; torn := false
  loft := 0

def FnEvents.reset : FnEvents where
  pend := 0; routes := []; quarter := 0; capHead := none; capLow := none; capJrnl := none; msixOn := false
  msixMask := false; bars := (0, 0); vecMask := BitVec.allOnes 64
  pending := 0; msgAddr := []; waiting := []; sent := []; addrOver := false
  unmapped := false; overruns := 0

def Mailbox.reset : Mailbox where
  opcode := 0; flags := 0; length := 0; gen := 0; tag := 0; go := false; busy := false; done := false
  ringIgnored := false; writeIgnored := false; compStatus := 0; compTag := 0; compLen := 0; compGen := 0; fill := 0
  payload := []

def TempSite.reset : TempSite where
  deci := 0; warn := false; crit := false; atSense := 0

def Attic.reset : Attic where
  tick := 0; cycleTick := 0; hours := 0; cycles := 0; countersFresh := false; crystal := false; xtalLost := false
  keptSeq := 0; locked := 0; relocks := 0; sites := Vector.replicate 8 .reset; vmon := Vector.replicate 12 .ok
  bank3v3 := 0; sparStopped := false; clocksHeld := 0; vppIn := true; pwrTick := none

def Cal.reset : Cal where
  state := 0; pending := false; pwrSpacing := 0; pwrGroup := 0; block := []

/-- The array of an MTB-3216 as shipped (R318, R335): L0 burned, FEATURE zero and finalised, the rest unburned. -/
def Otp.shippedRows : Rows :=
  let d := Config.sha384 (List.replicate 16 0)
  (0, BitVec.allOnes 32) ::
    ([322, 323, 324, 325].map fun r => (r, (d >>> (32 * (r - 322))).setWidth 32)).filter (fun c => c.2 ≠ 0) ++
    [(362, 0xF#32)]

def Otp.reset : Otp where
  normal := Otp.shippedRows; strict := Otp.shippedRows; shadow := []; status := Vector.replicate 5 .unfinalised
  lifecycle := .raw; undecodable := false; busy := false; overrides := false; policyOverridden := false
  marginal := []; marginalCold := 0; marginalResense := 0; lastPass := 0; senseHours := 0
  senseWaiting := false; redirected := []; badSpares := []; lcBurned := false; behind := []; senser := none; feature := 0

def Head.reset : Head where
  up := false; rate := 0; width := 0; flit256 := false; ioPipe := []; memPipe := []; skid := false; reason := 0; downs := 0
  posted := some 0; drs := some 0; ndr := some 0; drsHeld := []; ndrHeld := []; turn := 0

def Ld.reset : Ld where
  enabled := false; pipe := []; decoders := Vector.replicate 4 none; spdm := .reset; doeBusy := false
  quote := none; denyTick := none; denyCount := 0; denyDpa := 0; filtTick := none; filtCount := 0; timestamp := none

def HostPort.reset : HostPort where
  straps := 0; bifur := 0; bifCapped := false; widths := Vector.replicate 4 0; lanes := Vector.replicate 4 0; mld := false; ldCount := 0
  ownerSource := 0; ownerDigest := none; loaderAlive := false; stayed := 0; fmSpdm := .reset; fmBusy := false; heads := Vector.replicate 4 .reset
  lds := Vector.replicate 16 .reset; poison := []; qos := [0, 10, 25, 8, 0, 0, 64]; tokens := 65536

def Purlin.reset : Purlin where
  queues := Vector.replicate 4 []; turn := 0; chain := none; buffer := []; last := 0; omitting := false
  state := 0; disc := none; cfg := 0xF; busy := false; suspended := false; lastError := 0; mapErrors := 0; errors := 0
  runErrors := 0; lines := []; served := 0; ranges := []; miss := none; contents := []

def MemCtl.reset : MemCtl where
  initDone := false; scrubbing := false; channelUp := 0; retrains := Vector.replicate 8 0
  badLines := Vector.replicate 8 []; spares := []; sparesOut := false; passes := 0; corrected := 0; uncorrU := 0
  uncorrS := 0; corrTick := []; poolTick := none; selfRefresh := false; memTick := none; push := []; poisoned := []

def GMode.reset : GMode where
  mode := .cold; prev := .cold; cause := .powerOn; trial := false; barren := false; dozeArmed := false
  fwFromPurlin := false; loaderMb := 0

def Boot.reset : Boot where
  vddAon := false; suppliesOk := false; phase := .off; underlayDone := false; decision := none
  romDigest := 0; romMatch := false; dozeHold := 100; windowRunning := false; purlinBlocked := false
  heldClaim := none; maintainFrom := .serve; heldLockdown := none; ridgeHeld := false; wakeTick := none; ownerRun := none

def Loft.reset : Loft where
  run := .off; onPairB := false; takeover := none

def FwLoad.reset : FwLoad where
  phase := .idle; claimMb := 0; fromPurlin := false; windowRun := none; image := none; rejected := 0; slot0 := none
  slot1 := none; second0 := none; second1 := none; running := none

/-- The machine before VDD_AON is applied: every register at its value after power-on (R15). The first command of a
run is VDD_AON_ON. -/
def State.reset : State where
  pending := []
  gmode := .reset
  boot := .reset
  loft := .reset
  fw := .reset
  attic := .reset
  cal := .reset
  otp := .reset
  ridge := .reset
  keys := .reset
  eng := .reset
  gutter := .reset
  fns := Vector.replicate 16 .reset
  mbs := Vector.replicate 16 .reset
  responder := []
  tiles := Vector.replicate 32 .reset
  host := .reset
  purlin := .reset
  memctl := .reset
  resp := { data := [], code := 0 }
  freeCtr := 0

end Sys2Proof.Machine
end

