-- ==== Sys2Proof/Machine/Bits.lean ====
section
/-! DEFINITION. Bytes and fields: little-endian values (R11), packed field lists, sparse arrays in canonical form. -/

namespace Sys2Proof.Machine

open Sys2Proof

/-- One bit of a Bool. -/
def b01 (b : Bool) : Nat := if b then 1 else 0

/-- Saturating increment. -/
def satInc (max n : Nat) : Nat := if n < max then n + 1 else n

/-- Saturating addition. -/
def satAdd (max n k : Nat) : Nat := min max (n + k)

/-- The `n` low bytes of a value, least significant first (R11). -/
def leBytes : Nat → Nat → List Byte
  | 0, _ => []
  | n + 1, v => BitVec.ofNat 8 v :: leBytes n (v / 256)

/-- The value of bytes, least significant first (R11). -/
def leNat : List Byte → Nat
  | [] => 0
  | b :: bs => b.toNat + 256 * leNat bs

/-- The `n` low bytes of a value, most significant first. -/
def beBytes (n v : Nat) : List Byte := (leBytes n v).reverse

/-- The bytes of a bit vector in string order: byte k is bits [8k+7:8k]. -/
def bytesOf {w : Nat} (n : Nat) (x : BitVec w) : List Byte := leBytes n x.toNat

/-- A bit vector of bytes in string order. -/
def ofBytes (w : Nat) (bs : List Byte) : BitVec w := BitVec.ofNat w (leNat bs)

/-- Field list (byte offset, size in bytes, value) packed into one value; bytes not listed are zero. -/
def packNat : List (Nat × Nat × Nat) → Nat
  | [] => 0
  | (off, size, v) :: fs => (v % 2 ^ (8 * size)) * 2 ^ (8 * off) + packNat fs

/-- A 32-byte payload from its fields (R460 and the payload tables). -/
def payload (fs : List (Nat × Nat × Nat)) : Payload := BitVec.ofNat 256 (packNat fs)

/-- A byte string of `n` bytes from its fields. -/
def packBytes (n : Nat) (fs : List (Nat × Nat × Nat)) : List Byte := leBytes n (packNat fs)

/-- Bit fields (low bit, value) of a word, the values fitting their fields. -/
def packWord : List (Nat × Nat) → Word
  | [] => 0
  | (lo, v) :: fs => (BitVec.ofNat 32 v <<< lo) ||| packWord fs

/-- Bits [hi:lo] of a word as a number. -/
def fieldOf {w : Nat} (x : BitVec w) (hi lo : Nat) : Nat := (x.toNat / 2 ^ lo) % 2 ^ (hi + 1 - lo)

/-- Whether bit `i` is set. -/
def bitOf {w : Nat} (x : BitVec w) (i : Nat) : Bool := x.getLsbD i

/-- `x` with bit `i` set to `b`. -/
def putBit {w : Nat} (x : BitVec w) (i : Nat) (b : Bool) : BitVec w :=
  if b then x ||| (1#w <<< i) else x &&& ~~~(1#w <<< i)

/-- Number of bits set among the low `n`. -/
def popBits {w : Nat} (x : BitVec w) : Nat → Nat
  | 0 => 0
  | n + 1 => b01 (x.getLsbD n) + popBits x n

/-- A slice of a byte list. -/
def slice (off len : Nat) (bs : List Byte) : List Byte := (bs.drop off).take len

/-- Little-endian field of a byte list. -/
def leAt (off size : Nat) (bs : List Byte) : Nat := leNat (slice off size bs)

/-- Bytes up to length `n`, filled with `v`. -/
def padTo (n : Nat) (v : Byte) (bs : List Byte) : List Byte := bs ++ List.replicate (n - bs.length) v

/-! ### Sparse arrays: (index, value) pairs, strictly rising, no entry equal to the default -/

/-- The value at an index; the default where nothing is listed. -/
def Sparse.get {w : Nat} (d : BitVec w) : List (Nat × BitVec w) → Nat → BitVec w
  | [], _ => d
  | (k, v) :: m, a => if a = k then v else Sparse.get d m a

/-- The array with the value at an index replaced, in canonical form. -/
def Sparse.set {w : Nat} (d : BitVec w) : List (Nat × BitVec w) → Nat → BitVec w → List (Nat × BitVec w)
  | [], a, v => if v = d then [] else [(a, v)]
  | (k, x) :: m, a, v =>
    if a < k then (if v = d then (k, x) :: m else (a, v) :: (k, x) :: m)
    else if a = k then (if v = d then m else (k, v) :: m)
    else (k, x) :: Sparse.set d m a v

/-- Canonical form: indices above `lo` strictly rising, no value equal to the default. -/
def Sparse.wfFrom {w : Nat} (d : BitVec w) : Nat → List (Nat × BitVec w) → Bool
  | _, [] => true
  | lo, (k, v) :: m => decide (lo ≤ k) && decide (v ≠ d) && Sparse.wfFrom d (k + 1) m

/-- Canonical form of a memory area whose unlisted bytes read `d`. -/
def Memory.wf (d : Byte) (m : List Host.Cell) : Bool := Sparse.wfFrom d 0 m

/-- `n` bytes from an address. -/
def Memory.read (d : Byte) (m : List Host.Cell) (a : Nat) : Nat → List Byte
  | 0 => []
  | n + 1 => Sparse.get d m a :: Memory.read d m (a + 1) n

/-- Bytes stored from an address. -/
def Memory.write (d : Byte) (m : List Host.Cell) (a : Nat) : List Byte → List Host.Cell
  | [] => m
  | b :: bs => Memory.write d (Sparse.set d m a b) (a + 1) bs

/-- `n` bytes from an address set to one value. -/
def Memory.fill (d : Byte) (m : List Host.Cell) (a n : Nat) (v : Byte) : List Host.Cell :=
  Memory.write d m a (List.replicate n v)

/-- `n` bytes from an address returned to what an unlisted byte reads. -/
def Memory.erase (m : List Host.Cell) (a n : Nat) : List Host.Cell :=
  m.filter fun c => decide (c.1 < a ∨ a + n ≤ c.1)

/-- Bytes from an address combined with AND, as NOR programming does (R200). -/
def Memory.program (d : Byte) (m : List Host.Cell) (a : Nat) : List Byte → List Host.Cell
  | [] => m
  | b :: bs => Memory.program d (Sparse.set d m a (Sparse.get d m a &&& b)) (a + 1) bs

/-- A list-keyed map. -/
def assocGet {α : Type} (m : List (Nat × α)) (k : Nat) : Option α := (m.find? (·.1 = k)).map (·.2)

/-- A list-keyed map with one entry replaced (put first). -/
def assocSet {α : Type} (m : List (Nat × α)) (k : Nat) (v : α) : List (Nat × α) := (k, v) :: m.filter (·.1 ≠ k)

/-- A number added to a set held as a list without repeats. -/
def insertNat (l : List Nat) (n : Nat) : List Nat := if n ∈ l then l else n :: l

/-! ### CRCs -/

/-- One byte of the reflected CRC-32 of IEEE 802.3 (R128). -/
def crc32Bits : Nat → BitVec 32 → BitVec 32
  | 0, c => c
  | n + 1, c => crc32Bits n (if c.getLsbD 0 then (c >>> 1) ^^^ 0xEDB88320#32 else c >>> 1)

/-- CRC-32 register after the bytes. -/
def crc32Run : BitVec 32 → List Byte → BitVec 32
  | c, [] => c
  | c, b :: bs => crc32Run (crc32Bits 8 (c ^^^ b.setWidth 32)) bs

/-- CRC-32 as in IEEE 802.3 (R128). -/
def crc32 (bs : List Byte) : BitVec 32 := crc32Run 0xFFFFFFFF#32 bs ^^^ 0xFFFFFFFF#32

/-- One bit of CRC-16 with polynomial 0x1021 (R370). -/
def crc16Bits : Nat → BitVec 16 → BitVec 16
  | 0, c => c
  | n + 1, c => crc16Bits n (if c.getLsbD 15 then (c <<< 1) ^^^ 0x1021#16 else c <<< 1)

/-- CRC-16 over bytes, most significant bit first. -/
def crc16Run : BitVec 16 → List Byte → BitVec 16
  | c, [] => c
  | c, b :: bs => crc16Run (crc16Bits 8 (c ^^^ (b.setWidth 16 <<< 8))) bs

/-- CRC-16 over words, each most significant bit first (R370). -/
def crc16Words (ws : List Word) : BitVec 16 :=
  crc16Run 0xFFFF#16 (ws.flatMap fun w => (bytesOf 4 w).reverse)

end Sys2Proof.Machine
end

