-- ==== Sys2Proof/Machine/Operands.lean ====
section
/-! DEFINITION. The operand forms the commands take: fields of a Batten manifest (R104, R107), tree arithmetic (R122,
R123), a mailbox's request (R416), and fields of the tile tables. -/

namespace Sys2Proof.Machine

open Sys2Proof

/-! ### Manifest fields (R104) -/

def mfMagic (m : List Byte) : Nat := leAt 0x000 4 m
def mfLen (m : List Byte) : Nat := leAt 0x008 4 m
def mfSigOffset (m : List Byte) : Nat := leAt 0x00C 4 m
def mfKind (m : List Byte) : Nat := leAt 0x010 1 m
def mfScheme (m : List Byte) : Nat := leAt 0x011 1 m
def mfKeyIndex (m : List Byte) : Nat := leAt 0x012 1 m
def mfProfile (m : List Byte) : Nat := leAt 0x013 1 m
def mfDepth (m : List Byte) : Nat := leAt 0x017 1 m
def mfImageLen (m : List Byte) : Nat := leAt 0x018 4 m
def mfSvn (m : List Byte) : Nat := leAt 0x01C 4 m
def mfClass (m : List Byte) : Nat := leAt 0x020 4 m
def mfWatermark (m : List Byte) : Nat := leAt 0x024 4 m
def mfViewSize (m : List Byte) : Nat := leAt 0x028 4 m
def mfRegionCount (m : List Byte) : Nat := leAt 0x02C 2 m
def mfBootOkTimeout (m : List Byte) : Nat := leAt 0x030 4 m
def mfVersion (m : List Byte) : Nat := leAt 0x038 8 m
def mfHold (m : List Byte) (a : Nat) : Byte := BitVec.ofNat 8 (leAt (0x040 + a % 16) 1 m)
def mfRoot (m : List Byte) : Digest := ofBytes 384 (slice 0x050 48 m)
def mfPartSize (m : List Byte) : Nat := leAt 0x080 4 m
def mfTreeSize (m : List Byte) : Nat := leAt 0x084 4 m
def mfOpenSize (m : List Byte) : Nat := leAt 0x088 4 m
def mfStagingSize (m : List Byte) : Nat := leAt 0x08C 4 m

/-- The layout block (R104, R124). -/
def mfLayout (m : List Byte) : Nat × Nat × Nat × Nat :=
  (mfPartSize m, mfTreeSize m, mfOpenSize m, mfStagingSize m)

/-- A region entry (R107). -/
structure Region where
  base  : Nat
  len   : Nat
  src   : Nat
  param : Nat
  cls   : Nat
  rule  : Nat
  name  : BitVec 64
  deriving DecidableEq, Repr

/-- Region entry `i` (R107). -/
def mfRegion (m : List Byte) (i : Nat) : Region :=
  let e := slice (0x100 + 32 * i) 32 m
  { base := leAt 0 4 e, len := leAt 4 4 e, src := leAt 8 4 e, param := leAt 12 4 e, cls := leAt 16 1 e,
    rule := leAt 17 1 e, name := BitVec.ofNat 64 (leAt 0x14 8 e) }

/-- The region table in order. -/
def mfRegions (m : List Byte) : List Region := (List.range (mfRegionCount m)).map (mfRegion m)

def Region.sealed (r : Region) : Bool := r.cls = 0
def Region.watched (r : Region) : Bool := r.cls = 1
def Region.isOpen (r : Region) : Bool := r.cls = 2
def Region.staging (r : Region) : Bool := r.cls = 3

/-- Whether a view address lies in the region. -/
def Region.covers (r : Region) (a : Nat) : Bool := decide (r.base ≤ a ∧ a < r.base + r.len)

/-- Index of the region covering a view address (R110). -/
def regionAt (m : List Byte) (a : Nat) : Option Nat := (mfRegions m).findIdx? (·.covers a)

/-- The prefetched lines that hold a byte at an address for which `hit` holds are invalid (R170). -/
def Tile.dropLines (x : Tile) (hit : Nat → Bool) : Tile :=
  { x with serve := { x.serve with slots := x.serve.slots.map fun sl =>
    { sl with lines := sl.lines.filter fun l => !(List.range 64).any fun i => hit (64 * l + i) } } }

/-- Index of the SEALED or WATCHED region an image block lies in (R109). -/
def regionOfBlock (m : List Byte) (b : Nat) : Option Nat :=
  (mfRegions m).findIdx? fun r => (r.sealed || r.watched) && decide (r.src ≤ b * 4096 ∧ b * 4096 < r.src + r.len)

/-- Whether a block lies in a WATCHED region. -/
def blockWatched (m : List Byte) (b : Nat) : Bool :=
  match regionOfBlock m b with
  | some i => (mfRegion m i).watched
  | none => false

/-! ### The Merkle tree (R122, R123) -/

/-- Image blocks of 4 KiB. -/
def blockCount (m : List Byte) : Nat := (mfImageLen m + 4095) / 4096

/-- Bytes of block `i` (R122). -/
def blockLen (m : List Byte) (i : Nat) : Nat := min 4096 (mfImageLen m - i * 4096)

/-- Nodes at level L of a tree over n blocks: n_L = ceil(n_(L−1) / 32). -/
def nodesAt (n : Nat) : Nat → Nat
  | 0 => n
  | l + 1 => (nodesAt n l + 31) / 32

/-- Depth of the tree over n blocks: the first level with one node, at most 4 (R104, R122). -/
def treeDepth (n : Nat) : Nat :=
  if nodesAt n 1 = 1 then 1 else if nodesAt n 2 = 1 then 2 else if nodesAt n 3 = 1 then 3 else 4

/-- Nodes of every level from 1 to the depth. -/
def treeNodes (n : Nat) : Nat := ((List.range (treeDepth n)).map fun l => nodesAt n (l + 1)).sum

/-- Byte offset of node j of level L in the tree area (R123). -/
def nodeOffset (n l j : Nat) : Nat :=
  ((((List.range (treeDepth n + 1)).filter (fun k => decide (l < k))).map (nodesAt n)).sum + j) * 1536

/-- Key of a node in a node cache. -/
def nodeKey (level idx : Nat) : Nat := level * 65536 + idx

/-- Entry `k` of a 1,536-byte node (R122). -/
def nodeEntry (node : List Byte) (k : Nat) : Digest := ofBytes 384 (slice (48 * k) 48 node)

/-- A candidate level-1 node from leaf digests, with zero entries past the last (R142). -/
def candidateNode (leaves : List Digest) : List Byte := padTo 1536 0 (leaves.flatMap (bytesOf 48))

/-- Digest that node `idx` of `level` must have: its parent's entry, or root_digest for the top node (R140). -/
def parentEntry (m : List Byte) (nodes : List (Nat × List Byte)) (level idx : Nat) : Option Digest :=
  if level = treeDepth (blockCount m) then (if idx = 0 then some (mfRoot m) else none)
  else (assocGet nodes (nodeKey (level + 1) (idx / 32))).map (nodeEntry · (idx % 32))

/-- The leaf a verified level-1 node gives block `b` (R144). -/
def leafEntry (nodes : List (Nat × List Byte)) (b : Nat) : Option Digest :=
  (assocGet nodes (nodeKey 1 (b / 32))).map (nodeEntry · (b % 32))

/-- Blocks of group `g` of an image of n blocks. -/
def groupBlocks (n g : Nat) : List Nat := (List.range 32).map (32 * g + ·) |>.filter (· < n)

/-- Highest SEALED block plus one (R149). -/
def sealedEnd (m : List Byte) : Nat :=
  ((List.range (blockCount m)).filter fun b => !blockWatched m b).foldl (fun a b => max a (b + 1)) 0

/-- The watermark W of R149 for a LINEAR manifest, 0 for ANY. -/
def watermarkOf (m : List Byte) : Nat :=
  if mfProfile m = 1 then
    let ns := sealedEnd m
    min ns (max (mfWatermark m) (32 * (((ns + 8) / 9 + 31) / 32)))
  else 0

/-! ### Flash areas of a tile (R124) -/

def flashPartA : Nat := 0x30000
def flashTreeA (l : Nat × Nat × Nat × Nat) : Nat := flashPartA + l.1
def flashPartB (l : Nat × Nat × Nat × Nat) : Nat := flashTreeA l + l.2.1
def flashTreeB (l : Nat × Nat × Nat × Nat) : Nat := flashPartB l + l.1
def flashOpen (l : Nat × Nat × Nat × Nat) : Nat := flashTreeB l + l.2.1
def flashStaging (l : Nat × Nat × Nat × Nat) : Nat := flashOpen l + l.2.2.1
def flashEnd (l : Nat × Nat × Nat × Nat) : Nat := flashStaging l + l.2.2.2

/-- Flash address of an image block, and of a node, of a partition (R123, R124). -/
def blockAddr (m : List Byte) (partition : Bool) (b : Nat) : Nat :=
  (if partition then flashPartB (mfLayout m) else flashPartA) + 4096 * b
def nodeAddr (m : List Byte) (partition : Bool) (level idx : Nat) : Nat :=
  (if partition then flashTreeB (mfLayout m) else flashTreeA (mfLayout m)) + nodeOffset (blockCount m) level idx

/-! ### Push format (R225) -/

/-- Length T of the tree part. -/
def pushTreeLen (m : List Byte) : Nat := if mfKind m = 2 then 0x20000 else mfTreeSize m

/-- Length of a push format. -/
def pushLen (m : List Byte) : Nat := 0x10000 + pushTreeLen m + mfImageLen m

/-! ### Mailbox request -/

/-- `n` request bytes from a payload offset (R416). -/
def Mailbox.bytes (mb : Mailbox) (off n : Nat) : List Byte := Memory.read 0 mb.payload off n

/-- A little-endian request field (R417). -/
def Mailbox.arg (mb : Mailbox) (off size : Nat) : Nat := leNat (mb.bytes off size)

/-- Whether request bytes are all zero (R421, check 8). -/
def Mailbox.zero (mb : Mailbox) (off n : Nat) : Bool := mb.arg off n = 0

/-! ### Table fields (R97, R171, R185, R189, R214, R237) -/

def Tables.autoFetch (b : Tables) : Bool := bitOf b.policy 0
def Tables.powerCtl (b : Tables) : Bool := bitOf b.policy 1
def Tables.flashPower (b : Tables) : Bool := bitOf b.policy 2
def Tables.earlyAllowed (b : Tables) : Bool := bitOf b.policy 3
def Tables.underrunLog (b : Tables) : Bool := bitOf b.policy 4
def Tables.missLog (b : Tables) : Bool := bitOf b.policy 5
def Tables.reuseCopy (b : Tables) : Bool := bitOf b.policy 6
def Tables.watchedRestore (b : Tables) : Bool := bitOf b.policy 7
def Tables.alertAction (b : Tables) : Nat := fieldOf b.policy 9 8
def Tables.resetLimit (b : Tables) : Nat := fieldOf b.policy 13 10
def Tables.pgoodTimeout (b : Tables) : Nat := fieldOf b.policy 31 24
def Tables.prefetchEn (b : Tables) : Bool := bitOf b.serve 0
/-- Bytes fetched beyond the last byte served (R171). -/
def Tables.prefetchDepth (b : Tables) : Nat := 512 * 2 ^ fieldOf b.serve 2 1
/-- Continuous bytes before a read counts as sequential; 0 is taken as 1 unit of 32 (R171). -/
def Tables.seqThreshold (b : Tables) : Nat := 32 * max 1 (fieldOf b.serve 7 4)
def Tables.sweepOn (b : Tables) : Bool := bitOf b.sweep 0
def Tables.sweepMain (b : Tables) : Bool := bitOf b.sweep 1
def Tables.sweepTwin (b : Tables) : Bool := bitOf b.sweep 2
def Tables.sweepCopy (b : Tables) : Bool := bitOf b.sweep 3
def Tables.sweepOpen (b : Tables) : Bool := bitOf b.sweep 4
def Tables.srcEnable (b : Tables) : Nat := fieldOf b.recover 4 0
def Tables.pushWait (b : Tables) : Nat := fieldOf b.recover 15 8
def Tables.stageMirror (b : Tables) : Bool := bitOf b.recover 16
def Tables.platformUpdate (b : Tables) : Bool := bitOf b.recover 17
def Tables.idSource (b : Tables) : Bool := bitOf b.filter 0
/-- evt_holdoff in ms; 0 is taken as 1 (R214). -/
def Tables.holdoffMs (b : Tables) : Nat := max 1 (fieldOf b.filter 7 4)
def Tables.stageQuiet (b : Tables) : Nat := fieldOf b.filter 15 8

/-- The table image of R247: T_OPTAB, then the eight policy words. -/
def Tables.image (b : Tables) : List Byte :=
  (b.optab.toList ++ [b.policy, b.policy2, b.serve, b.sweep, b.recover, b.filter, b.ident, b.cls]).flatMap (bytesOf 4)

/-! ### Opcode table entries (R189) -/

def optAction (e : Word) : Nat := fieldOf e 2 0
def optFunc (e : Word) : Nat := fieldOf e 7 3
def optAddr (e : Word) : Nat := fieldOf e 9 8
def optDummy (e : Word) : Nat := fieldOf e 14 10
def optWrap (e : Word) : Bool := bitOf e 15
def optIo (e : Word) : Nat := fieldOf e 18 16
def optProto (e : Word) (p : Nat) : Bool := bitOf e (20 + p)
def optBusyOk (e : Word) : Bool := bitOf e 24
/-- A PROGRAM or ERASE entry. -/
def optWrites (e : Word) : Bool := decide (optAction e = 3 ∨ optAction e = 4)
def optWel (e : Word) : Bool := bitOf e 25

/-! ### Queue entries of the Eave ports (R346) -/

/-- Bits [hi:lo] of word i of an entry. -/
def entryField (e : BitVec 128) (i hi lo : Nat) : Nat := fieldOf e (32 * i + hi) (32 * i + lo)

def entryCommand (e : BitVec 128) : Nat := entryField e 0 15 0
def entryAddress (e : BitVec 128) : Nat := entryField e 1 31 0
def entryLen (e : BitVec 128) : Nat := entryField e 2 16 0
def entryWrite (e : BitVec 128) : Bool := entryField e 2 20 20 = 1
def entryTwin (e : BitVec 128) : Bool := entryField e 2 21 21 = 1
def entryCont (e : BitVec 128) : Bool := entryField e 2 22 22 = 1
def entryPoll (e : BitVec 128) : Bool := entryField e 2 23 23 = 1
def entryDqs (e : BitVec 128) : Bool := entryField e 2 24 24 = 1
def entryFlags (e : BitVec 128) : Bool := entryField e 2 25 25 = 1

/-- A program or an erase: an entry in the write direction that sends an address (DEDUCED, log entry 6). -/
def entryModifies (e : BitVec 128) : Bool := entryWrite e && !entryPoll e && decide (entryField e 0 19 18 ≠ 0)

/-- Where the bytes of an entry lie in the port's SRAM. -/
def entryBuffer (e : BitVec 128) : Nat := entryField e 3 31 0

end Sys2Proof.Machine
end

