-- ==== Sys2Proof/Machine/Flags.lean ====
section
/-! DEFINITION. The status and flag registers as words computed from State: fused values, tile block words, global block
words. Fields that mirror other state are computed here and stored nowhere. -/

namespace Sys2Proof.Machine

open Sys2Proof

/-- Tile `t`. -/
def State.tile (s : State) (t : TileId) : Tile := s.tiles[t]

/-! ### Feature set (R2, R6, R318, R513) -/

def featTiles (f : Word) : Nat := if bitOf f 1 then 16 else if bitOf f 0 then 24 else 32
def featWidth (f : Word) : Nat := if bitOf f 3 then 4 else if bitOf f 2 then 8 else 16
def featHeads (f : Word) : Nat := if bitOf f 3 then 1 else if bitOf f 2 then 2 else 4
def featMem (f : Word) : Bool := !bitOf f 4
def featMldsa (f : Word) : Bool := !bitOf f 5

/-- G_FEATURE (R513). -/
def gFeature (s : State) : Word :=
  packWord [(0, featTiles s.otp.feature), (8, featWidth s.otp.feature), (13, featHeads s.otp.feature),
    (16, b01 (featMem s.otp.feature)), (17, b01 (featMldsa s.otp.feature))]

/-- A tile fused off by the variant (R3). -/
def fusedOff (s : State) (t : TileId) : Bool := decide (featTiles s.otp.feature ≤ t.val)

def offersMldsa (s : State) : Bool := featMldsa s.otp.feature
def offersMem (s : State) : Bool := featMem s.otp.feature

/-! ### OTP shadows (R319 to R322, R325) -/

/-- A shadow row. -/
def shadowRow (s : State) (r : Nat) : Word := Sparse.get 0 s.otp.shadow r

/-- The bytes of a run of shadow rows. -/
def shadowBytes (s : State) (first n : Nat) : List Byte :=
  (List.range n).flatMap fun i => bytesOf 4 (shadowRow s (first + i))

/-- One plus the index of the highest set bit of a number of at most `n` bits; 0 for zero. -/
def topBit : Nat → Nat → Nat
  | 0, _ => 0
  | n + 1, x => if 2 ^ n ≤ x then n + 1 else topBit n x

/-- A count from its two rows (R322). -/
def svnOf (lo hi : Word) : Nat := topBit 64 (lo.toNat + 2 ^ 32 * hi.toNat)

/-- SVN counter c (R322): 0–31 tiles, 32 firmware. -/
def svnCount (s : State) (c : Nat) : Nat := svnOf (shadowRow s (256 + 2 * c)) (shadowRow s (257 + 2 * c))

/-- Whether key index i is revoked (R321). -/
def revoked (s : State) (i : Nat) : Bool := decide (shadowRow s (208 + i) ≠ 0)

/-- KEYRING entry i (R317). -/
def keyringEntry (s : State) (i : Nat) : Digest := ofBytes 384 (shadowBytes s (16 + 12 * i) 12)

/-- A KEYRING entry counts as programmed when any of its rows is non-zero (R319). -/
def keyringSet (s : State) (i : Nat) : Bool := decide (keyringEntry s i ≠ 0)

/-- Status of lockable region r: 0 FEATURE, 1 ROOT, 2 KEYRING, 3 OWNER, 4 POLICY (R317). -/
def regionStatus (s : State) (r : Fin 5) : RegionStatus := s.otp.status[r]

/-- POLICY rows in force: the fused ones when LOCKED, or those of the override set (R325, R334). -/
def policyLive (s : State) : Bool := decide (regionStatus s 4 = .locked) || s.otp.policyOverridden

/-- POLICY row values; the R44 defaults show as rows of zero. -/
def policyRow (s : State) (r : Nat) : Word := if policyLive s then shadowRow s r else 0

/-- ML-DSA-87 signatures can be checked: the feature set offers them, and the FEATURE shadow, which TRIAL may narrow without
changing G_FEATURE (R63, R334, R513), does not remove them (log entry 11). -/
def mldsaUsable (s : State) : Bool := offersMldsa s && featMldsa (shadowRow s 4)

/-- hybrid_required in force (R44). -/
def hybridRequired (s : State) : Bool :=
  if policyLive s then bitOf (shadowRow s 241) 1 else mldsaUsable s

/-- purlin_fw_allowed in force (R44). -/
def purlinFwAllowed (s : State) : Bool := bitOf (policyRow s 241) 0

/-- Valid anchors in the variant (R44): fused-off entries are ignored. -/
def anchors (s : State) : List TileId :=
  let w := policyRow s 240
  (List.finRange 32).filter fun t =>
    !fusedOff s t && (List.range 4).any fun i => bitOf w i && decide (fieldOf w (8 + 5 * i) (4 + 5 * i) = t.val)

/-- AWAIT window in ms (R44). -/
def awaitWindowMs (s : State) : Nat :=
  let n := fieldOf (policyRow s 240) 31 24
  if n = 0 then 500 else n * 250

/-- G_OTP_REGION (R338): the lockable regions at their places in the order of R256. -/
def gOtpRegion (s : State) : Word :=
  packWord [(2, (regionStatus s 0).code), (4, (regionStatus s 1).code), (6, (regionStatus s 2).code),
    (10, (regionStatus s 3).code), (12, (regionStatus s 4).code), (20, s.otp.lifecycle.code),
    (22, b01 s.otp.undecodable)]

/-- OTP_VPP within its warning thresholds (R496, monitor 11). -/
def vppOk (s : State) : Bool := s.boot.suppliesOk && s.attic.vppIn

/-- NORMAL read of a row; the redirection is not applied. -/
def otpNormal (s : State) (r : Nat) : Word := Sparse.get 0 s.otp.normal r

/-- STRICT read of a row. -/
def otpStrict (s : State) (r : Nat) : Word := Sparse.get 0 s.otp.strict r

/-- Redirection entry for a main row (R331). -/
def redirWord (row : Nat) : Word :=
  packWord [(0, row), (11, 2047 - row % 2048), (22, 0b1011010011)]

/-- Main row a valid redirection entry names (R331). -/
def redirTarget (w : Word) : Option Nat :=
  if w = redirWord (fieldOf w 10 0) then some (fieldOf w 10 0) else none

/-- Entry e is used: its entry or its spare is not zero at NORMAL, or the spare failed (R331, R332). -/
def spareUsed (s : State) (e : Nat) : Bool :=
  decide (otpNormal s (1984 + e) ≠ 0) || decide (otpNormal s (2048 + e) ≠ 0) || decide (e ∈ s.otp.badSpares)

/-- Entries valid or consumed (R338). -/
def sparesUsed (s : State) : Nat := ((List.range 64).filter (spareUsed s)).length

/-- G_OTP_STAT (R338). -/
def gOtpStat (s : State) : Word :=
  packWord [(0, b01 s.otp.busy), (1, b01 (vppOk s)), (2, b01 s.otp.overrides), (3, sparesUsed s),
    (10, min 0xFF s.otp.marginalCold), (18, min 0xFF s.otp.marginalResense), (26, s.otp.lastPass.toNat)]

/-! ### Roles (R40, R408) -/

/-- A session that is an owner session (R264). -/
def Session.owner (d : Option Digest) (x : Session) : Bool :=
  x.done && x.mutualAuth && decide (d = some x.peer)

/-- A logical device of the block by number. -/
def State.ld (s : State) (h : LdId) : Ld := s.host.lds[h]

/-- The loader rule of R408. -/
def loaderRule (s : State) : Bool := decide (s.host.ownerDigest = none) && s.host.loaderAlive

/-- Modes without an owner role (R40, R408). -/
def noOwnerMode (m : DevMode) : Bool := decide (m = .cold ∨ m = .gate ∨ m = .await ∨ m = .load)

/-- Whether logical device h holds the owner role (R408). -/
def isOwner (s : State) (h : LdId) : Bool :=
  !noOwnerMode s.gmode.mode &&
    ((s.ld h).spdm.sessions.any (Session.owner s.host.ownerDigest) ||
      (loaderRule s && decide (h = s.gmode.loaderMb)))

/-- G_HOST_STAT.owner_lds. -/
def ownerLds (s : State) : Nat :=
  ((List.finRange 16).map fun h => if isOwner s h then 2 ^ h.val else 0).sum

/-- Whether h is the loader of R424. -/
def isLoader (s : State) (h : LdId) : Bool :=
  match s.gmode.mode with
  | .load => !s.fw.fromPurlin && decide (s.fw.claimMb = h)
  | .provision => decide (s.gmode.loaderMb = h)
  | _ => false

/-- Role code of DEVICE_STATUS (R427). -/
def roleCode (s : State) (h : LdId) : Nat := if isOwner s h then 1 else if isLoader s h then 2 else 0

/-! ### Global block (R512) -/

/-- G_MODE bits [23:16] (R35). -/
def gModeFlags (g : GMode) : Nat :=
  b01 g.trial + 2 * b01 g.barren + 4 * b01 g.dozeArmed + 8 * b01 g.fwFromPurlin + 16 * g.loaderMb.val

/-- G_MODE (R35). -/
def gMode (s : State) : Word :=
  packWord [(0, s.gmode.mode.code), (4, s.gmode.prev.code), (8, s.gmode.cause.code), (16, gModeFlags s.gmode)]

def gId : Word := 0x00013216#32

/-- G_ISSUE (R513). -/
def gIssue : Word := packWord [(0, Config.ridgeIssue.toNat), (16, Config.bootIssue.toNat)]

/-- G_KEY_STAT (R315). -/
def gKeyStat (s : State) : Word :=
  packWord [(0, (s.keys.slots.toList.filter (·.state = .valid)).length),
    (9, (s.keys.slots.toList.filter (·.state = .bad)).length % 256), (17, b01 s.keys.bootNonce.isSome),
    (18, b01 s.keys.storeFallback), (24, min 0xFF s.keys.tagFailures)]

/-- Thatch lanes in service (R296). -/
def lanesInService (s : State) : Nat := 32 - popBits s.eng.retired 32

def ecUnits (s : State) : Nat := 2 - popBits s.eng.ecRetired 2
def latUnits (s : State) : Nat := if offersMldsa s then 2 - popBits s.eng.latRetired 2 else 0

/-- G_ENGINE_STAT (R296). -/
def gEngineStat (s : State) : Word :=
  packWord [(0, lanesInService s), (6, ecUnits s), (8, latUnits s),
    (10, (s.eng.thatch.toList.filter Option.isSome).length), (20, (s.eng.spar.toList.filter Option.isSome).length)]

/-- G_ENTROPY_STAT (R296). -/
def gEntropyStat (s : State) : Word :=
  packWord [(0, s.eng.source.toNat), (2, b01 s.eng.inst0Ready), (3, b01 s.eng.inst1Ready),
    (4, min 0xF s.eng.hourFailures), (8, min 0xFF s.eng.rct), (16, min 0xFF s.eng.apt)]

/-- G_HOST_STAT (R413). -/
def gHostStat (s : State) : Word :=
  packWord [(0, s.host.bifur.toNat), (2, b01 s.host.bifCapped), (3, b01 s.host.mld), (4, s.host.ldCount % 32),
    (9, s.host.ownerSource.toNat), (11, b01 (!noOwnerMode s.gmode.mode && loaderRule s)), (16, ownerLds s)]

/-- A stream runs while its pipe holds a key (R405). -/
def ideRuns (p : List IdeKey) : Bool := p.any fun k => k.key.isSome

/-- G_HEAD_STATh (R413). -/
def gHeadStat (s : State) (h : HeadId) : Word :=
  let x := s.host.heads[h]
  packWord [(0, b01 x.up), (1, x.rate.toNat), (4, x.width.toNat), (9, b01 x.flit256),
    (10, b01 (ideRuns x.ioPipe || (decide (h = 0) && s.host.mld && s.host.lds.toList.any fun l => ideRuns l.pipe))),
    (11, b01 (ideRuns x.memPipe)), (12, x.reason.toNat), (16, min 0xFF x.downs)]

/-- Granules taken from the pool (R443). -/
def granulesUsed (s : State) : Nat :=
  (s.tiles.toList.map fun t => t.mem.granules.length + t.mem.updGranules + t.mem.goldGranules).sum

/-- Free pool granules (R442, R456). -/
def poolFree (s : State) : Nat := 2480 - granulesUsed s

def gMemStat (s : State) : Word :=
  packWord [(0, b01 s.memctl.initDone), (1, b01 s.memctl.scrubbing), (2, s.memctl.channelUp.toNat),
    (10, b01 s.memctl.sparesOut), (16, s.memctl.passes.toNat)]

def gMemErr (s : State) : Word :=
  packWord [(0, min 0xFFFF s.memctl.corrected), (16, min 0xFF s.memctl.uncorrU), (24, min 0xFF s.memctl.uncorrS)]

/-- Channel of a byte of an Underlay area: groups are interleaved every 512 data bytes, a 4 KiB block touching all eight (R439). -/
def channelOf (off : Nat) : Fin 8 := Fin.ofNat 8 (off / 512)

/-- The channel of a byte of an area is marked down (R452). -/
def channelDown (s : State) (off : Nat) : Bool := s.boot.underlayDone && !s.memctl.channelUp.getLsbD (channelOf off).val

/-- The channel of a byte of an area is being retrained, so that accesses wait (R452). -/
def channelWaits (s : State) (off : Nat) : Bool :=
  !channelDown s off && decide (16 ≤ (s.memctl.badLines[channelOf off]).length)

def gMemPool (s : State) : Word := packWord [(0, poolFree s), (16, s.memctl.spares.length)]

/-- T_EAVE_MAIN, T_EAVE_TWIN and G_PURLIN_PROFILE (R361). -/
def discWord : Option Discovery → Word
  | none => 0
  | some d =>
    packWord [(0, b01 (d.result.val = 0)), (1, if d.result.val = 0 then d.profile.toNat else 0), (4, d.sck.toNat),
      (7, d.dummy.toNat), (12, b01 d.addr4), (13, b01 d.flagPoll), (14, b01 d.suspend), (15, b01 d.omits),
      (16, d.density.toNat), (22, d.erase.toNat), (25, d.result.val), (28, d.clkMode.toNat), (30, d.page.toNat)]

/-- Whether the flash answered its last discovery. -/
def present (d : Option Discovery) : Bool :=
  match d with
  | some d => decide (d.result.val = 0)
  | none => false

def gPurlinStat (s : State) : Word :=
  packWord [(0, s.purlin.state.toNat), (2, b01 s.purlin.busy), (3, b01 s.purlin.suspended),
    (4, s.purlin.lastError.toNat), (8, min 0xFF s.purlin.mapErrors), (16, min 0xFF s.purlin.errors)]

/-- A signed reading in 0.1 °C as whole °C, 8 bits. -/
def degC (deci : Int) : Nat := (BitVec.ofInt 8 (deci.fdiv 10)).toNat

def gTemp (s : State) (i : Nat) : Word :=
  let r := fun k => degC ((s.attic.sites.toList[4 * i + k]?.map (·.deci)).getD 0)
  packWord [(0, r 0), (8, r 1), (16, r 2), (24, r 3)]

def VmonLevel.code : VmonLevel → Nat
  | .ok => 0 | .warnLow => 1 | .warnHigh => 2 | .critical => 3

def gVmonStat (s : State) : Word :=
  packWord (((List.finRange 12).map fun m => (2 * m.val, VmonLevel.code s.attic.vmon[m])) ++
    [(24, s.attic.bank3v3.toNat)])

def gClkStat (s : State) : Word :=
  packWord ([(0, b01 s.attic.crystal), (1, b01 s.attic.xtalLost), (2, b01 s.attic.countersFresh),
    (3, s.attic.locked.toNat)] ++ ((List.finRange 8).map fun i => (8 + i.val, b01 s.attic.sites[i].warn)) ++
    [(16, min 0xFF s.attic.relocks)])

/-- Trimmed flag of Eave port p in the block in force (R500, R501). -/
def eaveTrimmed (s : State) (p : Nat) : Bool := s.cal.block ≠ [] && leAt (0x080 + 12 * p + 10) 1 s.cal.block % 2 = 1

def soffitTrimmed (s : State) (t : Nat) : Bool := s.cal.block ≠ [] && leAt (0x210 + 12 * t + 9) 1 s.cal.block % 2 = 1

def gCalStat (s : State) : Word :=
  packWord ([(0, s.cal.state.toNat), (2, b01 s.cal.pending)] ++
    ((List.range 24).map fun p => (8 + p, b01 (eaveTrimmed s p))))

def gCalEaveHi (s : State) : Word := packWord ((List.range 9).map fun i => (i, b01 (eaveTrimmed s (24 + i))))

def gCalSoffit (s : State) : Word := packWord ((List.range 32).map fun i => (i, b01 (soffitTrimmed s i)))

/-- G_ACCESS_STAT of a function (R513). -/
def gAccessStat (s : State) (f : LdId) : Word :=
  let e := s.fns[f]
  packWord [(0, b01 e.addrOver), (1, b01 e.unmapped), (2, b01 s.mbs[f].writeIgnored), (16, min 0xFFFF e.overruns)]

def Rows.seqWord (n : Nat) (hi : Bool) : Word := BitVec.ofNat 32 (if hi then n / 2 ^ 32 else n)

/-- G_GUTTER_STAT (R477). -/
def gGutterStat (s : State) : Word :=
  packWord [(0, s.gutter.headSlot), (14, b01 s.gutter.overwrite), (15, s.gutter.jState.toNat),
    (17, b01 s.gutter.scanning), (18, s.gutter.verdict.toNat), (22, min 256 s.gutter.queue.length),
    (31, b01 s.gutter.episode.isSome)]

/-! ### Tile block (R514) -/

/-- T_STATE (R76). -/
def tState (c : TileCtl) : Word :=
  packWord [(0, c.state.code), (3, b01 c.stage), (4, b01 c.switchPending), (5, b01 c.noEarly), (6, b01 c.pgood),
    (7, b01 c.alert), (8, c.pgoodCond.toNat), (10, c.alertCond.toNat), (12, b01 c.pwrEn), (13, b01 c.rstHeld),
    (14, b01 c.resetsCapped), (15, b01 c.pwrPending), (16, c.cause.code), (24, c.prev.code)]

/-- The conditions of R86 other than watermark and settling (R159 early_ok). -/
def earlyOk (s : State) (t : TileId) : Bool :=
  let x := s.tile t
  decide (mfProfile x.verify.manifest = 1) && x.active.earlyAllowed && !x.ctl.noEarly && decide (s.gmode.mode ≠ .gate)

/-- T_VERIFY (R159). -/
def tVerify (s : State) (t : TileId) : Word :=
  let v := (s.tile t).verify
  packWord [(0, v.phase.toNat), (4, b01 v.partition), (5, b01 v.readTwin), (6, b01 v.mainFault), (7, b01 v.twinFault),
    (8, v.cause.toNat), (16, b01 v.accepted), (17, b01 v.watchedHeld), (18, b01 (earlyOk s t)), (19, v.region.toNat),
    (24, min 0xFF v.replaced)]

def tProgress (v : TileVerify) : Word := packWord [(0, v.prefixLen)]
def tWmark (v : TileVerify) : Word := packWord [(0, v.watermark)]

/-- The Purlin golden slot of a tile (R224): base and length of its directory entry where the entry is valid. -/
def goldenEntry (s : State) (t : TileId) : Option (Nat × Nat) :=
  let e := Memory.read 0xFF s.purlin.contents (0x2000000 + 0x1000 * t.val) 32
  let base := leAt 4 4 e
  let len := leAt 8 4 e
  let m := Memory.read 0xFF s.purlin.contents base 0x10000
  if leAt 0 4 e = 0x444C4742 ∧ leAt 0x1C 4 e = (crc32 (e.take 0x1C)).toNat ∧
      Config.sha384 (m.take (mfLen m)) &&& BitVec.ofNat 384 (2 ^ 128 - 1) = BitVec.ofNat 384 (leAt 0x0C 16 e) then
    some (base, len)
  else none

/-- T_RESTORE (R237). -/
def tRestore (s : State) (t : TileId) : Word :=
  let r := (s.tile t).restore
  packWord [(0, r.source.toNat), (3, b01 r.waiting), (4, r.tried.toNat), (9, b01 r.fallback), (10, b01 r.goldenU),
    (11, b01 (goldenEntry s t).isSome), (12, b01 r.goldenBusy), (16, r.lastCause.toNat), (24, min 0xFF r.restores)]

/-- T_UPDATE (R237). -/
def tUpdate (u : TileUpdate) : Word :=
  packWord [(0, u.phase.toNat), (4, u.owner.toNat), (6, u.mailbox.val), (10, b01 u.target), (11, b01 u.selected),
    (12, b01 u.bootOk), (13, u.result.toNat), (16, u.cause.toNat)]

def tTrial (u : TileUpdate) : Word := BitVec.ofNat 32 u.runMs

/-- T_SWEEP_STAT (R186); a pass waits while the repair queue is full (R181). -/
def tSweepStat (w : TileSweep) : Word :=
  packWord [(0, if 1 ≤ w.phase.toNat ∧ w.phase.toNat ≤ 4 ∧ 256 ≤ w.repairs.length then 6 else w.phase.toNat),
    (4, b01 w.target), (5, b01 w.mainDown), (6, b01 w.twinDown),
    (8, min 0xFF w.lastMism), (16, w.passes % 65536)]

/-- T_EAVE_STAT (R361). -/
def tEaveStat (x : Tile) : Word :=
  packWord [(0, b01 x.eave.mainWork.isSome), (1, b01 x.eave.twinWork.isSome), (2, x.eave.lastError.toNat), (6, b01 x.eave.lastSel),
    (8, min 32 x.eave.queue.length), (16, min 0xFF x.eave.readErrors), (24, min 0xFF x.eave.writeErrors)]

/-- T_FUSED (R515). -/
def tFused (s : State) (t : TileId) : Word := packWord [(0, svnCount s t.val), (8, b01 (s.tile t).eave.format.isSome)]

/-- Status register byte (R193). -/
def emuStatus (f : TileFilter) : Byte :=
  (packWord [(0, b01 f.wip), (1, b01 f.wel), (2, f.statusHi.toNat)]).setWidth 8

/-- Flag status byte (R193). -/
def emuFlag (f : TileFilter) : Byte :=
  (packWord [(0, b01 f.addr4), (1, b01 f.protErr), (2, b01 f.progSus), (4, b01 f.progErr), (5, b01 f.eraseErr),
    (6, b01 f.eraseSus), (7, b01 (!f.wip))]).setWidth 8

/-- T_EMU (R214). -/
def tEmu (f : TileFilter) : Word :=
  packWord [(0, (emuStatus f).toNat), (8, (emuFlag f).toNat), (16, f.protocol.toNat), (18, f.octalDummy.toNat % 32),
    (23, f.wrap.toNat % 8), (26, min 0x3F f.queue.length)]

def tFilterStat (f : TileFilter) : Word :=
  packWord [(0, min 0xFF f.denyCount), (8, min 0xFF f.frameBad), (16, min 0xFF f.busyIgn), (24, min 0xFF f.noWel)]

def tServeStat (v : TileServe) : Word := packWord [(0, min 0xFFFF v.underruns), (16, min 0xFFFF v.outside)]

/-- A sideband SPDM session is open (R263, R381). -/
def TileSideband.sessionOpen (b : TileSideband) : Bool := b.spdm.sessions.any (·.done)

/-- T_SB_STAT (R390). -/
def tSbStat (b : TileSideband) : Word :=
  packWord [(0, b.mode.toNat), (2, b01 b.spdmBusy), (3, b01 b.sessionOpen),
    (4, (b.alive.map BitVec.toNat).getD 0), (8, min 0xFF b.statBad), (16, min 0xFF b.statUnder),
    (24, min 0xFF b.statSkips)]

/-- SB_COUNT, SB_SPDM and SB_LASTMSG (R381). -/
def sbCount (b : TileSideband) : Word :=
  packWord [(0, b.frames.toNat), (16, min 0xFF b.bad), (24, min 0xFF b.skips)]
def sbSpdm (b : TileSideband) : Word :=
  packWord [(0, b01 b.spdmBusy), (1, b01 b.spdmReady), (2, b01 b.secured), (3, b01 b.sessionOpen), (16, b.length)]
def sbLastMsg (b : TileSideband) : Word :=
  packWord [(0, b.lastCmd.toNat), (8, b.lastResult.toNat), (16, b.lastAlive.toNat)]

/-- Word `i` of a tile block (R514); every word of a fused-off tile is zero (R3). -/
def tileWord (s : State) (t : TileId) (i : Nat) : Word :=
  let x := s.tile t
  if fusedOff s t then 0
  else if 0x100 ≤ i ∧ i < 0x200 then x.active.optab.toList.getD (i - 0x100) 0
  else match i with
    | 0x00 => tState x.ctl | 0x01 => x.ctl.gen | 0x02 => tVerify s t | 0x03 => tProgress x.verify
    | 0x04 => tWmark x.verify | 0x05 => tRestore s t | 0x06 => tUpdate x.update | 0x07 => tTrial x.update
    | 0x08 => tSweepStat x.sweep | 0x09 => tEaveStat x
    | 0x0A => BitVec.ofNat 32 (mfVersion x.force.manifest)
    | 0x0B => BitVec.ofNat 32 (mfVersion x.force.manifest / 2 ^ 32)
    | 0x0C => BitVec.ofNat 32 (mfSvn x.force.manifest) | 0x0D => tFused s t
    | 0x20 => x.active.policy | 0x21 => x.active.policy2 | 0x22 => x.active.serve | 0x23 => x.active.sweep
    | 0x24 => x.active.recover | 0x25 => x.active.cls | 0x26 => x.active.filter | 0x27 => x.active.ident
    | 0x28 => tEmu x.filter | 0x29 => tFilterStat x.filter | 0x2A => tServeStat x.serve | 0x2B => tSbStat x.side
    | 0x2C => discWord (x.eave.main.filter fun _ => x.eave.mainShown)
    | 0x2D => discWord (x.eave.twin.filter fun _ => x.eave.twinShown)
    | 0x2E => packWord [(0, x.eave.mainId.toNat), (16, x.eave.twinId.toNat)]
    | i => if 0x0E ≤ i ∧ i < 0x1A then (x.force.digest >>> (32 * (i - 0x0E))).setWidth 32 else 0

end Sys2Proof.Machine
end

