-- ==== Sys2Proof/Machine/Ops.lean ====
section
/-! DEFINITION. Named operations every command is built from: updates of one part of State, event latches and records,
ridge registers and their log, mailbox completion, and the Attic clock. -/

namespace Sys2Proof.Machine

open Sys2Proof

/-- What a command answers. -/
abbrev Out := Host.Outcome State Fault Refusal

/-! ### Updates of one part -/

def State.modTile (s : State) (t : TileId) (f : Tile → Tile) : State :=
  { s with tiles := s.tiles.set t.val (f (s.tile t)) t.isLt }

def State.mb (s : State) (h : LdId) : Mailbox := s.mbs[h]

def State.modMb (s : State) (h : LdId) (f : Mailbox → Mailbox) : State :=
  { s with mbs := s.mbs.set h.val (f (s.mb h)) h.isLt }

def State.modLd (s : State) (h : LdId) (f : Ld → Ld) : State :=
  { s with host := { s.host with lds := s.host.lds.set h.val (f (s.ld h)) h.isLt } }

def State.fn (s : State) (f : LdId) : FnEvents := s.fns[f]

def State.modFn (s : State) (f : LdId) (g : FnEvents → FnEvents) : State :=
  { s with fns := s.fns.set f.val (g (s.fn f)) f.isLt }

/-- What the block drove on its last response. -/
def State.respond (s : State) (data : List Byte) (code : Nat) : State := { s with resp := { data := data, code := code } }

/-- One value the spec leaves open; the counter moves on. -/
def State.fresh (s : State) (n : Nat) : State := { s with freeCtr := s.freeCtr + n }

/-! ### Status codes (R420) -/

def stOk : Nat := 0x00
def stBusy : Nat := 0x01
def stStale : Nat := 0x02
def stShort : Nat := 0x03
def stLong : Nat := 0x04
def stDenied : Nat := 0x05
def stBadArg : Nat := 0x06
def stRevoked : Nat := 0x07
def stRollback : Nat := 0x08
def stExhausted : Nat := 0x09
def stNoSource : Nat := 0x0A
def stFault : Nat := 0x0B

/-! ### Latches and messages (R461 to R463, R484) -/

/-- The head that carries a function (R395): its own in a bifurcated configuration, head 0 otherwise. -/
def headOf (s : State) (f : LdId) : HeadId := if s.host.bifur = 0 then 0 else Fin.ofNat 4 f.val

/-- A head has a posted credit. -/
def Head.credit (x : Head) : Bool := decide (x.posted ≠ some 0)

/-- The choice of an arbiter of `n` requesters whose pointer is `p` (R486). -/
def grant (n p : Nat) (req : Nat → Bool) : Option Nat := ((List.range n).map fun k => (p + k) % n).find? req

/-- A posted credit goes to a function's message: the head's pointer moves past the function (R484, R486). -/
def Head.spend (f : LdId) (x : Head) : Head := { x with posted := x.posted.map (· - 1), turn := f + 1 }

def State.modHead (s : State) (h : HeadId) (g : Head → Head) : State :=
  { s with host := { s.host with heads := s.host.heads.set h.val (g s.host.heads[h]) h.isLt } }

/-- One MSI-X message: sent against a posted credit of the head, or waiting at its function, one for each vector (R484). -/
def sendMsg (s : State) (f : LdId) (v : Nat) : State :=
  let h := headOf s f
  if (s.host.heads[h]).credit then (s.modHead h (Head.spend f)).modFn f fun e => { e with sent := e.sent ++ [(v, Sparse.get 0 e.msgAddr v)] }
  else s.modFn f fun e => { e with waiting := if v ∈ e.waiting then e.waiting else e.waiting ++ [v] }

/-- The function's MSI-X as a whole is masked (R463): off, or by its function mask. -/
def FnEvents.msixHeld (e : FnEvents) : Bool := !e.msixOn || e.msixMask

/-- A latch of one function rises (R461, R463). -/
def riseFn (s : State) (f : LdId) (src : Nat) : State :=
  let e := s.fn f
  if e.pend.getLsbD src then s
  else
    let s := s.modFn f fun e => { e with pend := putBit e.pend src true }
    let v := (Sparse.get 0xFF#8 e.routes src).toNat
    if 64 ≤ v then s
    else if e.vecMask.getLsbD v || e.msixHeld then s.modFn f fun e => { e with pending := putBit e.pending v true }
    else sendMsg s f v

/-- The Loft's own latch of a source. -/
def setLoft (s : State) (src : Nat) : State :=
  { s with gutter := { s.gutter with loft := putBit s.gutter.loft src true } }

/-- The functions in the order in which the arbiter of their head grants messages asked for in one cycle (R486); only head 0 ever carries
more than one. -/
def fnOrder (s : State) : List LdId := (List.finRange 16).map fun k => s.host.heads[(0 : HeadId)].turn + k

/-- The latch of a source is set in the Loft and in every function (R461). -/
def setLatch (s : State) (src : Nat) : State := (fnOrder s).foldl (fun s f => riseFn s f src) (setLoft s src)

/-- The latch of EVD_MB_DONEh is set in the Loft and in function h alone (R461). -/
def setMbLatch (s : State) (h : LdId) : State := riseFn (setLoft s (448 + h.val)) h (448 + h.val)

/-! ### Records (R458 to R469) -/

/-- Severity of a source (R458, R459): 0 INFO, 1 NOTICE, 2 WARNING, 3 ERROR, 4 CRITICAL. -/
def severityOf (src : Nat) : Nat :=
  if src < 448 then
    match src % 14 with
    | 0 => 1 | 1 => 0 | 2 => 3 | 3 => 2 | 4 => 2 | 5 => 0 | 6 => 2 | 7 => 2 | 8 => 0 | 9 => 1 | 10 => 1 | 11 => 2
    | 12 => 3 | _ => 2
  else match src with
    | 464 => 1 | 465 => 1 | 466 => 1 | 472 => 2 | 473 => 3 | 480 => 0 | 481 => 3 | 482 => 3 | 483 => 1 | 484 => 2
    | 485 => 2 | 486 => 3 | 487 => 0 | 488 => 3 | 489 => 2 | 490 => 3 | 491 => 2 | 492 => 3 | 496 => 2 | 497 => 4
    | 498 => 2 | 499 => 4 | 500 => 2 | 504 => 3 | 505 => 3 | 506 => 1 | 507 => 2 | 508 => 2 | 509 => 2 | 510 => 2
    | 511 => 2 | _ => 0

/-- Attic ticks since the power-cycle count last advanced (R465). -/
def cycleTicks (s : State) : Nat := (s.attic.tick - s.attic.cycleTick) % 2 ^ 32

/-- A raise stamped with the time of the raise (R465). -/
def stamp (s : State) (src sev tile code : Nat) (p : Payload) : Waiting :=
  { hours := s.attic.hours, cycles := s.attic.cycles, tick := cycleTicks s, source := src, severity := sev,
    tile := tile, code := code, payload := p }

/-- The source field of a record: source and severity (R465). -/
def Waiting.sourceField (w : Waiting) : Nat := w.source % 1024 + 1024 * w.severity

/-- A record is dropped (R469). -/
def dropRecord (s : State) (reason : Nat) (w : Waiting) : State :=
  let g := s.gutter
  let first := g.episode.isNone
  let ep : Episode := match g.episode with
    | some e => { e with count := satInc 0xFFFFFFFF e.count }
    | none => { reason := reason, source := w.sourceField, count := 1, hours := s.attic.hours
                cycles := s.attic.cycles, tick := cycleTicks s }
  let s := { s with gutter := { g with episode := some ep, drops := satInc 0xFFFFFFFF g.drops } }
  let s := if first then setLatch s 511 else s
  if w.source = 0x3FF then s else setLatch s w.source

/-- A raise joins the queue of 256 entries, or is dropped (R467, R469). -/
def enqueue (s : State) (w : Waiting) : State :=
  if s.gutter.queue.length < 256 then { s with gutter := { s.gutter with queue := s.gutter.queue ++ [w] } }
  else dropRecord s 0 w

/-- A source is raised with the severity given. -/
def raiseSev (s : State) (src sev tile : Nat) (p : Payload) : State :=
  enqueue s (stamp s src sev tile (p.toNat % 256) p)

/-- A device source is raised; `tile` is the tile its payload names, or 0xFF. -/
def raise (s : State) (src tile : Nat) (p : Payload) : State := raiseSev s src (severityOf src) tile p

/-- Source k of tile t is raised (R458); one of a fused-off tile never asserts. -/
def raiseT (s : State) (t : TileId) (k : Nat) (p : Payload) : State :=
  if fusedOff s t then s else raise s (t.val * 14 + k) t.val p

/-- A note (R466). -/
def note (s : State) (code sev tile : Nat) (p : Payload) : State := enqueue s (stamp s 0x3FF sev tile code p)

/-- A raise takes its place among those of its cycle (R467): ascending source numbers, and notes, whose source field is 0x3FF, last. -/
def insertRaise : List Waiting → Waiting → List Waiting
  | [], w => [w]
  | v :: vs, w => if w.source < v.source then w :: v :: vs else v :: insertRaise vs w

/-- What a command has raised since `before` is put in the order of one cycle (R467). -/
def sortRaises (before after : State) : State :=
  let n := before.gutter.queue.length
  { after with gutter := { after.gutter with
      queue := after.gutter.queue.take n ++ (after.gutter.queue.drop n).foldl insertRaise [] } }

/-- A command's raises are those of one cycle (R467; DESIGN CHOICE, log entry 50). -/
def inOneCycle (before : State) (o : Out) : Out :=
  match o with
  | .next s => .next (sortRaises before s)
  | o => o

/-- Field list with the first 16 bytes of a digest at offset 0x10. -/
def withDigest (fs : List (Nat × Nat × Nat)) (d : Digest) : Payload := payload (fs ++ [(0x10, 16, d.toNat % 2 ^ 128)])

/-! ### Ridge registers (R239 to R252) -/

/-- Ridge register k of tile t (R7). -/
def tileReg (t : TileId) (k : Fin 8) : Fin 320 := ⟨64 + 8 * t.val + k.val, by omega⟩

def State.reg (s : State) (r : Fin 320) : RidgeReg := s.ridge.regs[r]

def State.setReg (s : State) (r : Fin 320) (v : RidgeReg) : State :=
  { s with ridge := { s.ridge with regs := s.ridge.regs.set r.val v r.isLt } }

/-- Portion of the measurement log a register uses, and its size (R252). -/
def logPortion (r : Nat) : Nat × Nat :=
  if r < 32 then (0, 1024) else if r < 64 then (1, 1024) else (2 + (r - 64) / 4, 32)

/-- Entries held in a portion. -/
def portionUsed (s : State) (p : Nat) : Nat := (s.ridge.log.filter fun e => decide ((logPortion e.reg).1 = p)).length

/-- One extend as the Ridge domain makes it (R241, R250, R252): requester coded as last_by; a saturated register stays as it is
and a note is made. -/
def extendNow (s : State) (r : Fin 320) (who : BitVec 8) (kind : BitVec 8) (gen : Word) (d : Digest) : State :=
  let x := s.reg r
  if x.saturated then note s 0x02 2 0xFF (payload [(0, 2, r.val), (2, 1, who.toNat)])
  else
    let counter := x.counter + 1
    let room := decide (portionUsed s (logPortion r.val).1 < (logPortion r.val).2)
    let s := s.setReg r { x with
      value := Config.sha384 (bytesOf 48 x.value ++ bytesOf 48 d), counter := counter
      saturated := decide (counter = BitVec.allOnes 64), overflow := x.overflow || !room, trial := x.trial || s.gmode.trial
      lastBy := who, gen := gen }
    if room then
      { s with ridge := { s.ridge with log := s.ridge.log ++
        [{ reg := r.val, kind := kind, lastBy := who, gen := gen, counter := counter, digest := d }] } }
    else s

/-- A request joins those held at the boundary (R20). -/
def holdRidge (s : State) (q : RidgeReq) : State := { s with ridge := { s.ridge with held := s.ridge.held ++ [q] } }

/-- An extend requested (R20, R241): made at once, or held at the boundary while the port is. -/
def extendReg (s : State) (r : Fin 320) (who : BitVec 8) (kind : BitVec 8) (gen : Word) (d : Digest) : State :=
  if s.boot.ridgeHeld then holdRidge s (.extend r who kind gen d) else extendNow s r who kind gen d

/-- Requesters R29 permits for a register, coded as last_by (R250): 1 Ridge domain, 2 boot ROM, 3 Loft, 4 gate. -/
def extendPermitted (s : State) (who reg : Nat) : Bool :=
  if reg < 32 then decide (who = 1 ∨ who = 2)
  else if reg < 64 then decide (who = 3)
  else decide (who = 4) && !fusedOff s (Fin.ofNat 32 ((reg - 64) / 8))

/-- The extends of registers 0 to 7 are parts of other commands and are made at no other time, and registers 8 to 31 are never
extended (R242), so that no request of its own extends them. -/
def extendAllowed (s : State) (who reg : Nat) : Bool := decide (32 ≤ reg) && extendPermitted s who reg

/-- T_GEN that an extend of a register logs: of its tile, 0 for a device register (R250). -/
def extendGen (s : State) (reg : Fin 320) : Word :=
  if reg.val < 64 then 0 else (s.tile (Fin.ofNat 32 ((reg.val - 64) / 8))).ctl.gen

/-- An EXTEND request and its status (R29, R240, R241); it is held at the boundary, with no status yet, while the domain is off or the
port held (R20). -/
def requestExtend (s : State) (who : Nat) (reg : Fin 320) (digest : Digest) : State × Option Nat :=
  if !extendAllowed s who reg.val then (s, some stDenied)
  else if !s.ridge.powered ∨ s.boot.ridgeHeld then (holdRidge s (.extend reg (BitVec.ofNat 8 who) 0 (extendGen s reg) digest), none)
  else (extendNow s reg (BitVec.ofNat 8 who) 0 (extendGen s reg) digest, some (if (s.reg reg).saturated then stExhausted else stOk))

/-- A register reset as the Ridge domain makes it (R240). -/
def resetNow (s : State) (r : Fin 320) : State :=
  let x := s.reg r
  let s := s.setReg r { x with
    value := 0, counter := 0, saturated := false, overflow := false, trial := false
    epoch := if x.epoch = BitVec.allOnes 16 then x.epoch else x.epoch + 1 }
  { s with ridge := { s.ridge with log := s.ridge.log.filter fun e => decide (e.reg ≠ r.val) } }

/-- A register reset requested (R20, R240). -/
def resetReg (s : State) (r : Fin 320) : State :=
  if s.boot.ridgeHeld then holdRidge s (.reset r) else resetNow s r

/-- One held request runs. -/
def runRidge (s : State) (q : RidgeReq) : State :=
  match q with
  | .extend r who kind gen d => extendNow s r who kind gen d
  | .reset r => resetNow s r

/-- Registers k = 0 to 3 of a tile are reset (R244). -/
def resetImageRegs (s : State) (t : TileId) : State :=
  if fusedOff s t then s else [0, 1, 2, 3].foldl (fun s (k : Fin 8) => resetReg s (tileReg t k)) s

/-- Registers k = 4 to 7 of a tile are reset (R244). -/
def resetPlatformRegs (s : State) (t : TileId) : State :=
  if fusedOff s t then s else [4, 5, 6, 7].foldl (fun s (k : Fin 8) => resetReg s (tileReg t k)) s

/-- An extend by the gate of a tile register, with the tile's T_GEN. -/
def extendTile (s : State) (t : TileId) (k : Fin 8) (kind : BitVec 8) (d : Digest) : State :=
  if fusedOff s t then s else extendReg s (tileReg t k) 4 kind (s.tile t).ctl.gen d

/-- A life record is extended into LIFE (R248): kind, region, T_GEN after the event, manifest digest. -/
def lifeRecord (s : State) (t : TileId) (kind region : Nat) (digest : Digest) : State :=
  let bs := packBytes 32 [(0, 1, kind), (1, 1, region), (4, 4, (s.tile t).ctl.gen.toNat), (8, 24, digest.toNat % 2 ^ 192)]
  extendTile s t 3 (BitVec.ofNat 8 kind) (Config.sha384 bs)

/-- TABLES is extended with the table image in force (R244, R247). -/
def extendTables (s : State) (t : TileId) : State := extendTile s t 2 0 (Config.sha384 (s.tile t).active.image)

/-- image_version of the running Imvon manifest (R255). -/
def fwVersion (s : State) : Nat := match s.fw.running with | some i => mfVersion i.manifest | none => 0

/-- Manifest digest of the running Imvon; zero before LOAD_DONE (R253). -/
def fwDigest (s : State) : Digest := match s.fw.running with | some i => i.digest | none => 0

/-- A public key of a slot (R312): P384 in SEC 1 form, ML-DSA-87 as its encoding. -/
def slotPublic (k : KeySlot) : List Byte :=
  if k.ty = 3 then (List.range 97).map (Config.p384Public (bytesOf 48 k.material))
  else (List.range 2592).map (Config.mldsaPublic (bytesOf 32 k.material))

/-- The SPDM slot 0 chain at its place in the Purlin system areas (R499), by its own length field. -/
def purlinChain (s : State) : List Byte :=
  Memory.read 0xFF s.purlin.contents 0xE00000 (leNat (Memory.read 0xFF s.purlin.contents 0xE00000 2))

/-- SPDM certificate slots 0 and 2 with a chain (R255, R261, R266): slot 0 is offered only when its leaf is the DIK. -/
def chainPresent (s : State) (slot : Nat) : Bool :=
  if slot = 0 then
    let dik := s.keys.slots[(3 : Fin 256)]
    decide (dik.state = .valid ∧ s.purlin.state = 1 ∧ leNat (Memory.read 0xFF s.purlin.contents 0xE00000 2) ≠ 0xFFFF ∧
      Config.chainLeafKey (purlinChain s) = slotPublic dik)
  else decide (s.keys.slot2Chain ≠ [])

/-- The device state record (R255). -/
def deviceStateRecord (s : State) : List Byte :=
  packBytes 32 [(0, 1, s.gmode.mode.code), (1, 1, s.gmode.cause.code), (2, 1, s.otp.lifecycle.code),
    (3, 1, b01 s.gmode.trial + 2 * b01 s.gmode.barren + 4 * b01 s.gmode.fwFromPurlin + 8 * b01 (chainPresent s 0) +
      16 * b01 (chainPresent s 2)),
    (4, 4, (gFeature s).toNat), (8, 4, s.attic.cycles), (0x0C, 4, s.attic.hours), (0x10, 8, fwVersion s),
    (0x18, 2, Config.ridgeIssue.toNat)]

/-- Region code of the OTP configuration record, where RETRY shows as FAULT (R256, R324). -/
def regionCode (x : RegionStatus) : Nat := match x with | .unfinalised => 0 | .locked => 1 | .fault => 2 | .retry => 2

/-- The OTP configuration record (R256). -/
def otpConfigRecord (s : State) : List Byte :=
  let regions := 2 * b01 s.otp.undecodable + 4 * regionCode (regionStatus s 0) + 16 * regionCode (regionStatus s 1) +
    64 * regionCode (regionStatus s 2) + 1024 * regionCode (regionStatus s 3) + 4096 * regionCode (regionStatus s 4)
  let keyset := ((List.range 16).map fun i => 2 ^ i * b01 (keyringSet s i)).sum
  let rev := ((List.range 16).map fun i => 2 ^ i * b01 (revoked s i)).sum
  packBytes 0x10 [(0, 4, regions), (4, 2, keyset), (6, 2, rev), (8, 1, svnCount s 32),
      (9, 1, min 0xFF s.otp.marginalCold), (0x0A, 2, s.otp.redirected.length)] ++
    (List.range 32).map (fun t => BitVec.ofNat 8 (svnCount s t)) ++
    bytesOf 48 (Config.sha384 (shadowBytes s 16 192)) ++
    bytesOf 48 (match s.host.ownerDigest with | some d => d | none => 0)

/-- EVD_FUSE_MOVE with its extend of register 7 (R242, R326, R460). -/
def fuseMove (s : State) (shadow index after before : Nat) : State :=
  let s := raise s 466 (if shadow = 1 ∧ index < 32 then index else 0xFF)
    (payload [(0, 1, shadow), (1, 1, index), (2, 1, after), (3, 1, before)])
  if shadow = 3 then s else extendReg s 7 1 0 0 (Config.sha384 (otpConfigRecord s))

/-! ### Owner role changes (R408) -/

/-- EVD_OWNER_ROLE for every logical device whose role differs from a set held before (R459, R460). -/
def ownerEvents (before : Nat) (byLoader : Bool) (s : State) : State :=
  let after := ownerLds s
  (List.finRange 16).foldl (fun s (h : LdId) =>
    let was := decide (before / 2 ^ h.val % 2 = 1)
    let is := decide (after / 2 ^ h.val % 2 = 1)
    if was = is then s
    else raise s 465 0xFF (payload [(0, 1, b01 is), (1, 1, h.val), (2, 1, b01 byLoader), (4, 2, after)])) s

/-! ### Mailbox completion (R417) -/

/-- Tile a command names: every TILE_ and IMAGE_ request begins with the tile number (R429, R431). -/
def namedTile (s : State) (m : Mailbox) : Option TileId :=
  let op := m.opcode.toNat
  if ((0x200 ≤ op ∧ op ≤ 0x208) ∨ (0x300 ≤ op ∧ op ≤ 0x309)) ∧ 4 ≤ m.length.toNat then
    if h : m.arg 0 4 < 32 then
      if fusedOff s ⟨m.arg 0 4, h⟩ then none else some ⟨m.arg 0 4, h⟩
    else none
  else none

/-- A command completes: response from payload offset 0 then zeros, completion registers, fill zeroed, go and busy
cleared, done set, and the completion source where irq was set (R417, R420). -/
def complete (s : State) (h : LdId) (st : Nat) (resp : List Byte) : State :=
  let m := s.mb h
  let resp := if st = stOk ∨ st = stStale then resp else []
  let gen := match namedTile s m with | some t => (s.tile t).ctl.gen | none => 0
  let s := s.modMb h fun m =>
    { m with
      payload := Memory.write 0 [] 0 resp, compStatus := BitVec.ofNat 8 st, compTag := m.tag
      compLen := BitVec.ofNat 32 resp.length, compGen := gen, fill := 0, go := false, busy := false, done := true }
  let s := { s with
    responder := s.responder.filter (· ≠ h)
    loft := { s.loft with takeover := s.loft.takeover.map fun k =>
      { k with okCount := k.okCount + b01 (st = stOk), busyCount := k.busyCount + b01 (st = stBusy) } } }
  if bitOf m.flags 0 then setMbLatch s h else s

/-! ### Engine contexts (R268, R270) -/

/-- A requester's Thatch contexts: the first and how many (R268). -/
def thatchRange (o : JobOwner) : Nat × Nat :=
  match o with
  | .inl h => (12 * h.val, 12) | .inr .loft => (192, 32) | .inr .ridge => (224, 32) | .inr (.gate t) => (256 + 8 * t.val, 8)

/-- Place of context c of a requester. -/
def thatchAt (o : JobOwner) (c : Nat) : Option (Fin 512) :=
  let r := thatchRange o
  if h : c < r.2 ∧ r.1 + c < 512 then some ⟨r.1 + c, h.2⟩ else none

def State.setThatch (s : State) (i : Fin 512) (c : Option HashCtx) : State :=
  { s with eng := { s.eng with thatch := s.eng.thatch.set i.val c i.isLt } }

/-- A requester's Spar contexts: the first and how many (R268). -/
def sparRange (o : JobOwner) : Nat × Nat := match o with | .inl h => (6 * h.val, 6) | .inr .loft => (96, 32) | .inr _ => (0, 0)

/-- Place of context c of a requester. -/
def sparAt (o : JobOwner) (c : Nat) : Option (Fin 128) :=
  let r := sparRange o
  if h : c < r.2 ∧ r.1 + c < 128 then some ⟨r.1 + c, h.2⟩ else none

def State.setSpar (s : State) (i : Fin 128) (c : Option SparCtx) : State :=
  { s with eng := { s.eng with spar := s.eng.spar.set i.val c i.isLt } }

/-- Every context and queue entry of a requester is given up (R270). -/
def releaseOwner (s : State) (o : JobOwner) : State :=
  let inside := fun (r : Nat × Nat) (i : Nat) => decide (r.1 ≤ i ∧ i < r.1 + r.2)
  { s with eng := { s.eng with
      thatch := Vector.ofFn fun i : Fin 512 => if inside (thatchRange o) i.val then none else s.eng.thatch[i]
      spar := Vector.ofFn fun i : Fin 128 => if inside (sparRange o) i.val then none else s.eng.spar[i]
      sparQ := s.eng.sparQ.filter (· ≠ o), rafterQ := s.eng.rafterQ.filter (· ≠ o) } }

/-! ### Time -/

/-- Ticks of the 32.768 kHz clock in a number of ms, rounded up. -/
def msTicks (ms : Nat) : Nat := (ms * 32768 + 999) / 1000

/-- Whole ms in a number of ticks. -/
def ticksMs (ticks : Nat) : Nat := ticks * 1000 / 32768

/-- Ticks since a stamp of the tick counter. -/
def since (s : State) (t : Nat) : Nat := s.attic.tick - t

/-- T_TRIAL counts the ms a tile on trial spends in RUN (R234, R237); `trialTick` holds the ticks counted. -/
def Tile.trialTick (x : Tile) : Tile :=
  if x.ctl.state = .run ∧ x.update.trial.isSome then
    { x with update := { x.update with
        trialTick := x.update.trialTick + 1, runMs := ticksMs (x.update.trialTick + 1) } }
  else x

/-- One Attic tick with nothing commanded: the tick counter and the trial timers advance (DESIGN CHOICE, log entry 1);
every other timed effect is a command of its own. -/
def idleTick (s : State) : State :=
  if s.boot.vddAon then
    { s with attic := { s.attic with tick := s.attic.tick + 1 }, tiles := s.tiles.map Tile.trialTick }
  else s

/-! ### Memory lines (R439, R447, R448, R452, R455) -/

/-- Payload of the memory sources (R455); tile and block 0xFFFF_FFFF name none. -/
def memPayload (sram : Bool) (loc contents action tile line symbols count block : Nat) : Payload :=
  payload [(0, 1, b01 sram), (1, 1, loc), (2, 1, contents), (3, 1, action), (4, 4, tile), (8, 4, line), (0x0C, 1, symbols),
    (0x10, 4, count), (0x14, 4, block)]

/-- The channel of an Underlay line, from its address (R439), or the owner of an SRAM line. -/
def linePlace (f : LineFault) : Nat := if f.sram then f.loc else f.line / 8 % 8

/-- A memory source with the payload of R455. -/
def memEvent (s : State) (src : Nat) (f : LineFault) (action count : Nat) : State :=
  raise s src (if f.tile < 32 then f.tile else 0xFF)
    (memPayload f.sram (linePlace f) f.contents action (if f.tile < 32 then f.tile else 0xFFFFFFFF) f.line
      (if f.symbols ≤ 2 then f.symbols else 0) count f.block)

/-- A channel's uncorrectable lines within a millisecond; from the sixteenth on it is being retrained (R452). -/
def countBad (s : State) (ch : Fin 8) : State :=
  let l := s.memctl.badLines[ch]
  let l := if 16 ≤ l.length then l else s.attic.tick :: l.filter fun k => decide (since s k < msTicks 1)
  { s with memctl := { s.memctl with badLines := s.memctl.badLines.set ch.val l ch.isLt } }

/-- An uncorrectable line is counted and its event raised with the action taken (R448, R455). -/
def lostEvent (s : State) (f : LineFault) (action : Nat) : State :=
  let s := { s with memctl :=
    if f.sram then { s.memctl with uncorrS := satInc 0xFF s.memctl.uncorrS }
    else { s.memctl with uncorrU := satInc 0xFF s.memctl.uncorrU } }
  let s := if f.sram then s else countBad s (Fin.ofNat 8 (linePlace f))
  memEvent s (if f.sram then 482 else 481) f action 0

/-- A line of the SRAM that a command found uncorrectable: its owner, its contents, the tile or 32 for none, and its number. -/
def sramLine (owner contents tile line : Nat) : LineFault where
  sram := true; loc := owner; contents := contents; line := line; tile := tile; block := 0xFFFFFFFF; symbols := 3; hard := false
  mis := false; unit := 0; data := []; other := []; runs := []

/-- The line at a place of an Underlay area of a tile, or of none, that a channel marked down cannot deliver: every access to it is an
uncorrectable line (R452). Its number within the memory the spec does not give beyond its channel and its place in the group: a free
value. -/
def downLine (s : State) (tile contents off : Nat) (data : List Byte := []) : LineFault where
  sram := false; loc := 0; contents := contents; line := 64 * Config.freeNat s.freeCtr + off / 64 % 64; tile := tile
  block := off / 4096; symbols := 3; hard := true; mis := false
  unit := if contents = 3 then off / 64 else off % 4096 / 64; data := data; other := []; runs := []

/-- The lines of a range of an Underlay area that lie on a channel marked down, by number within the area (R439, R452). -/
def downLines (s : State) (off n : Nat) : List Nat :=
  if n = 0 ∨ !s.boot.underlayDone ∨ s.memctl.channelUp = BitVec.allOnes 8 then []
  else ((List.range ((off + n - 1) / 64 + 1 - off / 64)).map (off / 64 + ·)).filter fun l => channelDown s (64 * l)

/-- A range of an Underlay area has a line on a channel marked down (R452). -/
def rangeDown (s : State) (off n : Nat) : Bool := decide (downLines s off n ≠ [])

/-- A channel is being retrained: accesses that touch every channel wait (R452). -/
def anyWaits (s : State) : Bool := (List.range 8).any fun c => channelWaits s (512 * c)

/-- The lines of a range on a channel marked down are counted and raised, with the action taken (R448, R452). -/
def downEvents (s : State) (tile contents action off n : Nat) : State :=
  (downLines s off n).foldl (fun s l => lostEvent (s.fresh 1) (downLine s tile contents (64 * l)) action) s

/-- A 64-byte line of a range is poisoned, or lies on a channel marked down (R448, R452); area t is tile t's staging area, area 32 the push
buffer. -/
def poisonIn (s : State) (area off n : Nat) : Bool :=
  rangeDown s off n ||
  s.memctl.poisoned.any fun p => decide (p.1 = area ∧ 64 * p.2 < off + n ∧ off < 64 * (p.2 + 1))

/-! ### Key slots and the slots of SPDM sessions -/

def State.slot (s : State) (i : Fin 256) : KeySlot := s.keys.slots[i]

def State.setSlot (s : State) (i : Fin 256) (k : KeySlot) : State :=
  { s with keys := { s.keys with slots := s.keys.slots.set i.val k i.isLt } }

/-- Contexts that loaded a slot are closed, and a Spar context clears its key (R30, R307). -/
def closeSlotContexts (s : State) (i : Nat) : State :=
  { s with eng := { s.eng with
      thatch := s.eng.thatch.map fun c => c.map fun c => if c.slot = some i then { c with closed := true } else c
      spar := s.eng.spar.map fun c => c.map fun c => if c.slot = i then { c with key := [], closed := true } else c } }

/-- A slot returned to EMPTY (R306, R307). -/
def destroySlot (s : State) (i : Fin 256) : State := (closeSlotContexts s i.val).setSlot i .reset

/-- A slot's destruction requested of the Ridge domain: made at once, or held at the boundary while the port is (R20). -/
def dropSlot (s : State) (i : Fin 256) : State :=
  if s.boot.ridgeHeld then { s with keys := { s.keys with held := s.keys.held ++ [.destroy i] } } else destroySlot s i

/-- The slot of the Loft's range (R305). -/
def loftSlot (i : LoftSlot) : Fin 256 := ⟨16 + i.val, by omega⟩

/-- The slots of sessions that end are destroyed: a session's keys are held in slots of the Loft (R263, R305, R306). -/
def dropSessionSlots (s : State) (xs : List Session) : State :=
  xs.foldl (fun s x => dropSlot (dropSlot s (loftSlot x.reqSlot)) (loftSlot x.rspSlot)) s

/-- The walker of a tile stops: the contexts and queue entries the gate held for it are released (R154, R270). -/
def stopWalker (s : State) (t : TileId) : State := releaseOwner s (.inr (.gate t))

/-- The SPDM session of a tile's sideband ends (R263, R382). -/
def endSideSession (s : State) (t : TileId) : State :=
  (dropSessionSlots s (s.tile t).side.spdm.sessions).modTile t fun x =>
    { x with side := { x.side with spdm := { x.side.spdm with sessions := [] } } }

end Sys2Proof.Machine
end

