-- ==== Sys2Proof/Machine/Recorder.lean ====
section
/-! DEFINITION. The recorder core: the ring, the chain MAC, appends and drops (R465 to R471, R473). -/

namespace Sys2Proof.Machine

open Sys2Proof

/-! ### Records -/

/-- Slots of the ring. -/
def ringSlots : Nat := 16384

/-- Bytes 0x00 to 0x37 of a record (R465). -/
def recordHead (seq : Nat) (w : Waiting) : List Byte :=
  leBytes 8 seq ++ leBytes 4 w.hours ++ leBytes 4 w.cycles ++ leBytes 4 w.tick ++ leBytes 2 w.sourceField ++
    [BitVec.ofNat 8 w.code, BitVec.ofNat 8 w.tile] ++ bytesOf 32 w.payload

/-- A record's 64 bytes (R465). -/
def recordBytes (r : Record) : List Byte := recordHead r.seq r.body ++ bytesOf 8 r.mac

/-- The chain MAC (R473). -/
def chainMac (key : Digest) (prev : BitVec 64) (seq : Nat) (w : Waiting) : BitVec 64 :=
  (Config.hmacSha384 (bytesOf 48 key) (bytesOf 8 prev ++ recordHead seq w)).setWidth 64

/-- Sequence number of the oldest record in the ring, 0 if none. -/
def ringLow (g : Gutter) : Nat := match g.ring with | [] => 0 | r :: _ => r.seq

/-- Sequence number of the oldest journalled record, 0 if none. -/
def journalLow (g : Gutter) : Nat := match g.journal with | [] => 0 | r :: _ => r.2.seq

/-- The record in ring slot i. -/
def ringAt (g : Gutter) (i : Nat) : Option Record :=
  g.ring.find? fun r => decide (r.seq + (g.headSlot + ringSlots - i % ringSlots) % ringSlots = g.seq)

/-- Whether an append finds a slot (R468, R469). -/
def ringRoom (g : Gutter) : Bool :=
  decide (g.ring = [] ∨ g.seq + 1 < ringLow g + ringSlots) || g.overwrite || decide (ringLow g ≤ g.jSeq)

/-- EVD_GUTTER_WRAP (R460, R469). -/
def wrapEvent (s : State) (kind oldest : Nat) : State := raise s 506 0xFF (payload [(0, 1, kind), (8, 8, oldest)])

/-- One append (R467 to R470, R473, R242): slot, sequence number, MAC, latch, and register 5 for a mode change. -/
def append (s : State) (w : Waiting) : State :=
  let g := s.gutter
  let seq := g.seq + 1
  let mac := chainMac s.keys.journalKey g.mac seq w
  let slot := if g.ring = [] then 0 else (g.headSlot + 1) % ringSlots
  let full := decide (g.ring ≠ [] ∧ ringLow g + ringSlots ≤ seq)
  let ring := (if full then g.ring.drop 1 else g.ring) ++ [{ seq := seq, body := w, mac := mac }]
  let s := { s with
    gutter := { g with
      seq := seq, mac := mac, ring := ring, headSlot := slot, filled := g.filled || decide (slot = ringSlots - 1) }
    attic := { s.attic with keptSeq := seq } }
  let s := if w.source < 511 then setLatch s w.source else s
  let s :=
    if w.source = 464 ∧ w.code ≠ ModeCause.dozeEnter.code ∧ w.code ≠ ModeCause.wake.code then
      extendReg s 5 1 0 0 (Config.sha384 (recordHead seq w))
    else s
  if g.overwrite ∧ g.filled ∧ slot = 0 then wrapEvent s 0 (ringLow s.gutter) else s

/-- The record of a drop episode (R460, R469). -/
def episodeRecord (s : State) (e : Episode) : Waiting :=
  { stamp s 511 (severityOf 511) 0xFF e.reason
      (payload [(0, 1, e.reason), (2, 2, e.source), (4, 4, e.count), (8, 4, e.tick)]) with
    hours := e.hours, cycles := e.cycles, tick := e.tick }

/-- The recorder takes the front of its queue (R467, R469): `lost` is the SRAM line of its ring slot where that does not decode (R448). An
open episode's record goes first. -/
def recordOne (lost : Option Nat) (s : State) : State :=
  match s.gutter.queue with
  | [] => s
  | w :: rest =>
    if !s.ridge.powered ∨ !s.gutter.started ∨ s.boot.ridgeHeld then s
    else
      let drop := fun reason : Nat => dropRecord { s with gutter := { s.gutter with queue := rest } } reason w
      if !ringRoom s.gutter then drop 1
      else match lost with
      | some l => lostEvent (drop 2) (sramLine 4 14 32 l) 5
      | none => match s.gutter.episode with
      | some e => append { s with gutter := { s.gutter with episode := none } } (episodeRecord s e)
      | none => append { s with gutter := { s.gutter with queue := rest } } w

/-- The recorder appends what waits, at most `n` records. -/
def recordAll : Nat → State → State
  | 0, s => s
  | n + 1, s => recordAll n (recordOne none s)

end Sys2Proof.Machine
end

