-- ==== Sys2Proof/Machine/Manifest.lean ====
section
/-! DEFINITION. The checks of a Batten manifest in the order of R120 and the true verdicts of its signatures. -/

namespace Sys2Proof.Machine

open Sys2Proof

/-! ### Signature block (R113, R114) -/

def sigLen (scheme : Nat) : Nat := if scheme = 1 then 208 else if scheme = 2 then 7232 else 7428

/-- The signature block. -/
def mfSig (m : List Byte) : List Byte := m.drop (mfSigOffset m)

/-- The P-384 public key, empty where the scheme has none. -/
def mfKeyP (m : List Byte) : List Byte := if mfScheme m = 2 then [] else slice 0x0C 97 (mfSig m)

/-- The ML-DSA-87 public key, empty where the scheme has none. -/
def mfKeyM (m : List Byte) : List Byte :=
  match mfScheme m with
  | 2 => slice 0x0C 2592 (mfSig m)
  | 3 => slice 0x70 2592 (mfSig m)
  | _ => []

def mfSigP (m : List Byte) : List Byte :=
  match mfScheme m with
  | 1 => slice 0x70 96 (mfSig m)
  | 3 => slice 0xA90 96 (mfSig m)
  | _ => []

def mfSigM (m : List Byte) : List Byte :=
  match mfScheme m with
  | 2 => slice 0xA2C 4627 (mfSig m)
  | 3 => slice 0xAF0 4627 (mfSig m)
  | _ => []

/-- The order n of the P-384 group (FIPS 186-5). -/
def p384Order : Nat :=
  0xFFFFFFFFFFFFFFFFFFFFFFFFFFFFFFFFFFFFFFFFFFFFFFFFC7634D81F4372DDF581A0DB248B0A77AECEC196ACCC52973

/-- The key blob (R114). -/
def keyBlob (m : List Byte) : List Byte := mfKeyP m ++ mfKeyM m

/-- The signed part (R115). -/
def signedPart (m : List Byte) : List Byte := m.take (mfSigOffset m)

/-- The manifest digest (R106). -/
def manifestDigest (m : List Byte) : Digest := Config.sha384 (m.take (mfLen m))

/-- Every byte of a range is zero. -/
def zeroAt (m : List Byte) (off n : Nat) : Bool := (slice off n m).all (· = 0)

/-- Padding bytes of the block are zero (R113). -/
def sigPadOk (m : List Byte) : Bool :=
  let b := mfSig m
  zeroAt b 6 2 &&
    match mfScheme m with
    | 1 => zeroAt b 0x6D 3
    | 2 => zeroAt b 0x1C3F 1
    | _ => zeroAt b 0x6D 3 && zeroAt b 0x1D03 1

/-- The signature block is well formed (R113). -/
def sigBlockOk (m : List Byte) : Bool :=
  let b := mfSig m
  decide (leAt 0 4 b = 0x47495342 ∧ leAt 4 1 b = mfScheme m ∧ leAt 5 1 b = mfKeyIndex m ∧
    leAt 8 4 b = sigLen (mfScheme m)) && sigPadOk m

/-! ### The header (R104, R105, R121) -/

/-- n is a power of two from 1 MiB to 512 MiB. -/
def viewSizeOk (n : Nat) : Bool := (List.range 10).any fun k => decide (n = 2 ^ (20 + k))

/-- The header is well formed (R105). -/
def headerOk (m : List Byte) : Bool :=
  decide (m.length ≥ 256 ∧ mfMagic m = 0x4E544142 ∧ leAt 4 2 m = 1 ∧ leAt 6 2 m = 0x100 ∧ leAt 0x02E 2 m = 0x100 ∧
    leAt 0x014 1 m = 12 ∧ leAt 0x015 1 m = 5 ∧ leAt 0x016 1 m = 2) && zeroAt m 0x034 4 && zeroAt m 0x090 112 &&
  decide ((mfKind m = 1 ∨ mfKind m = 2) ∧ 1 ≤ mfScheme m ∧ mfScheme m ≤ 3 ∧ mfKeyIndex m < 16 ∧ mfProfile m ≤ 1 ∧
    1 ≤ mfRegionCount m ∧ mfRegionCount m ≤ 32 ∧
    mfSigOffset m % 4 = 0 ∧ 0x100 + mfRegionCount m * 32 ≤ mfSigOffset m ∧
    1 ≤ mfImageLen m ∧ mfImageLen m ≤ 0x10000000 ∧
    mfLen m = mfSigOffset m + sigLen (mfScheme m) ∧ mfLen m ≤ 0x10000 ∧
    mfDepth m = treeDepth (blockCount m) ∧ mfBootOkTimeout m ≤ 0x927C0 ∧
    (if mfProfile m = 0 then mfWatermark m = 0 else mfWatermark m ≤ blockCount m)) &&
  (decide (mfKind m = 2) || viewSizeOk (mfViewSize m))

/-- The further conditions of check 1 for a FIRMWARE manifest (R121). -/
def firmwareOk (m : List Byte) : Bool :=
  decide (mfViewSize m = 0 ∧ mfClass m = 0 ∧ mfWatermark m = 0 ∧ mfBootOkTimeout m = 0 ∧ mfProfile m = 0 ∧
    mfLen m ≤ 0x2000) && zeroAt m 0x080 16 && (mfRegions m).all fun r => r.sealed && decide (r.base = r.src)

/-- Check 1 (R120): header, signature block and the conditions of R121. -/
def formatOk (m : List Byte) : Bool :=
  headerOk m && sigBlockOk m && (decide (mfKind m = 1) || firmwareOk m)

/-! ### The region table (R109) -/

/-- Fields of one entry are in range (R107), and its rule is one of R198. -/
def regionFieldsOk (m : List Byte) (i : Nat) : Bool :=
  let r := mfRegion m i
  let e := slice (0x100 + 32 * i) 32 m
  decide (r.base % 0x1000 = 0 ∧ r.len % 0x1000 = 0 ∧ 0 < r.len ∧ r.src % 0x1000 = 0 ∧ r.cls ≤ 4 ∧
    (r.cls ≠ 2 → r.rule = 0 ∧ r.param = 0) ∧ r.rule ≤ 4 ∧ (r.cls = 4 → r.src = 0)) && zeroAt e 0x12 2 && zeroAt e 0x1C 4

/-- Ranges (offset, length) do not overlap pairwise. -/
def disjoint : List (Nat × Nat) → Bool
  | [] => true
  | (a, n) :: rs => rs.all (fun x => decide (a + n ≤ x.1 ∨ x.1 + x.2 ≤ a)) && disjoint rs

/-- Entries ascend strictly in view_base without overlap. -/
def ascending : List Region → Bool
  | r :: q :: rs => decide (r.base + r.len ≤ q.base) && ascending (q :: rs)
  | _ => true

/-- The region table is valid (R109). -/
def regionsOk (m : List Byte) : Bool :=
  let rs := mfRegions m
  let img := (rs.filter fun r => r.sealed || r.watched).map fun r => (r.src, r.len)
  let opens := (rs.filter Region.isOpen).map fun r => (r.src, r.len)
  let total := (mfImageLen m + 0xFFF) / 0x1000 * 0x1000
  (List.range (mfRegionCount m)).all (regionFieldsOk m) && ascending rs &&
    (decide (mfKind m = 2) || (rs.all (fun r => decide (r.base + r.len ≤ mfViewSize m)) && rs.any Region.sealed)) &&
    disjoint img && img.all (fun x => decide (x.1 + x.2 ≤ total)) && decide ((img.map (·.2)).sum = total) &&
    disjoint opens && opens.all (fun x => decide (x.1 + x.2 ≤ mfOpenSize m)) &&
    decide ((rs.filter Region.staging).length ≤ 1) &&
    (rs.filter Region.staging).all (fun r => decide (r.src + r.len ≤ mfStagingSize m))

/-! ### The layout (R126) -/

/-- Main answered its last discovery and is not marked down; a restore keeps the marks made since then (R182, R218). -/
def mainUp (x : Tile) : Bool :=
  present x.eave.main && !x.sweep.mainDown && !(decide (x.ctl.state = .restore) && x.restore.mainOut)

/-- The twin is fitted, answered and is not marked down. -/
def twinUp (x : Tile) : Bool :=
  x.eave.twinFitted && present x.eave.twin && !x.sweep.twinDown && !(decide (x.ctl.state = .restore) && x.restore.twinOut)

def densityOf (d : Option Discovery) : Nat := match d with | some d => 2 ^ d.density.toNat | none => 0

/-- An address lies inside every flash that counts. -/
def fitsFlash (x : Tile) (e : Nat) : Bool :=
  (!mainUp x || decide (e ≤ densityOf x.eave.main)) && (!twinUp x || decide (e ≤ densityOf x.eave.twin))

/-- The layout block is valid for a tile (R126, R442); `equal` is the layout an update, push or golden copy must have. -/
def layoutOk (x : Tile) (m : List Byte) (equal : Option (Nat × Nat × Nat × Nat)) : Bool :=
  decide (mfPartSize m % 0x10000 = 0 ∧ mfTreeSize m % 0x10000 = 0 ∧ mfOpenSize m % 0x10000 = 0 ∧
    mfStagingSize m % 0x10000 = 0 ∧ mfPartSize m ≤ 0x10000000 ∧ mfOpenSize m ≤ 0x01000000 ∧
    (treeNodes (blockCount m) * 1536 + 0xFFFF) / 0x10000 * 0x10000 ≤ mfTreeSize m) &&
  fitsFlash x (flashEnd (mfLayout m)) &&
  (match equal with | some l => decide (l = mfLayout m) | none => true)

/-! ### Keys and signatures (R52, R114 to R116) -/

/-- Check 3: the scheme is usable (R116); in lifecycle BLANK hybrid_required is not applied to firmware (R52). -/
def schemeOk (s : State) (fw : Bool) (m : List Byte) : Bool :=
  (mldsaUsable s || decide (mfScheme m = 1)) &&
    (!(hybridRequired s && !(fw && decide (s.otp.lifecycle = .blank))) || decide (mfScheme m = 3))

/-- Check 4: the key blob matches KEYRING, or in BLANK the boot ROM's provisioning key (R52, R114). -/
def keyOk (s : State) (fw : Bool) (m : List Byte) : Bool :=
  let d := Config.sha384 (keyBlob m)
  if fw ∧ s.otp.lifecycle = .blank then
    if mldsaUsable s then decide (mfScheme m = 3 ∧ d = Config.provKeyHybrid)
    else decide (mfScheme m = 1 ∧ d = Config.provKeyP384)
  else keyringSet s (mfKeyIndex m) && decide (d = keyringEntry s (mfKeyIndex m))

/-- A half of an ECDSA signature lies in [1, n − 1] of P-384, as a big-endian integer (R115). -/
def sigScalarOk (bs : List Byte) : Bool :=
  let r := leNat bs.reverse
  decide (1 ≤ r ∧ r < p384Order)

/-- The true verdict of the ECDSA half: r and s in range, and the signature verifies (R115). -/
def sigPTrue (m : List Byte) : Bool :=
  sigScalarOk ((mfSigP m).take 48) && sigScalarOk ((mfSigP m).drop 48) && Config.p384ValidPoint (mfKeyP m) &&
    Config.ecdsaVerify (mfKeyP m) (bytesOf 48 (Config.sha384 (signedPart m))) (mfSigP m)

/-- The true verdict of the ML-DSA-87 half. -/
def sigMTrue (m : List Byte) : Bool := Config.mldsaVerify (mfKeyM m) [] (signedPart m) (mfSigM m)

/-- The signatures verify (R115). -/
def sigTrue (m : List Byte) : Bool :=
  match mfScheme m with
  | 1 => sigPTrue m
  | 2 => sigMTrue m
  | _ => sigPTrue m && sigMTrue m

/-- Who consumes a manifest: a tile, with the layout it must equal if any, or the firmware loader. -/
inductive Consumer where
  | tile (t : TileId) (equal : Option (Nat × Nat × Nat × Nat))
  | firmware
  deriving DecidableEq, Repr

def Consumer.isFw : Consumer → Bool
  | .tile _ _ => false
  | .firmware => true

/-- The checks of R120 in order; `sigOk` is the signature result where check 5 is made, and `none` where it is not
(R139). The answer is the cause code of R157, 0 for acceptance. -/
def checkManifest (s : State) (c : Consumer) (m : List Byte) (sigOk : Option Bool) : Nat :=
  if !formatOk m then 0x01
  else if mfKind m ≠ (if c.isFw then 2 else 1) then 0x02
  else if !schemeOk s c.isFw m then 0x03
  else if !keyOk s c.isFw m then 0x04
  else if sigOk = some false then 0x05
  else if revoked s (mfKeyIndex m) then 0x06
  else match c with
    | .firmware =>
      if mfSvn m < svnCount s 32 then 0x07
      else if 0x600000 < mfImageLen m then 0x09
      else if !regionsOk m then 0x0A
      else 0
    | .tile t equal =>
      if mfSvn m < svnCount s t.val then 0x07
      else if (s.tile t).active.cls.toNat ≠ 0 ∧ mfClass m ≠ (s.tile t).active.cls.toNat then 0x08
      else if mfPartSize m < mfImageLen m then 0x09
      else if !regionsOk m then 0x0A
      else if !layoutOk (s.tile t) m equal then 0x0B
      else 0

/-- The detail field of EVT_VERIFY_FAIL (R158). -/
def failDetail (m : List Byte) (cause : Nat) : Nat :=
  match cause with
  | 0x07 => mfSvn m
  | 0x03 | 0x04 | 0x06 => mfKeyIndex m + 256 * mfScheme m
  | 0x09 => mfImageLen m
  | _ => 0

end Sys2Proof.Machine
end

