-- ==== Sys2Proof/Machine/Sfdp.lean ====
section
/-! DEFINITION. The emulated SFDP image (R165, R167, R197). The spec names its contents; the places of the fields are those of
JESD216F (PRESUMED, log entry 49). -/

namespace Sys2Proof.Machine

open Sys2Proof

/-- An erase type the emulated SFDP offers: its size as a log2, the typical time and the maximum, in microseconds (R197). -/
abbrev SfdpErase := Nat × Nat × Nat

/-- The discoveries that bound what is offered: main's, and that of a fitted twin. -/
def sfdpFlashes (x : Tile) : List Discovery :=
  x.eave.main.toList ++ (if x.eave.twinFitted then x.eave.twin.toList else [])

/-- The largest value a time has among the flashes. -/
def largest (ns : List Nat) : Nat := ns.foldl max 0

/-- A size both flashes offer, with its times: typical plus 0.1 ms, and twice the larger maximum (R197). -/
def sfdpErase (ds : List Discovery) (log2 : Nat) : SfdpErase :=
  let of := fun f : EraseType → Nat => largest (ds.filterMap fun d => (d.erases.find? fun e => decide (e.log2 = log2)).map f)
  (log2, of EraseType.typUs + 100, 2 * of EraseType.maxUs)

/-- The erase types offered (R197): those of 4, 32 and 64 KiB common to the flashes, else the smallest common size. -/
def sfdpErases (x : Tile) : List SfdpErase :=
  let ds := sfdpFlashes x
  let common := fun k => !ds.isEmpty && ds.all fun d => d.offers k
  match [12, 15, 16].filter common with
  | [] =>
    match (((ds.flatMap fun d => d.erases.map EraseType.log2)).filter common).min? with
    | some k => [sfdpErase ds k]
    | none => []
  | ks => ks.map (sfdpErase ds)

/-- Default opcode of an erase size (R191, R197); a size the default table has no opcode for has a free one. -/
def eraseOpcode (four : Bool) (log2 : Nat) : Nat :=
  match log2 with
  | 12 => if four then 0x21 else 0x20
  | 15 => if four then 0x5C else 0x52
  | 16 => if four then 0xDC else 0xD8
  | k => (Config.eraseOpcode four k).toNat

/-- A time as a count and a unit code, rounded up to the smallest unit that can hold it: (count − 1) + 2^bits × unit. -/
def sfdpTime (bits : Nat) (us : Nat) : List Nat → Nat → Nat
  | [], _ => 0
  | [u], code => min (2 ^ bits - 1) ((us + u - 1) / u - 1) + 2 ^ bits * code
  | u :: rest, code => if us ≤ 2 ^ bits * u then (us + u - 1) / u - 1 + 2 ^ bits * code else sfdpTime bits us rest (code + 1)

/-- The time a count and its unit stand for. -/
def sfdpTimeUs (bits : Nat) (units : List Nat) (code : Nat) : Nat := (code % 2 ^ bits + 1) * units.getD (code / 2 ^ bits) 1

/-- The smallest multiplier m for which 2 × (m + 1) × typical covers each maximum; it stands in four bits. -/
def sfdpMultiplier (ts : List (Nat × Nat)) : Nat :=
  min 15 (largest (ts.map fun t => (t.2 + 2 * t.1 - 1) / (2 * t.1) - 1))

/-- Units of erase times, in microseconds. -/
def eraseUnits : List Nat := [1000, 16000, 128000, 1000000]

/-- Units of page program times. -/
def progUnits : List Nat := [8, 64]

/-- Density field: bits − 1 to 2 Gbit, above it the power of two (R167). -/
def sfdpDensity (view : Nat) : Nat := if 8 * view ≤ 2 ^ 31 then 8 * view - 1 else 2 ^ 31 + Nat.log2 (8 * view)

/-- The erase type fields of two types: size and opcode, 0 and 0xFF for none. -/
def sfdpTypes (es : List SfdpErase) (i : Nat) : Nat :=
  let one := fun i => match es[i]? with
    | some e => e.1 + 256 * eraseOpcode false e.1
    | none => 0xFF00
  one i + 65536 * one (i + 1)

/-- The Basic Flash Parameter Table: 20 DWORDs (R167). -/
def sfdpBasic (view : Nat) (es : List SfdpErase) (progTyp progMax : Nat) : List Nat :=
  let typ := fun e : SfdpErase => sfdpTime 5 e.2.1 eraseUnits 0
  let prog := sfdpTime 5 progTyp progUnits 0
  let bytePair := sfdpTime 4 progTyp [1, 8] 0
  [ 0xFFFB00E4 + (if es.any (fun e => decide (e.1 = 12)) then 1 + 256 * 0x20 else 3 + 256 * 0xFF),
    sfdpDensity view,
    0x6B0CEB0C,
    0xBB0C3B0C,
    0xFFFFFFFE,
    0xFF00FFFF,
    0xEB0CFFFF,
    sfdpTypes es 0,
    sfdpTypes es 2,
    sfdpMultiplier (es.map fun e => (sfdpTimeUs 5 eraseUnits (typ e), e.2.2)) +
      ((List.range 4).map fun i => match es[i]? with | some e => typ e * 2 ^ (4 + 7 * i) | none => 0).sum,
    sfdpMultiplier [(sfdpTimeUs 5 progUnits prog, progMax)] + 8 * 16 + prog * 2 ^ 8 + bytePair * 2 ^ 14 +
      bytePair * 2 ^ 19 + 2 ^ 31,
    0x80000100,
    0,
    0x8000000F,
    0xFF000000,
    0x80 + 2 ^ 12 + 2 ^ 14 + 2 ^ 24 + 2 ^ 29,
    0,
    1 * 2 ^ 29,
    0,
    0x8866EEE5 ]

/-- The 4-byte Address Instruction Table: reads in the six SPI modes, programs 0x12 and 0x34, and the erase types (R191, R197). -/
def sfdpFour (es : List SfdpErase) : List Nat :=
  [ 0xFE0000FF + ((List.range 4).map fun i => if i < es.length then 2 ^ (9 + i) else 0).sum,
    ((List.range 4).map fun i => (match es[i]? with | some e => eraseOpcode true e.1 | none => 0xFF) * 256 ^ i).sum ]

/-- The xSPI Profile 1.0 table: the 8D-8D-8D read 0xEE, status reads with an address and 8 dummy cycles, and the dummy cycles at
200, 166, 133 and 100 MHz (R165, R188). -/
def sfdpProfile : List Nat :=
  [ 0xEE * 2 ^ 8 + 2 ^ 28 + 2 ^ 29, 0, 0, 24 * 2 ^ 7, 20 * 2 ^ 27 + 16 * 2 ^ 17 + 12 * 2 ^ 7 ]

/-- A parameter header: ID, revision, length in DWORDs and pointer. -/
def sfdpHeader (idLsb idMsb minor major len ptr : Nat) : List Byte :=
  packBytes 8 [(0, 1, idLsb), (1, 1, minor), (2, 1, major), (3, 1, len), (4, 3, ptr), (7, 1, idMsb)]

/-- The SFDP image built at a release (R167, R197); beyond it the space reads 0xFF. -/
def sfdpImage (x : Tile) : List Byte :=
  let ds := sfdpFlashes x
  let es := sfdpErases x
  let words := sfdpBasic (mfViewSize x.force.manifest) es (largest (ds.map (·.progTypUs)) + 100)
    (2 * largest (ds.map (·.progMaxUs))) ++ sfdpFour es ++ sfdpProfile
  packBytes 8 [(0, 4, 0x50444653), (4, 1, 0x0A), (5, 1, 1), (6, 1, 2), (7, 1, 0xFF)] ++
    sfdpHeader 0x00 0xFF 0x0A 1 20 0x20 ++ sfdpHeader 0x84 0xFF 0 1 2 0x70 ++ sfdpHeader 0x05 0xFF 0 1 5 0x78 ++
    words.flatMap (leBytes 4)

end Sys2Proof.Machine
end

