-- ==== Sys2Proof/Machine/Transitions.lean ====
section
/-! DEFINITION. The shared operations of the tile state machine (R71 to R102) and of the device modes (R35 to R70): one
change of a tile, entry to each state, releases, restore sources, one change of mode. -/

namespace Sys2Proof.Machine

open Sys2Proof

/-! ### One change of a tile (R76, R77) -/

/-- Payload of EVT_STATE_CHANGE (R460). -/
def statePayload (s : State) (t : TileId) : Payload :=
  let c := (s.tile t).ctl
  withDigest [(0, 1, c.cause.code), (1, 1, c.state.code), (2, 1, c.prev.code),
    (3, 1, b01 c.stage + 2 * b01 c.switchPending + 4 * b01 c.noEarly + 8 * b01 c.resetsCapped), (4, 4, c.gen.toNat),
    (8, 1, s.gmode.mode.code)] (s.tile t).force.digest

/-- States in which PLT_RST_N is released (R71). -/
def TileState.released (x : TileState) : Bool := decide (x = .early ∨ x = .run)

/-- States in which an update may write the flash (R229). -/
def TileState.writable (x : TileState) : Bool := decide (x = .held ∨ x = .early ∨ x = .run ∨ x = .quarantine)

/-- What a change of state does to an update (R74, R227, R229): a held commit is verified once the tile leaves FETCH and
RESTORE; writes stop in FETCH, RESTORE and OFF, and start again from the update area. -/
def TileUpdate.moved (u : TileUpdate) (dst : TileState) : TileUpdate :=
  if 4 ≤ u.phase.toNat ∧ u.phase.toNat ≤ 6 ∧ !dst.writable then { u with phase := 3, step := 0 }
  else if u.phase ≠ 3 then u
  else if u.content = [] then (if dst = .fetch ∨ dst = .restore then u else { u with phase := 2 })
  else if dst.writable then { u with phase := 4, step := 0 }
  else u

/-- A write sequence that starts takes the flashes that are up (R229). -/
def TileUpdate.onFlashes (u : TileUpdate) (main twin : Bool) : TileUpdate :=
  if u.phase = 4 ∧ u.step = 0 then { u with mainOk := main, twinOk := twin } else u

/-- The selected partition is named (R232); the target of an update that is not armed is the other one from then on (R229). -/
def TileUpdate.select (u : TileUpdate) (partition : Bool) : TileUpdate :=
  { u with selected := partition, target := if 1 ≤ u.phase.toNat ∧ u.phase.toNat ≤ 6 then !partition else u.target }

/-- The tile after one change: state, cause, prev_state, T_GEN and PLT_RST_N (R71, R76, R77). Prefetch slots empty at every release and
exit (R170); a sweep pass is abandoned (R176); an update waits in FETCH, RESTORE and OFF and starts again after them (R229). -/
def Tile.change (x : Tile) (dst : TileState) (cause : TileCause) (f : TileCtl → TileCtl) : Tile :=
  let same := decide (x.ctl.state = dst)
  let y := { x with
    ctl := { f x.ctl with state := dst, prev := x.ctl.state, cause := cause, gen := x.ctl.gen + 1, rstHeld := !dst.released }
    power := if same then x.power else { x.power with stateDenied := false }
    serve := if same then x.serve else { x.serve with slots := [] }
    sweep := if same then x.sweep else { x.sweep with phase := 0, pos := 0, mismatches := 0 } }
  if same then y else { y with update := (x.update.moved dst).onFlashes (mainUp y) (twinUp y) }

/-- One change of a tile with its event (R77); `f` sets the flags that change with it. -/
def changeTile (s : State) (t : TileId) (dst : TileState) (cause : TileCause) (f : TileCtl → TileCtl := id) : State :=
  let s := s.modTile t fun x => x.change dst cause f
  raiseT s t 0 (statePayload s t)

/-! ### What an entry discards -/

/-- The sideband state reset on entry to OFF or ABSENT; T_SB_STAT is kept (R382, R390). -/
def TileSideband.cleared (b : TileSideband) : TileSideband :=
  { TileSideband.reset with statBad := b.statBad, statUnder := b.statUnder, statSkips := b.statSkips }

/-- The ruled write whose program or erase a flash of the tile has outstanding (R202): the front of the queue, on the flash
whose turn it is. -/
def Tile.inProgress (x : Tile) : Option (RuledWrite × Bool) :=
  match x.filter.queue with
  | [] => none
  | w :: _ =>
    let twin := w.mainDone || !mainUp x
    if (if twin then x.eave.twinWork else x.eave.mainWork) = some .ruled then some (w, twin) else none

/-- The place of the entry in transfer: the oldest of the held select, or else of all (R348). -/
def TileEave.current (v : TileEave) : Option Nat :=
  match v.chain with
  | some twin => v.queue.findIdx? fun e => decide (entryTwin e.1 = twin)
  | none => if v.queue = [] then none else some 0

/-- The place of the poll of the program or erase in progress on a flash (R350). -/
def TileEave.pollPlace (v : TileEave) (twin : Bool) : Option Nat :=
  let runs := (if twin then v.twinWork else v.mainWork).isSome ||
    match v.current.bind fun k => v.queue[k]? with
    | some e => entryModifies e.1 && decide (entryTwin e.1 = twin)
    | none => false
  if runs then v.queue.findIdx? fun e => entryPoll e.1 && decide (entryTwin e.1 = twin) else none

/-- Entries of the tile's port that have not started are discarded with ABORTED (R352): those of the work named. The entry in transfer
and the polls of programs and erases in progress stay. -/
def Tile.abortEntries (x : Tile) (works : EaveWork → Bool) : Tile :=
  let kept := fun k : Nat => decide (some k ∈ [x.eave.current, x.eave.pollPlace false, x.eave.pollPlace true])
  let (gone, stay) := x.eave.queue.zipIdx.partition fun e => works e.1.2 && !kept e.2
  match gone.getLast? with
  | none => x
  | some e => { x with eave := { x.eave with queue := stay.map (·.1), lastError := 8, lastSel := entryTwin e.1.1 } }

/-- Writes not started are discarded, and one in progress leaves the queue and completes (R205); changed STAGE-rule units (R207)
and repairs (R184) are discarded too. -/
def Tile.dropWrites (x : Tile) : Tile :=
  ({ x with
    filter := { x.filter with
      queue := [], changed := [], committing := [], wip := false, going := x.inProgress.orElse fun _ => x.filter.going }
    sweep := { x.sweep with repairs := [] }
    restore := { x.restore with writing := none } } : Tile).abortEntries fun w => decide (w = .ruled ∨ w = .repair ∨ w = .sweep)

/-- The copy area and its tree are emptied, suspect blocks with them (R83). -/
def Tile.dropImage (x : Tile) : Tile :=
  { x with
    mem := { x.mem with copy := [], tree := [] }
    sweep := { x.sweep with suspect := [] }
    force := { x.force with copyValid := false } }

/-- The copy area, tree and OPEN copy are emptied (R83, R216). -/
def Tile.dropCopy (x : Tile) : Tile := { x.dropImage with mem := { x.dropImage.mem with opens := [] } }

/-- The update writes of mirrored staging and of switch records that have not been made are abandoned (R89, R231, R233). -/
def Tile.dropUpdateWrites (x : Tile) : Tile := { x with update := { x.update with mirror := [], switches := [] } }

/-- T_VERIFY, T_PROGRESS and T_WMARK at their reset values but for cause (R159), and the walker's record emptied. -/
def Tile.resetVerify (x : Tile) (tick : Nat) : Tile :=
  { x with verify := { TileVerify.reset with cause := x.verify.cause, startTick := tick } }

/-- T_SWEEP_STAT cleared except passes (R186), with the marks that go with it. -/
def Tile.clearSweep (x : Tile) : Tile :=
  { x with sweep := { TileSweep.reset with
      passes := x.sweep.passes, passTick := x.sweep.passTick
      densityMain := x.sweep.densityMain, densityTwin := x.sweep.densityTwin } }

/-- The tile-block fields that no map marks as surviving a tile reset take their reset values (R15): T_SWEEP_STAT but for
passes (R186) and the profile registers (R361). -/
def Tile.resetRegisters (x : Tile) : Tile :=
  { x with
    sweep := { x.sweep with
      phase := 0, pos := 0, target := false, mainDown := false, twinDown := false, mismatches := 0, lastMism := 0 }
    eave := { x.eave with mainShown := false, twinShown := false } }

/-- Phase DONE is reached: the first sweep pass counts its interval from here (R152, R176). -/
def Tile.reachDone (x : Tile) (tick : Nat) : Tile :=
  { x with verify := { x.verify with phase := 8 }, sweep := { x.sweep with passTick := tick } }

/-- power_ctl and flash_power of the active bank come into force on entry to OFF (R98). -/
def Tile.loadPower (x : Tile) : Tile :=
  { x with power := { x.power with powerCtl := x.active.powerCtl, flashPower := x.active.flashPower } }

/-- Entry to OFF (R83, R89, R98, R154, R382): the walker stops, an incomplete copy is discarded and a complete one kept with
its suspect blocks (R180), update writes not made are abandoned, PLT_PWR_EN waits for pwr_off_delay. -/
def enterOff (s : State) (t : TileId) (cause : TileCause) : State :=
  let s := (endSideSession (stopWalker s t) t).modTile t fun x =>
    let done := decide (x.verify.phase = 8)
    let x := (x.dropWrites.dropUpdateWrites.abortEntries fun _ => true).loadPower
    let x := if done then x else x.dropCopy
    { x with
      verify := { x.verify with phase := if done then 8 else 0, sigPending := false }
      power := { x.power with
        settled := false, flashReady := false, resumed := false, pwrDropPending := x.ctl.pwrEn }
      restore := { x.restore with waiting := false, ready := false }
      side := x.side.cleared }
  changeTile s t .off cause

/-- HELD in LOCKDOWN: the walker stops and its incomplete copy is discarded (R83, R102, R154); the write queue and changed units
of a resumed fetch are kept with their OPEN copy (R205, R207). -/
def enterHeldLockdown (s : State) (t : TileId) : State :=
  let s := (stopWalker s t).modTile t fun x =>
    let done := decide (x.verify.phase = 8)
    let x := if done then x else if x.power.resumed then x.dropImage else x.dropCopy
    { x with
      verify := { x.verify with phase := if done then 8 else 0, sigPending := false }
      restore := { x.restore with waiting := false, ready := false, writing := none } }
  changeTile s t .held .lockdown

/-- A pending request is cancelled without an event (R88). -/
def cancelPower (s : State) (t : TileId) : State :=
  s.modTile t fun x => { x with ctl := { x.ctl with pwrPending := false } }

/-- Power-down from a powered state (R89). -/
def powerDown (s : State) (t : TileId) (cause : TileCause) : State := enterOff s t cause

/-- A tile that is powered: neither ABSENT nor OFF. -/
def powered (x : Tile) : Bool := decide (x.ctl.state ≠ .absent ∧ x.ctl.state ≠ .off)

/-! ### Device mode (R35 to R40, R102) -/

/-- Payload of EVD_MODE_CHANGE (R460). -/
def modePayload (s : State) : Payload :=
  let run := ((List.finRange 32).map fun t => if (s.tile t).ctl.state.released then 2 ^ t.val else 0).sum
  withDigest [(0, 1, s.gmode.cause.code), (1, 1, s.gmode.mode.code), (2, 1, s.gmode.prev.code),
    (3, 1, s.otp.lifecycle.code), (4, 1, gModeFlags s.gmode), (5, 1, s.gmode.loaderMb.val), (8, 4, run)] (fwDigest s)

/-- EVD_MODE_CHANGE: CRITICAL on entry to LOCKDOWN or DEPOT, else NOTICE (R459). -/
def modeEvent (s : State) : State :=
  raiseSev s 464 (if s.gmode.mode = .lockdown ∨ s.gmode.mode = .depot then 4 else 1) 0xFF (modePayload s)

/-- What entry to a mode does to one tile (R102). -/
def modeTile (dst : DevMode) (s : State) (t : TileId) : State :=
  let x := s.tile t
  match dst with
  | .lockdown =>
    let s := cancelPower s t
    if x.ctl.state = .fetch ∨ x.ctl.state = .restore then enterHeldLockdown s t
    else (stopWalker s t).modTile t fun x => { x with restore := { x.restore with writing := none } }
  | .provision => cancelPower s t
  | .depot => let s := cancelPower s t; if powered x then enterOff s t .depot else s
  | _ => s

/-- One change of device mode with its effects on the tiles and its events (R35, R37, R102, R459); the SPAR PLL
stops in DOZE only (R492), and self-refresh ends with it (R453). -/
def changeMode (s : State) (dst : DevMode) (cause : ModeCause) : State :=
  let before := ownerLds s
  let s := { s with
    gmode := { s.gmode with mode := dst, prev := s.gmode.mode, cause := cause }
    attic := { s.attic with sparStopped := false }, memctl := { s.memctl with selfRefresh := false } }
  let s := (List.finRange 32).foldl (modeTile dst) s
  ownerEvents before s.host.ownerDigest.isNone (modeEvent s)

/-- The device enters LOAD with cause CLAIM for a claim of mailbox h (R50). -/
def beginLoad (s : State) (h : LdId) : State :=
  let s := { s with
    boot := { s.boot with heldClaim := none, windowRunning := false }
    fw := { s.fw with phase := .claimed, claimMb := h, fromPurlin := false, image := none, rejected := 0 } }
  changeMode s .load .claim

/-- A claim held from GATE is accepted and its command completes (R50). -/
def acceptClaim (s : State) (h : LdId) : State := complete (beginLoad s h) h stOk []

/-- Entry to AWAIT (R49, R50): everything pushed is discarded, the window starts where Purlin loading is permitted,
and a claim held from GATE is accepted at once. -/
def enterAwait (s : State) (cause : ModeCause) : State :=
  let s := { s with
    fw := { s.fw with phase := .idle, fromPurlin := false, image := none, rejected := 0 }
    boot := { s.boot with
      windowRunning := purlinFwAllowed s && decide (s.otp.lifecycle ≠ .blank) && !s.boot.purlinBlocked } }
  let s := changeMode s .await cause
  match s.boot.heldClaim with
  | some h => acceptClaim s h
  | none => s

/-- GATE ends when every anchor is in RUN or QUARANTINE (R48). -/
def gateCheck (s : State) : State :=
  if s.gmode.mode = .gate ∧
      (anchors s).all fun t => decide ((s.tile t).ctl.state = .run ∨ (s.tile t).ctl.state = .quarantine) then
    enterAwait s .gateDone
  else s

/-- Modes from which a LOCKDOWN cause leads to LOCKDOWN (R38). -/
def lockable (m : DevMode) : Bool := decide (m ≠ .cold ∧ m ≠ .lockdown ∧ m ≠ .depot)

/-- A claim held from GATE is dropped and its command completes with ST_DENIED, where the Loft still answers (R37). -/
def denyClaim (s : State) (claim : Option LdId) : State :=
  match claim with
  | some h => if s.loft.run = .stopped then s else complete s h stDenied []
  | none => s

/-- A LOCKDOWN cause (R38, R64); during a MAINTAIN reload it waits for the reload's end (R58), and during COLD for the
end of COLD (R37, R279). -/
def lockdown (s : State) (cause : ModeCause) : State :=
  if s.gmode.mode = .cold ∧ s.boot.phase ≠ .ended then
    { s with boot := { s.boot with heldLockdown := some (s.boot.heldLockdown.getD cause) } }
  else if !lockable s.gmode.mode then s
  else if s.gmode.mode = .maintain ∧ s.loft.run = .reload then
    { s with boot := { s.boot with heldLockdown := some (s.boot.heldLockdown.getD cause) } }
  else
    denyClaim (changeMode { s with boot := { s.boot with windowRunning := false, heldClaim := none } } .lockdown cause)
      s.boot.heldClaim

/-- The LOCKDOWN cause that waited for a transition is acted on at its end (R37, R58). -/
def heldLockdownNow (s : State) : State :=
  match s.boot.heldLockdown with
  | some c => lockdown { s with boot := { s.boot with heldLockdown := none } } c
  | none => s

/-- The Loft has stopped: LOCKDOWN with cause LOFT at once, from COLD too, whose remaining steps and decision do not take place
(R38, R533); DEPOT keeps its mode. -/
def lockdownLoft (s : State) : State :=
  if s.gmode.mode = .cold then
    changeMode { s with boot := { s.boot with phase := .ended, decision := none, heldLockdown := none } } .lockdown .loft
  else lockdown s .loft

/-- DOZE wakes to SERVE with cause WAKE (R60). -/
def wake (s : State) : State := if s.gmode.mode = .doze then changeMode s .serve .wake else s

/-- A wake trigger (R60). Where the device is still in SERVE it cancels an entry to DOZE that falls at the same moment (R61). -/
def wakeNow (s : State) : State :=
  if s.gmode.mode = .serve then { s with boot := { s.boot with wakeTick := some s.attic.tick } } else wake s

/-- Modes the boot ROM drives the gate in (R40, R46). -/
def bootRomMode (m : DevMode) : Bool := decide (m = .gate ∨ m = .await ∨ m = .load)

/-! ### Entry to FETCH and HELD, power-on -/

/-- Entry to FETCH other than a resumed one (R83, R84, R132, R159, R205, R244): switch_pending is cleared in the
change; a fetch wakes the device from DOZE (R60). -/
def enterFetch (s : State) (t : TileId) (cause : TileCause) : State :=
  let s := (endSideSession (stopWalker (wake s) t) t).modTile t fun x =>
    let x := ((x.dropWrites.dropCopy.resetVerify s.attic.tick).clearSweep)
    { x with
      verify := { x.verify with phase := if x.power.flashPower && !x.power.flashReady then 0 else 1 }
      power := { x.power with resumed := false } }
  resetImageRegs (changeTile s t .fetch cause fun c => { c with switchPending := false }) t

/-- A resumed fetch (R84): a tile reset of its registers (R15), with T_SWEEP_STAT cleared and the repair queue emptied as on
every entry to FETCH (R184, R186); repair entries not started are discarded (R352). -/
def resumeFetch (s : State) (t : TileId) (cause : TileCause) : State :=
  let s := (endSideSession s t).modTile t fun x =>
    let x := x.resetRegisters.abortEntries fun w => decide (w = .repair ∨ w = .sweep)
    { x with
      sweep := { x.sweep with repairs := [] }
      verify := { x.verify with phase := if x.verify.phase = 8 then 8 else 6 }
      power := { x.power with resumed := true, resumedDone := decide (x.verify.phase = 8) } }
  resetImageRegs (changeTile s t .fetch cause) t

/-- Entry to HELD, a tile reset being one from RUN: with switch_pending set the pass goes on to FETCH with cause SWITCH (R75), except in
LOCKDOWN (R102). -/
def enterHeld (s : State) (t : TileId) (cause : TileCause) : State :=
  let s := s.modTile t fun x =>
    { x with power := { x.power with afterReset := decide (x.ctl.state = .run) } }
  let s := changeTile s t .held cause
  if (s.tile t).ctl.switchPending ∧ s.gmode.mode ≠ .lockdown then enterFetch s t .switch else s

/-- A tile reset of a tile in RUN goes to HELD, of one in EARLY to a resumed fetch (R80, R84); the SPDM session ends
(R263). -/
def resetTile (s : State) (t : TileId) (cause : TileCause) : State :=
  match (s.tile t).ctl.state with
  | .run => enterHeld ((endSideSession s t).modTile t Tile.resetRegisters) t cause
  | .early => resumeFetch s t cause
  | _ => s

/-! ### Power (R88, R89, R498) -/

/-- A complete verified copy that reuse_copy lets a power-on use (R80, R83). Whether one that no release ever used is a copy of
the current image the spec does not say: the model reuses a copy only after a release (DESIGN CHOICE, log entry 66). -/
def reusable (x : Tile) : Bool := x.active.reuseCopy && x.force.copyValid && decide (x.verify.phase = 8)

/-- Power is on: FETCH or HELD (R80). -/
def powerEntry (s : State) (t : TileId) (cause : TileCause) : State :=
  let x := s.tile t
  if x.active.autoFetch && !reusable x then enterFetch s t cause else enterHeld s t cause

/-- PLT_PWR_EN is asserted and the tile enters FETCH or HELD in that cycle (R88). -/
def assertPower (s : State) (t : TileId) : State :=
  let s := { s with attic := { s.attic with pwrTick := some s.attic.tick } }
  let cause := (s.tile t).power.pwrCause
  powerEntry (s.modTile t fun x => { x with ctl := { x.ctl with pwrEn := true, pwrPending := false } }) t cause

/-- t_PWR_OFF_MIN has passed since PLT_PWR_EN was deasserted (R88). -/
def offMinOk (s : State) (t : TileId) : Bool :=
  !(s.tile t).power.pwrDropPending && !(s.tile t).ctl.pwrEn && decide ((s.tile t).power.offUntil ≤ s.attic.tick)

/-- The spacing of R498 lets a step begin now. -/
def spacingOk (s : State) : Bool :=
  decide (s.cal.pwrSpacing = 0) ||
    match s.attic.pwrTick with
    | none => true
    | some k => decide (msTicks s.cal.pwrSpacing.toNat ≤ since s k)

/-- A sequence of R498 runs: another tile's request waits for its step. -/
def sequenceRuns (s : State) (t : TileId) : Bool :=
  decide (s.cal.pwrSpacing ≠ 0) &&
    (List.finRange 32).any fun q => decide (q ≠ t) && (s.tile q).ctl.pwrPending && offMinOk s q

/-- A power-on request on a tile in OFF (R80, R88). -/
def requestPower (s : State) (t : TileId) (cause : TileCause) : State :=
  let s := s.modTile t fun x => { x with power := { x.power with pwrCause := cause } }
  if (s.tile t).power.powerCtl then powerEntry s t cause
  else if offMinOk s t && spacingOk s && !sequenceRuns s t then assertPower s t
  else s.modTile t fun x => { x with ctl := { x.ctl with pwrPending := true } }

/-- Requests made at once are asserted in ascending order, pwr_group at the first step (R498). -/
def requestPowerAll (s : State) (ts : List TileId) (cause : TileCause) : State :=
  let group := if s.cal.pwrGroup = 0 then 32 else s.cal.pwrGroup.toNat
  let first := if s.cal.pwrSpacing = 0 ∨ !spacingOk s then ts.length else group
  let s := (ts.take first).foldl (fun s t =>
    let s := s.modTile t fun x => { x with power := { x.power with pwrCause := cause } }
    if (s.tile t).power.powerCtl then powerEntry s t cause
    else if offMinOk s t && (spacingOk s || decide (s.attic.pwrTick = some s.attic.tick)) then assertPower s t
    else s.modTile t fun x => { x with ctl := { x.ctl with pwrPending := true } }) s
  (ts.drop first).foldl (fun s t =>
    s.modTile t fun x =>
      { x with ctl := { x.ctl with pwrPending := true }, power := { x.power with pwrCause := cause } }) s

/-! ### Permissions -/

/-- The mode permits fetch, verify and restore of a tile (R39); in DOZE after the wake that the work brings about (R60). -/
def fetchAllowed (s : State) (t : TileId) : Bool :=
  match s.gmode.mode with
  | .gate | .await | .load => decide (t ∈ anchors s)
  | .serve | .doze | .maintain | .trial | .barren => true
  | _ => false

/-- Settled (R80): pgood_settle has passed with PLT_PGOOD active, and the mode permits releases. -/
def settled (s : State) (t : TileId) : Bool :=
  (s.tile t).power.settled && (s.tile t).ctl.pgood && fetchAllowed s t

/-! ### Verification events (R157, R158) -/

/-- Payload of EVT_VERIFY_FAIL (R158). -/
def failPayload (cause phase source partition level region index detail : Nat) (d : Digest) : Payload :=
  withDigest [(0, 1, cause), (1, 1, phase), (2, 1, source), (3, 1, partition), (4, 1, level), (5, 1, region),
    (8, 4, index), (0x0C, 4, detail)] d

/-- Where a failure was found: tree level or 0 for a block, region, index. -/
structure FailAt where
  level  : Nat
  region : Nat
  index  : Nat
  deriving DecidableEq, Repr

def FailAt.none : FailAt := { level := 0xFF, region := 0xFF, index := 0xFFFFFFFF }

/-- Digest of a manifest read; zero if none was, as where the header alone is rejected (R137, R158). -/
def readDigest (m : List Byte) : Digest := if headerOk m then manifestDigest m else 0

/-- Blocks of the image all verified or held, from block 0 (R159). -/
def prefixFrom (v : TileVerify) : Nat → Nat → Nat
  | 0, k => k
  | n + 1, k => if k ∈ v.verified ∨ k ∈ v.held then prefixFrom v n (k + 1) else k

/-- Every SEALED block is verified (R148). -/
def sealedDone (v : TileVerify) : Bool :=
  v.accepted && (List.range (blockCount v.manifest)).all fun b => blockWatched v.manifest b || decide (b ∈ v.verified)

/-- Payload of EVT_VERIFY_DONE (R158). -/
def donePayload (s : State) (t : TileId) (kind : Nat) : Payload :=
  let v := (s.tile t).verify
  withDigest [(0, 1, kind), (1, 1, v.source.toNat), (2, 1, b01 v.partition), (4, 4, v.verified.length),
    (8, 4, ticksMs (since s v.startTick)), (0x0C, 4, mfSvn v.manifest)] v.digest

/-! ### Trial and switch records (R232 to R234) -/

/-- A switch record is queued to be written (R233): 2 CONFIRMED, 3 FALLBACK; the partition it names is the selected one from here
on (R232). -/
def queueSwitch (x : Tile) (partition : Bool) (state : BitVec 8) (digest : Digest) : Tile :=
  { x with update := { x.update.select partition with
      switches := x.update.switches ++ [{ partition := partition, state := state, digest := digest }] } }

/-- An update of the tile is staged or under way: the staging area has an owner (R226). The owner's number stays through
ARMED and a trial, so that a platform can abandon its own armed update (R230). -/
def Tile.owned (x : Tile) : Bool := decide (x.update.owner ≠ 0 ∧ 1 ≤ x.update.phase.toNat ∧ x.update.phase.toNat ≤ 6)

/-- T_UPDATE.phase with no update owned: TRIAL, ARMED or IDLE (R237). -/
def Tile.restPhase (x : Tile) : BitVec 4 := if x.update.trial.isSome then 8 else if x.ctl.switchPending then 7 else 0

/-- The phase of a tile that owns no update is brought up to date. -/
def Tile.rest (x : Tile) : Tile :=
  if x.owned then x
  else { x with update := { x.update with
    phase := x.restPhase, owner := if x.restPhase = 0 then 0 else x.update.owner } }

/-- A trial ends with a result: 2 CONFIRMED, 6 FALLBACK (R234). -/
def Tile.endTrial (x : Tile) (result : BitVec 3) : Tile :=
  { x with
    verify := { x.verify with trialFetch := false }
    update := { x.update with result := result, runMs := 0, trialTick := 0, trial := none } }.rest

/-- A trial is confirmed (R234): a CONFIRMED record is written and TRIAL_CONFIRMED extended into LIFE (R248). -/
def confirmTrial (s : State) (t : TileId) : State :=
  let s := s.modTile t fun x =>
    (queueSwitch x x.force.partition 2 x.force.digest).endTrial 2
  lifeRecord s t 0x05 0xFF (s.tile t).force.digest

/-- A release of a trial's image starts the trial, or carries a pending one on, and confirms it where boot_ok_timeout is 0 (R234).
TRIAL_STARTED is extended where it starts and at the first release of a later trial fetch (R248). -/
def startTrial (s : State) (t : TileId) (first : Bool) : State :=
  let x := s.tile t
  let pends := decide (x.update.trial = some x.verify.digest)
  if !x.verify.trialFetch then s.modTile t Tile.rest
  else
    let s := s.modTile t fun x =>
      (if pends then x
       else { x with update := { x.update with trial := some x.verify.digest, runMs := 0, trialTick := 0 } }).rest
    let s := if pends && !first then s else lifeRecord s t 0x06 0xFF x.verify.digest
    if !pends ∧ mfBootOkTimeout x.verify.manifest = 0 then confirmTrial s t else s

/-! ### The Underlay pool (R443, R444, R455) -/

/-- EVD_MEM_POOL, at most once per millisecond (R444). -/
def poolEvent (s : State) (t : TileId) (requested : Nat) : State :=
  let due := match s.memctl.poolTick with | some k => decide (msTicks 1 ≤ since s k) | none => true
  if due then
    raise { s with memctl := { s.memctl with poolTick := some s.attic.tick } } 485 t.val
      (memPayload false 0 0 0 t.val 0 0 requested 0xFFFFFFFF)
  else s

/-- Size of a tile's staging area in the Underlay (R443). -/
def stagingSize : Nat := 0x20000000

/-- Granules a range of the staging area touches. -/
def granulesOf (off n : Nat) : List Nat :=
  if n = 0 then [] else (List.range ((off + n - 1) / 0x200000 + 1 - off / 0x200000)).map (off / 0x200000 + ·)

/-- The granules of a write are backed, or the pool cannot supply them and nothing is taken (R443, R444). -/
def backStaging (s : State) (t : TileId) (off n : Nat) : State × Bool :=
  let need := (granulesOf off n).filter (· ∉ (s.tile t).mem.granules)
  if need = [] then (s, true)
  else if poolFree s < need.length then (poolEvent s t need.length, false)
  else (s.modTile t fun x => { x with mem := { x.mem with granules := need ++ x.mem.granules } }, true)

/-! ### Releases (R85, R244 to R248) -/

/-- The release record (R246). -/
def releaseRecord (s : State) (t : TileId) (kind : Nat) : List Byte :=
  let v := (s.tile t).verify
  let m := v.manifest
  packBytes 32 [(0, 1, kind), (1, 1, b01 v.partition), (2, 1, v.source.toNat), (3, 1, mfScheme m), (4, 1, mfKeyIndex m),
    (5, 1, mfProfile m), (6, 1, svnCount s t.val), (7, 1, s.gmode.mode.code), (8, 4, mfSvn m), (0x0C, 4, mfClass m),
    (0x10, 4, mfViewSize m), (0x14, 4, if kind = 2 then v.watermark else 0), (0x18, 8, mfVersion m)]

/-- A queued write not yet done on its first flash keeps WIP at 1 (R193, R202). -/
def wipPending (x : Tile) : Bool := x.filter.queue.any fun w => !w.mainDone

/-- Emulated registers and RATE buckets at a release or re-release (R187, R193, R195, R196, R198). -/
def Tile.releaseEmu (x : Tile) : Tile :=
  { x with
    filter := { x.filter with
      wel := false, wip := wipPending x, statusHi := 0, eraseErr := false, progErr := false, protErr := false
      eraseSus := false, progSus := false, addr4 := false, protocol := 0, octalDummy := 0, wrap := 0, spare := 0
      resetArmed := false, progTokens := [], eraseTokens := [] }
    serve := { x.serve with slots := [], missed := [], missedW := [], sfdp := sfdpImage x }
    update := { x.update with bootOk := false } }

/-- One range of the flash staging area is loaded, where the pool can back it (R231, R443, R444). -/
def loadMirrorRange (t : TileId) (s : State) (r : Nat × List Byte) : State :=
  match backStaging s t r.1 r.2.length with
  | (s, false) => s
  | (s, true) => s.modTile t fun x => { x with mem := { x.mem with staging := Memory.write 0xFF x.mem.staging r.1 r.2 } }

/-- The Underlay staging area is loaded from the flash staging area at the first release after COLD under stage_mirror (R231);
`mirror` is what the flash returned. -/
def loadMirror (s : State) (t : TileId) (mirror : List (Nat × List Byte)) : State :=
  if (s.tile t).active.stageMirror ∧ (s.tile t).force.lastKind = 0 then mirror.foldl (loadMirrorRange t) s else s

/-- What every release of an accepted image does before PLT_RST_N is released (R131, R196, R231, R244 to R248): kind
1 RELEASE, 2 EARLY, 4 RESTORE_OK. -/
def releaseImage (s : State) (t : TileId) (dst : TileState) (cause : TileCause) (kind : Nat)
    (mirror : List (Nat × List Byte)) : State :=
  let resumed := (s.tile t).power.resumed
  let done := (s.tile t).power.resumedDone
  let record := releaseRecord s t kind
  let s := (loadMirror s t mirror).modTile t fun x =>
    let x := x.releaseEmu
    let v := x.verify
    { x with
      force := { x.force with
                 manifest := v.manifest, digest := v.digest, partition := v.partition, source := v.source
                 lastKind := BitVec.ofNat 8 kind, layout := some (mfLayout v.manifest), copyValid := true }
      power := { x.power with resumed := false, resumedDone := false } }
  let s := changeTile s t dst cause
  let s := resetPlatformRegs s t
  let x := s.tile t
  let s :=
    if (s.reg (tileReg t 0)).counter = 0 then
      extendTile (extendTile s t 0 0 x.verify.digest) t 1 0 (Config.sha384 record)
    else s
  let s := extendTables s t
  let s := if resumed ∧ done then lifeRecord s t 0x02 0xFF x.verify.digest else s
  startTrial s t (!resumed && decide (kind ≠ 4))

/-- A re-release from HELD (R80, R131, R244, R248). -/
def rereleaseTile (s : State) (t : TileId) : State :=
  let s := s.modTile t fun x =>
    let x := x.releaseEmu
    { x with force := { x.force with lastKind := 3 } }
  let s := changeTile s t .run .rerelease
  let s := resetPlatformRegs s t
  let s := extendTables s t
  lifeRecord s t 0x04 0xFF (s.tile t).force.digest

/-! ### Restore sources (R216 to R221) -/

/-- Source k (1 to 5) is skipped without being tried (R47, R216, R217, R219). -/
def sourceSkipped (s : State) (t : TileId) (k : Nat) : Bool :=
  let x := s.tile t
  let off := x.active.srcEnable / 2 ^ (k - 1) % 2 = 0
  if off || (bootRomMode s.gmode.mode && decide (2 < k)) then true
  else match k with
    | 1 => x.restore.fallback || !(if x.restore.readTwin then mainUp x else twinUp x)
    | 2 => !mainUp x && !twinUp x
    | 3 => !x.restore.goldenU
    | 4 => decide (x.active.pushWait = 0)
    | _ => (goldenEntry s t).isNone || decide (s.purlin.state ≠ 1)

/-- The restore goes to its first source after `k` that is not skipped; with none left the tile goes to QUARANTINE with
cause NO_SOURCE (R218, R221). Skipped sources set their tried bit. -/
def nextSource (s : State) (t : TileId) : Nat → Nat → State
  | 0, _ =>
    let d := (s.tile t).verify.digest
    let s := s.modTile t fun x =>
      { x with
        verify := { x.verify with phase := 9, cause := 0x15 }
        restore := { x.restore with waiting := false, ready := false } }
    let s := changeTile s t .quarantine .noSource
    gateCheck (raiseT s t 2 (failPayload 0x15 9 0xFF 0xFF 0xFF 0xFF 0xFFFFFFFF 0 d))
  | n + 1, k =>
    if sourceSkipped s t (k + 1) then
      nextSource (s.modTile t fun x =>
        { x with restore := { x.restore with tried := putBit x.restore.tried k true } }) t n (k + 1)
    else
      s.modTile t fun x =>
        let twin := if k = 0 then !x.restore.readTwin else !mainUp x
        { x with
          verify := if k < 2 then
              { x.verify with
                phase := 3, partition := if k = 0 then x.restore.selected else !x.restore.selected, readTwin := twin
                source := BitVec.ofNat 8 (b01 twin) }
            else { x.verify with phase := 4, source := BitVec.ofNat 8 k }
          restore := { x.restore with source := BitVec.ofNat 3 (k + 1), waiting := decide (k = 3), ready := false } }

/-- The digest of a trial that fell back or whose fetch failed (R219, R234): the trial's own, or the 16 bytes that the ARMED record gives
of it before its first release. -/
def failedTrialOf (x : Tile) (cause : TileCause) : Option (Digest ⊕ BitVec 128) :=
  match cause, x.update.trial with
  | .fallback, d => d.map .inl
  | .verifyFail, some d => some (.inl d)
  | .watchedFail, some d => some (.inl d)
  | .verifyFail, none => if x.verify.trialFetch then some (.inr x.update.selDigest) else none
  | .watchedFail, none => if x.verify.trialFetch then some (.inr x.update.selDigest) else none
  | _, _ => none

/-- A manifest digest is that of the failed trial. -/
def sameTrial (trial : Digest ⊕ BitVec 128) (d : Digest) : Bool :=
  match trial with
  | .inl x => decide (x = d)
  | .inr p => decide (p = d.setWidth 128)

/-- Entry to RESTORE (R83, R159, R184, R205, R216, R219, R244): sources are tried in order; `ev` raises the further event
of the transition. -/
def enterRestore (s : State) (t : TileId) (cause : TileCause) (ev : State → State := id) (bad : Option Nat := none) : State :=
  let s := (endSideSession (stopWalker (wake s) t) t).modTile t fun x =>
    let r : TileRestore := { TileRestore.reset with
      fallback := decide (cause = .fallback), goldenU := x.restore.goldenU, goldenPend := x.restore.goldenPend
      goldenBusy := x.restore.goldenBusy, restores := x.restore.restores, golden := x.restore.golden
      goldenBase := x.restore.goldenBase, readTwin := x.verify.readTwin, selected := x.update.selected
      failedTrial := failedTrialOf x cause
      badAddrs := ((x.sweep.repairs.filter fun r => decide (r.twin = x.verify.readTwin)).map (·.addr)) ++ bad.toList
      mainOut := x.sweep.mainDown || x.restore.mainOut, twinOut := x.sweep.twinDown || x.restore.twinOut }
    let x := ((x.dropWrites.dropCopy.resetVerify s.attic.tick).clearSweep)
    { x with restore := r, power := { x.power with resumed := false } }
  let s := resetImageRegs (changeTile s t .restore cause) t
  nextSource (ev s) t 5 0

/-- A tile goes to QUARANTINE (R80). -/
def quarantine (s : State) (t : TileId) (cause : TileCause) : State := gateCheck (changeTile s t .quarantine cause)

/-! ### Verification failure of a fetch (R80, R157) -/

/-- EVT_VERIFY_FAIL, T_VERIFY.cause and the transition a failure in FETCH, EARLY or RUN takes; REVOKED, and SCHEME under
R4, go to QUARANTINE. R80 names no transition for two failures of the stream that runs on after a release, and the model takes
these (DESIGN CHOICE, log entry 68): in RUN, TREE or FLASH goes to RESTORE with cause VERIFY_FAIL; in HELD, a failure, a WATCHED
block bad under watched_fail RESTORE among them, raises the event, ends the stream and leaves the tile in HELD. -/
def failFetch (s : State) (t : TileId) (cause : Nat) (at_ : FailAt) (runCause : TileCause := .verifyFail) : State :=
  let v := (s.tile t).verify
  let p := failPayload cause v.phase.toNat (if v.phase.toNat ≤ 1 then 0xFF else v.source.toNat)
    (if v.phase.toNat ≤ 2 then 0xFF else b01 v.partition) at_.level at_.region at_.index
    (failDetail v.manifest cause) (readDigest v.manifest)
  let s := s.modTile t fun x =>
    { x with verify := { x.verify with
        phase := 9, cause := BitVec.ofNat 8 cause
        region := if cause = 0x11 ∨ cause = 0x13 then BitVec.ofNat 5 at_.region else x.verify.region } }
  let toQuarantine := cause = 0x06 ∨ (cause = 0x03 ∧ !mldsaUsable s)
  let ev := fun s => raiseT s t 2 p
  let bad : Option Nat :=
    if cause = 0x10 ∧ 0 < at_.level then some (nodeAddr v.manifest v.partition at_.level at_.index)
    else if cause = 0x11 ∨ cause = 0x13 then some (blockAddr v.manifest v.partition at_.index) else none
  match (s.tile t).ctl.state with
  | .fetch =>
    if toQuarantine then gateCheck (ev (changeTile (s.modTile t fun x => x.dropCopy) t .quarantine .verifyFail))
    else enterRestore s t .verifyFail ev bad
  | .early => enterRestore s t .verifyFail ev bad
  | .run => enterRestore s t runCause ev bad
  | _ => ev s

end Sys2Proof.Machine
end

