-- ==== Sys2Proof/Machine/Lanes.lean ====
section
/-! DEFINITION. Thatch lanes: settlement of a comparison and retirement (R276 to R279); Rafter units: re-run of a failed
half and retirement (R288 to R292). -/

namespace Sys2Proof.Machine

open Sys2Proof

/-! ### Thatch -/

/-- What a settlement decided (R278): match or not, lanes retired with the lane whose result was taken, and whether the
procedure ended in its known-answer tests. -/
structure Settled where
  matched : Bool
  retire  : List (Nat × Nat)
  open_   : Bool
  deriving DecidableEq, Repr

/-- A lane that may run a job. -/
def laneOk (s : State) (l : Nat) : Bool := decide (l < 32) && !s.eng.retired.getLsbD l

/-- Run k of a list: its lane and the digest it gave, the true one unless it was wrong. A run on no lane in service, or on a lane that an
earlier run of the list took (R276, R278), is none: its lane is 0xFF and its digest the true one. So a third run that two lanes in service
leave no lane for gives the true digest, and so does a job with no lane left (DESIGN CHOICE, log entry 81). -/
def runAt {w : Nat} (s : State) (runs : List LaneRun) (k : Nat) (truth : BitVec w) : Nat × BitVec w :=
  match runs[k]? with
  | some r =>
    if laneOk s r.lane && (runs.take k).all (fun q => decide (q.lane ≠ r.lane)) then
      (r.lane, (r.wrong.map (BitVec.setWidth w)).getD truth)
    else (0xFF, truth)
  | none => (0xFF, truth)

/-- One pass of settle (R278). With fewer than two lanes in service a mismatch stands without a re-run (R279). -/
def settleOnce {w : Nat} (s : State) (truth expected : BitVec w) (runs : List LaneRun) : Settled :=
  let a := runAt s runs 0 truth
  let b := runAt s runs 1 truth
  let c := runAt s runs 2 truth
  if a.2 = expected then { matched := true, retire := [], open_ := false }
  else if lanesInService s < 2 then { matched := false, retire := [], open_ := false }
  else if b.2 = expected then { matched := true, retire := [(a.1, b.1)], open_ := false }
  else if b.2 = a.2 then { matched := false, retire := [], open_ := false }
  else if c.2 = expected then { matched := true, retire := [(a.1, c.1), (b.1, c.1)], open_ := false }
  else if c.2 = a.2 then { matched := false, retire := [(b.1, c.1)], open_ := false }
  else if c.2 = b.2 then { matched := false, retire := [(a.1, c.1)], open_ := false }
  else { matched := false, retire := [], open_ := true }

/-- Block length of a hash (R271). -/
def hashBlock (alg : BitVec 2) : Nat := if alg = 0 then 64 else 128

/-- A context that has run a block, the pad blocks of an HMAC key among them (R274), and is not DUAL may have run it on a lane that has
passed no test since: which lanes it ran on is open, so a free value decides (R279; log entry 2). -/
def taintCtx (s : State) (lane i : Nat) (c : HashCtx) : HashCtx :=
  if !c.dual && !c.tainted && !c.tested.getLsbD lane && (c.pads.isSome || decide (hashBlock c.alg ≤ c.data.length)) &&
      decide (Config.freeNat (s.freeCtr + i) % 2 = 1)
  then { c with tainted := true } else c

/-- A lane is retired (R279): reason 0 COMPARE, 1 DUAL, 2 KAT, 3 KAT_COLD; EVD_LANE_RETIRED; LOCKDOWN with cause
THATCH below two lanes. -/
def retireLane (s : State) (reason tile : Nat) (x : Nat × Nat) : State :=
  let (lane, taken) := x
  if !laneOk s lane then s
  else
    let thatch := Vector.ofFn fun i : Fin 512 => s.eng.thatch[i].map (taintCtx s lane i.val)
    let count (v : Vector (Option HashCtx) 512) : Nat := (v.toList.filter fun c => (c.map (·.tainted)).getD false).length
    let tainted := count thatch - count s.eng.thatch
    let s := { s with eng := { s.eng with retired := putBit s.eng.retired lane true, thatch := thatch } }
    let s := s.fresh 512
    let s := raise s 488 (if tile < 32 then tile else 0xFF)
      (payload [(0, 1, reason), (1, 1, lane), (2, 1, lanesInService s), (3, 1, taken), (4, 4, tainted),
        (8, 4, if tile < 32 then tile else 0xFFFFFFFF)])
    if lanesInService s < 2 then lockdown s .thatch else s

/-- A lane passes its known-answer test (R277, R279). -/
def lanePasses (s : State) (lane : Nat) : State :=
  { s with eng := { s.eng with thatch := s.eng.thatch.map fun c => c.map fun c => { c with tested := putBit c.tested lane true } } }

def retireLanes (s : State) (reason tile : Nat) (xs : List (Nat × Nat)) : State :=
  xs.foldl (fun s x => retireLane s reason tile x) s

/-- The known-answer tests that a disagreement of three lanes calls for (R276, R278): each lane that fails is retired. -/
def katLanes (s : State) (tile : Nat) (lanes katFail : List Nat) : State :=
  let s := (lanes.filter fun l => laneOk s l && decide (l ∉ katFail)).foldl lanePasses s
  retireLanes s 2 tile ((lanes.filter (· ∈ katFail)).map fun l => (l, 0xFF))

/-- A comparison of a digest with an expected value, settled by R278; `tile` is 32 or more for none. -/
def settleCmp {w : Nat} (s : State) (tile : Nat) (truth expected : BitVec w) (r : CmpRuns) : State × Bool :=
  let x := settleOnce s truth expected r.runs
  if !x.open_ then (retireLanes s 0 tile x.retire, x.matched)
  else
    let abc := [0, 1, 2].map fun k => (runAt s r.runs k truth).1
    let s := katLanes s tile abc r.katFail
    let y := settleOnce s truth expected r.again
    if !y.open_ then (retireLanes s 0 tile y.retire, y.matched)
    else
      let l := fun k => (runAt s r.again k truth).1
      (note s 0x05 3 (if tile < 32 then tile else 0xFF)
        (payload [(0, 1, l 0), (1, 1, l 1), (2, 1, l 2), (4, 4, if tile < 32 then tile else 0xFFFFFFFF)]), false)

/-- No lane fault is named. -/
def noRuns : CmpRuns := { runs := [], again := [], katFail := [] }

/-- A procedure of many comparisons: the state so far, and the lane runs of the comparisons still to be made, in order. -/
structure Checker where
  st   : State
  runs : List CmpRuns

/-- The next comparison of a procedure, settled by R278. -/
def Checker.cmp (c : Checker) (tile : Nat) (truth expected : Digest) : Checker × Bool :=
  let (s, ok) := settleCmp c.st tile truth expected (c.runs.headD noRuns)
  ({ st := s, runs := c.runs.drop 1 }, ok)

/-! ### The tree and the blocks of delivered content (R218, R228) -/

/-- Levels and indices of the nodes of a tree, top-down and in index order. -/
def treePlaces (n : Nat) : List (Nat × Nat) :=
  (List.range (treeDepth n)).flatMap fun k =>
    (List.range (nodesAt n (treeDepth n - k))).map fun j => (treeDepth n - k, j)

/-- What the checks of delivered content found: the failure with its cause and place, the WATCHED regions held with their first
bad blocks, and every bad block. -/
structure BulkFound where
  fail : Option (Nat × FailAt)
  held : List (Nat × Nat)
  bad  : List Nat
  deriving DecidableEq, Repr

/-- One node against its parent; a node that is missing fails. -/
def bulkNode (tile : Nat) (m : List Byte) (nodes : List (Nat × List Byte)) (acc : Checker × BulkFound) (p : Nat × Nat) :
    Checker × BulkFound :=
  let no : BulkFound := { acc.2 with fail := some (0x10, { level := p.1, region := 0xFF, index := p.2 }) }
  if acc.2.fail.isSome then acc
  else match assocGet nodes (nodeKey p.1 p.2), parentEntry m nodes p.1 p.2 with
  | some nd, some want =>
    let (c, ok) := acc.1.cmp tile (Config.sha384 nd) want
    (c, if ok then acc.2 else no)
  | _, _ => (acc.1, no)

/-- One block against its leaf on the per-leaf path; `hold` is whether a bad WATCHED block holds its region. -/
def bulkBlock (tile : Nat) (m : List Byte) (nodes blocks : List (Nat × List Byte)) (hold : Bool) (acc : Checker × BulkFound)
    (b : Nat) : Checker × BulkFound :=
  if acc.2.fail.isSome then acc
  else
    let (c, ok) := match assocGet blocks b, leafEntry nodes b with
      | some x, some l => acc.1.cmp tile (Config.sha384 x) l
      | _, _ => (acc.1, false)
    if ok then (c, acc.2)
    else
      let r := (regionOfBlock m b).getD 0xFF
      let f := { acc.2 with bad := b :: acc.2.bad }
      if hold && blockWatched m b then
        (c, if f.held.any (fun x => decide (x.1 = r)) then f else { f with held := f.held ++ [(r, b)] })
      else
        (c, { f with fail := some (if blockWatched m b then 0x13 else 0x11, { level := 0, region := r, index := b }) })

/-- Every node top-down, then every block in image order, up to the first failure (R218, R228). -/
def checkBulk (c : Checker) (tile : Nat) (m : List Byte) (nodes blocks : List (Nat × List Byte)) (hold : Bool) :
    Checker × BulkFound :=
  let acc := (treePlaces (blockCount m)).foldl (bulkNode tile m nodes) (c, { fail := none, held := [], bad := [] })
  (List.range (blockCount m)).foldl (bulkBlock tile m nodes blocks hold) acc

/-! ### Rafter -/

/-- E or L unit in service: units 0 E0, 1 E1, 2 L0, 3 L1. -/
def unitOk (s : State) (u : Nat) : Bool :=
  if u < 2 then !s.eng.ecRetired.getLsbD u else offersMldsa s && !s.eng.latRetired.getLsbD (u - 2)

/-- Units of the kind of u in service. -/
def unitsOf (s : State) (u : Nat) : Nat := if u < 2 then ecUnits s else latUnits s

/-- A unit whose result lost runs its known-answer test, with the outcomes of R291. -/
def unitFault (s : State) (u op tag tile : Nat) (katFails : Bool) : State :=
  let retire := katFails && decide (1 < unitsOf s u)
  let cause := if !katFails then 0 else if retire then 1 else 2
  let s :=
    if retire then
      if u < 2 then { s with eng := { s.eng with ecRetired := putBit s.eng.ecRetired u true } }
      else { s with eng := { s.eng with latRetired := putBit s.eng.latRetired (u - 2) true } }
    else s
  raise s 490 (if tile < 32 then tile else 0xFF)
    (payload [(0, 1, cause), (1, 1, u), (2, 1, unitsOf s u), (3, 1, op), (4, 4, tag),
      (8, 4, if tile < 32 then tile else 0xFFFFFFFF)])

/-- One half of a verification (R291): a failing result is run again on the other unit of its kind, and a disagreement
is a fault of the unit that lost. `base` is 0 for E units and 2 for L units. -/
def verifyHalf (s : State) (base : Nat) (firstLow : Bool) (r : RafterRun) (op tag tile : Nat) (truth : Bool) :
    State × Bool :=
  let u := if firstLow then base else base + 1
  let v := if firstLow then base + 1 else base
  let (u, v) := if unitOk s u then (u, v) else (v, u)
  let res := fun k => if k ∈ r.wrong then !truth else truth
  if res u then (s, true)
  else if !unitOk s v then (s, false)
  else if res v then (unitFault s u op tag tile (decide (u ∈ r.katFail)), true)
  else (s, false)

/-- A signature verification of a manifest or a signed block by its scheme (R115, R291): 1 P384, 2 MLDSA87, 3 HYBRID. -/
def verifySig (s : State) (scheme : Nat) (r : RafterRun) (tag tile : Nat) (truthP truthM : Bool) : State × Bool × Bool :=
  let op := if scheme = 1 then 0 else if scheme = 2 then 3 else 5
  let (s, p) := if scheme = 2 then (s, true) else verifyHalf s 0 r.eFirst r op tag tile truthP
  let (s, m) := if scheme = 1 then (s, true) else verifyHalf s 2 r.lFirst r op tag tile truthM
  (s, p, m)

/-- The signature result of a manifest (R138, R139). -/
def manifestSig (s : State) (m : List Byte) (r : RafterRun) (tile : Nat) : State × Bool :=
  let (s, p, q) := verifySig s (mfScheme m) r 0 tile (sigPTrue m) (sigMTrue m)
  (s, p && q)

/-- The faults of a job run on E0 and E1 together, or of an ML-DSA signature checked by the other unit (R288, R291): the
result is completed on a unit that remains. With one unit of the kind left it makes the result twice in turn: `wrong` then says that the
two differ, or that its signature failed its check. -/
def jointJob (s : State) (base op tag tile : Nat) (r : RafterRun) : State :=
  let us := [base, base + 1].filter (unitOk s)
  if !us.any (· ∈ r.wrong) then s
  else if base = 0 then us.foldl (fun s u => unitFault s u op tag tile (decide (u ∈ r.katFail))) s
  else
    let u := if r.lFirst then 2 else 3
    let u := if unitOk s u then u else 5 - u
    unitFault s u op tag tile (decide (u ∈ r.katFail))

end Sys2Proof.Machine
end

