-- ==== Sys2Proof/Machine/Responder.lean ====
section
/-! DEFINITION. The mailbox engine and the responder (R417 to R426): header checks, taking of commands in doorbell order,
checks 2 to 8 of R421, and completion. -/

namespace Sys2Proof.Machine

open Sys2Proof

/-- Check 1 of R421: reserved flags, then R419 against the 8 KiB limit and the fill. -/
def headerStatus (m : Mailbox) : Nat :=
  if m.flags.toNat / 2 ≠ 0 then stBadArg
  else if 0x2000 < m.length.toNat then stLong
  else if m.fill < m.length.toNat then stShort
  else if m.length.toNat < m.fill then stLong
  else 0

/-- Opcodes of the command tables (R427 to R437). -/
def knownOpcode (op : Nat) : Bool :=
  decide ((0x100 ≤ op ∧ op ≤ 0x107) ∨ (0x200 ≤ op ∧ op ≤ 0x208) ∨ (0x300 ≤ op ∧ op ≤ 0x309) ∨ (0x400 ≤ op ∧ op ≤ 0x40D) ∨
    (0x500 ≤ op ∧ op ≤ 0x504) ∨ (0x600 ≤ op ∧ op ≤ 0x608) ∨ (0x700 ≤ op ∧ op ≤ 0x701) ∨ (0x800 ≤ op ∧ op ≤ 0x809) ∨
    (0x900 ≤ op ∧ op ≤ 0x901))

/-- The row a request belongs to: opcode × 256 + the sub-operation of an opcode with several rows; a sub-operation out of
range belongs to one of them, which refuses it (log entry 3). -/
def rowOf (m : Mailbox) : Nat :=
  let op := m.opcode.toNat
  let sub :=
    match op with
    | 0x203 => if m.arg 4 4 = 0 then 0 else 1
    | 0x402 => if m.arg 1 1 = 1 then 1 else 0
    | 0x409 => min 5 (m.arg 0 1)
    | 0x40A => min 8 (m.arg 0 1)
    | 0x700 => if m.arg 0 1 = 1 then 1 else 0
    | _ => 0
  op * 256 + sub

/-- How the device mode answers an opcode (R40, R58, R64, R68, R423): not yet, refused with a status, or taken. -/
inductive Answer where
  | hold
  | refuse (st : Nat)
  | take
  deriving DecidableEq, Repr

/-- Opcodes that reach their command in LOCKDOWN while the Loft runs (R64): with R64's list TILE_POWER, whose off form still takes place
(R64, R102; DEDUCED, log entry 59), and IMAGE_CONFIRM, which is recorded (R234) and completes with ST_DENIED like the rest. -/
def lockdownOpcode (op : Nat) : Bool :=
  op ∈ [0x203, 0x304, 0x100, 0x101, 0x106, 0x200, 0x700, 0x701, 0x500, 0x501, 0x503, 0x504, 0x404, 0x405, 0x600, 0x601]

/-- No command is carried out: a takeover, a MAINTAIN reload, or the time from the release of pair A into Imvon until
ready (R34, R40, R58). -/
def mailboxesBusy (s : State) : Bool :=
  s.loft.takeover.isSome || decide (s.loft.run = .released ∨ s.loft.run = .reload)

/-- How an opcode is answered. A doorbell of a COLD still running is held whether or not a takeover is under way: R34 gives ST_BUSY to
commands doorbelled during a takeover, R39 and R423 hold every doorbell of COLD, and the model lets the mode decide (DESIGN CHOICE,
log entry 65). -/
def answer (s : State) (op : Nat) : Answer :=
  if s.attic.clocksHeld.getLsbD 1 ∨ s.loft.run = .stopped ∨ s.loft.run = .off ∨ (s.gmode.mode = .cold ∧ s.boot.phase ≠ .ended) then .hold
  else if mailboxesBusy s then .refuse stBusy
  else match s.gmode.mode with
    | .cold => if op = 0x100 then .take else .refuse stDenied
    | .gate | .await | .load =>
      if op ∈ [0x100, 0x700, 0x800, 0x801, 0x802, 0x803, 0x804, 0x805] then .take else .refuse stBusy
    | .serve | .doze | .barren | .trial | .maintain | .provision => .take
    | .lockdown => if lockdownOpcode op then .take else .refuse stDenied
    | .depot => if op = 0x100 ∨ op = 0x700 then .take else .refuse stDenied

/-- Commands at the head of the responder that no command row carries out: a failed header check and an unknown opcode
complete as they come to the front (R421). -/
def advance : Nat → State → State
  | 0, s => s
  | n + 1, s =>
    match s.responder with
    | [] => s
    | h :: _ =>
      let m := s.mb h
      match answer s m.opcode.toNat with
      | .hold => s
      | .refuse st =>
        if headerStatus m ≠ 0 then advance n (complete s h (headerStatus m) [])
        else if mailboxesBusy s ∨ !knownOpcode m.opcode.toNat then advance n (complete s h st [])
        else s
      | .take =>
        if headerStatus m ≠ 0 then advance n (complete s h (headerStatus m) [])
        else if !knownOpcode m.opcode.toNat then advance n (complete s h stBadArg [])
        else s

/-- Complete a command and let the responder go on. -/
def finish (s : State) (h : LdId) (st : Nat) (resp : List Byte) : State := advance 16 (complete s h st resp)

/-- A doorbell (R417, R418, R425): ignored while busy, else the command joins the responder's queue. -/
def ring (s : State) (h : LdId) : State :=
  if (s.mb h).busy then s.modMb h fun m => { m with ringIgnored := true }
  else
    let s := s.modMb h fun m => { m with go := true, busy := true }
    let s := { s with otp := { s.otp with behind := s.otp.behind.filter (· ≠ h) } }
    if headerStatus (s.mb h) ≠ 0 ∧ answer s (s.mb h).opcode.toNat ≠ .hold then
      complete s h (headerStatus (s.mb h)) []
    else advance 16 { s with responder := s.responder ++ [h] }

/-- The result of a command taken: a completion, or still in progress. -/
inductive Result where
  | done (s : State) (st : Nat) (resp : List Byte)
  | wait (s : State)

/-- What the responder checks of a command (R421). `pre`: 0 or the status with which the mode refuses this sender (R423); `modes`: those
of its table row; `len`: 0 or the status of check 4; `role`: check 5; `tile`: it names a tile; `range`: check 6; `gen`: check 7;
`ridge`: it needs the Ridge request port; `bulk`: the data of a domain's own request is not bounded by a mailbox payload (R272, R280,
R288). -/
structure Cmd where
  row   : Nat
  pre   : State → LdId → Nat := fun _ _ => 0
  modes : List DevMode := [.serve, .doze, .maintain, .barren, .trial]
  len   : State → Mailbox → Nat
  role  : State → LdId → Bool := fun _ _ => true
  tile  : Bool := false
  range : State → Mailbox → Bool := fun _ _ => true
  gen   : Bool := false
  ridge : Bool := false
  bulk  : Mailbox → Bool := fun _ => false

/-- The OTP controller runs an operation as the command of mailbox h reaches it: a re-sense, or the operation of a command that was taken
while this one waited behind it at the responder (R328; DEDUCED, log entry 80). -/
def otpBusy (s : State) (h : LdId) : Bool := s.otp.busy || decide (h ∈ s.otp.behind)

/-- The OTP controller starts an operation of the command being taken: the commands that wait behind it arrive while it runs (R328). -/
def otpRuns (s : State) : State := { s with otp := { s.otp with behind := s.responder.drop 1 } }

/-- A single accepted length (R419). -/
def fixedLen (n : Nat) : State → Mailbox → Nat := fun _ m =>
  if m.length.toNat < n then stShort else if n < m.length.toNat then stLong else 0

/-- Any length from a to b (R419). -/
def rangeLen (a b : Nat) : State → Mailbox → Nat := fun _ m =>
  if m.length.toNat < a then stShort else if b < m.length.toNat then stLong else 0

/-- The owner role; in PROVISION the loader host may use the full command set and stands for the owner (R424). -/
def ownerOnly (s : State) (h : LdId) : Bool := isOwner s h || (decide (s.gmode.mode = .provision) && isLoader s h)
def loaderOnly (s : State) (h : LdId) : Bool := isLoader s h

/-- The tile a request names at offset 0. -/
def argTile (m : Mailbox) : Option TileId := if h : m.arg 0 4 < 32 then some ⟨m.arg 0 4, h⟩ else none

/-- The response to a stale generation (R422). -/
def staleResp (s : State) (t : TileId) : List Byte :=
  bytesOf 4 (tState (s.tile t).ctl) ++ bytesOf 4 (s.tile t).ctl.gen

/-- A command that waits for the request port held at the boundary (R20), or for the SPAR clock (R493). -/
def portHeld (s : State) (c : Cmd) : Bool :=
  (c.ridge && s.boot.ridgeHeld) || (decide (c.row / 256 = 0x40A) && s.attic.clocksHeld.getLsbD 3)

/-- Checks 2 to 7 of R421, then the command's own meaning. -/
def takeCmd (s : State) (h : LdId) (c : Cmd) (body : State → Mailbox → TileId → Result) : Result :=
  let m := s.mb h
  match answer s m.opcode.toNat with
  | .hold => .wait s
  | .refuse st => .done s st []
  | .take =>
    let s := if .doze ∉ c.modes ∧ .serve ∈ c.modes then wakeNow s else s
    if !(c.modes.contains s.gmode.mode || bootRomMode s.gmode.mode || decide (s.gmode.mode = .cold)) then
      .done s stDenied []
    else if c.pre s h ≠ 0 then .done s (c.pre s h) []
    else if c.len s m ≠ 0 then .done s (c.len s m) []
    else if !c.role s h then .done s stDenied []
    else if c.tile then
      match argTile m with
      | none => .done s stBadArg []
      | some t =>
        if fusedOff s t || !c.range s m then .done s stBadArg []
        else if c.gen && decide (m.gen ≠ (s.tile t).ctl.gen) then .done s stStale (staleResp s t)
        else body s m t
    else if !c.range s m then .done s stBadArg []
    else body s m 0

/-- A mailbox command row: it acts only where its command is next at the responder and the mode does not hold it; a
command still in progress leaves the responder free for the next. -/
def runCmd (s : State) (h : LdId) (c : Cmd) (body : State → Mailbox → TileId → Result) : Out :=
  let m := s.mb h
  if s.responder.head? ≠ some h ∨ rowOf m ≠ c.row ∨ answer s m.opcode.toNat = .hold ∨ portHeld s c then .next s
  else
    match takeCmd s h c body with
    | .done u st resp => .next (sortRaises s (finish u h st resp))
    | .wait u => .next (advance 16 { u with responder := u.responder.filter (· ≠ h) })

end Sys2Proof.Machine
end

