-- ==== Sys2Proof/Machine/OtpOps.lean ====
section
/-! DEFINITION. The OTP array: reads through the redirection table, decoding of the monotonic rows, arbitration of the
lockable regions, loading of the shadows, and the programming of a word (R317 to R327, R331). -/

namespace Sys2Proof.Machine

open Sys2Proof

/-! ### Rows and regions (R317) -/

/-- Region of a row in the order of R256; 0xFF for reserved rows and spares. -/
def rowRegion (r : Nat) : Nat :=
  if r < 4 then 0 else if r < 8 then 1 else if r < 16 then 2 else if r < 208 then 3 else if r < 224 then 4
  else if r < 240 then 5 else if r < 256 then 6 else if r < 322 then 7 else if r < 363 then 8 else if r < 1984 then 0xFF
  else if r < 2048 then 9 else 0xFF

/-- First row and number of rows of lockable region r. -/
def lockRange (r : Fin 5) : Nat × Nat :=
  match r with
  | 0 => (4, 4) | 1 => (8, 8) | 2 => (16, 192) | 3 => (224, 16) | 4 => (240, 16)

/-- Lockable region of a region code. -/
def lockOf (region : Nat) : Option (Fin 5) :=
  match region with
  | 1 => some 0 | 2 => some 1 | 3 => some 2 | 5 => some 3 | 6 => some 4 | _ => none

/-- Lockable region a row or a digest row belongs to. -/
def rowLock (r : Nat) : Option (Fin 5) :=
  if 322 ≤ r ∧ r < 362 then
    match (r - 322) / 8 with | 0 => some 0 | 1 => some 1 | 2 => some 2 | 3 => some 3 | _ => some 4
  else lockOf (rowRegion r)

/-- Rows that read zero in the shadows and are not programmable (R317). -/
def zeroRow (r : Nat) : Bool :=
  decide ((5 ≤ r ∧ r < 8) ∨ (236 ≤ r ∧ r < 240) ∨ (242 ≤ r ∧ r < 256) ∨ (363 ≤ r ∧ r < 1984))

/-- ROOT's rows and digest slots, whose values go only to the Ridge domain (R17, R323). -/
def rootRow (r : Nat) : Bool := decide ((8 ≤ r ∧ r < 16) ∨ (330 ≤ r ∧ r < 338))

/-! ### Reads -/

/-- The place a main row is read and burned: its spare where a redirection is in effect (R323, R331). -/
def senseRow (s : State) (r : Nat) : Nat :=
  match s.otp.redirected.find? (·.1 = r) with
  | some x => 2048 + x.2
  | none => r

def effNormal (s : State) (r : Nat) : Word := otpNormal s (senseRow s r)
def effStrict (s : State) (r : Nat) : Word := otpStrict s (senseRow s r)

/-- Redirections valid at NORMAL, the higher index first (R331). -/
def redirections (s : State) : List (Nat × Nat) :=
  ((List.range 64).reverse.filterMap fun e => (redirTarget (otpNormal s (1984 + e))).map fun r => (r, e))

/-- A row of an SVN counter with a bit that reads 0 below the highest that reads 1 (R322). -/
def svnHole (s : State) (r : Nat) : Bool :=
  decide (256 ≤ r ∧ r < 322) &&
    (let low := r / 2 * 2
     let v := (effNormal s low).toNat + 2 ^ 32 * (effNormal s (low + 1)).toNat
     let top := v.log2 + 1
     let mine := if r = low then (effNormal s low).toNat else (effNormal s (low + 1)).toNat
     let below := if v = 0 then 0 else if r = low then min top 32 else top - 32
     decide (mine ≠ 2 ^ below - 1))

/-- A word that reads differently at the two margins (R323), or an SVN row with such a bit (R322). -/
def marginalRow (s : State) (r : Nat) : Bool := decide (effNormal s r ≠ effStrict s r) || svnHole s r

/-- What the rows read at a sense is stored (R323). -/
def applyReads (s : State) (rs : List OtpRead) : State :=
  rs.foldl (fun s r => { s with otp := { s.otp with
    normal := Sparse.set 0 s.otp.normal r.row r.normal, strict := Sparse.set 0 s.otp.strict r.row r.strict } }) s

/-! ### Lifecycle (R320) -/

/-- 0 UNSET, 1 PARTIAL, 2 SET. -/
def rowSet (w : Word) : Nat := if popBits w 32 ≤ 3 then 0 else if 29 ≤ popBits w 32 then 2 else 1

/-- The lifecycle of the four rows; none where undecodable (R320). -/
def decodeLifecycle (a b c d : Word) : Option Lifecycle :=
  match rowSet a, rowSet b, rowSet c, rowSet d with
  | 0, 0, 0, 0 => some .raw
  | 1, 0, 0, 0 => some .raw
  | 2, 0, 0, 0 => some .blank
  | 2, 1, 0, 0 => some .blank
  | 2, 2, 0, 0 => some .provisioned
  | 2, 2, 2, 0 => some .depot
  | 2, 2, 1, 0 => some .depot
  | _, _, _, _ => none

/-! ### Arbitration (R324) -/

/-- Rows of slot k of lockable region r. -/
def slotRows (r : Fin 5) (k : Nat) : List Nat := (List.range 4).map fun i => 322 + 8 * r.val + 4 * k + i

/-- The lock bits of a region count as set (R317). -/
def lockSet (s : State) (r : Fin 5) : Bool :=
  decide (2 ≤ popBits ((effNormal s 362) >>> (4 * r.val)) 4)

/-- Bytes of rows under a choice of STRICT rows. -/
def rowsUnder (s : State) (picks rows : List Nat) : List Byte :=
  rows.flatMap fun r => bytesOf 4 (if r ∈ picks then effStrict s r else effNormal s r)

/-- Rows picked at STRICT under candidate c: bit j picks the j-th marginal word. -/
def picksOf (c : Nat) : List Nat → List Nat
  | [] => []
  | r :: rs => if c % 2 = 1 then r :: picksOf (c / 2) rs else picksOf (c / 2) rs

/-- The region's digest matches one of its slots under a choice (R324). -/
def candidateOk (s : State) (r : Fin 5) (picks : List Nat) : Bool :=
  let rows := (List.range (lockRange r).2).map ((lockRange r).1 + ·)
  let d := (bytesOf 48 (Config.sha384 (rowsUnder s picks rows))).take 16
  decide (d = rowsUnder s picks (slotRows r 0)) || decide (d = rowsUnder s picks (slotRows r 1))

/-- Status of a lockable region and the rows taken at STRICT (R324). -/
def resolveRegion (s : State) (r : Fin 5) : RegionStatus × List Nat :=
  let slots := slotRows r 0 ++ slotRows r 1
  let rows := (List.range (lockRange r).2).map ((lockRange r).1 + ·)
  let marg := (rows ++ slots).filter (marginalRow s)
  if slots.all (fun x => effNormal s x = 0) && !lockSet s r then (.unfinalised, [])
  else if 4 < marg.length then (.fault, [])
  else match ((List.range (2 ^ marg.length)).map (picksOf · marg)).find? (candidateOk s r) with
    | some p => (.locked, p)
    | none => if (slotRows r 1).all (fun x => effNormal s x = 0) && !lockSet s r then (.retry, []) else (.fault, [])

/-! ### Loading the shadows (R323, R325) -/

/-- The shadow a row takes, from its region's status and picks; in RAW and DEPOT a status FAULT or RETRY has no effect, and the rows
show what they read at NORMAL (R325; DEDUCED, log entry 78). -/
def shadowValue (s : State) (lc : Option Lifecycle) (res : Fin 5 → RegionStatus × List Nat) (r : Nat) : Word :=
  if zeroRow r || rootRow r then 0
  else match lockOf (rowRegion r) with
    | none => effNormal s r
    | some l =>
      match (res l).1 with
      | .unfinalised => effNormal s r
      | .locked => if r ∈ (res l).2 then effStrict s r else effNormal s r
      | _ => if lc = some .raw ∨ lc = some .depot then effNormal s r else if r = 4 then 0x3F#32 else 0

/-- The used field of EVD_OTP_MARGINAL (R337). -/
def usedCode (res : Fin 5 → RegionStatus × List Nat) (r : Nat) : Nat :=
  if rowRegion r = 0xFF ∨ rowRegion r = 9 then 3
  else match rowLock r with
    | none => 0
    | some l =>
      match (res l).1 with
      | .unfinalised => 0
      | .locked => if r ∈ (res l).2 then 1 else 0
      | _ => 2

/-- Hottest site reading, signed, in 0.1 °C, as 16 bits. -/
def hottest (s : State) : Nat :=
  match s.attic.sites.toList.map (·.deci) with
  | [] => 0
  | d :: ds => (BitVec.ofInt 16 (ds.foldl max d)).toNat

/-- A row whose words no event reports: a ROOT row, or a spare that a redirection gives to one, in effect yet or not (R17, R337). -/
def hidesRoot (s : State) (row : Nat) : Bool :=
  rootRow row || (redirections s).any fun x => rootRow x.1 && decide (2048 + x.2 = row)

/-- EVD_OTP_MARGINAL (R337); ROOT values are reported as 0. -/
def marginalEvent (s : State) (row pass : Nat) (normal strict : Word) (used : Nat) : State :=
  let hide := hidesRoot s row
  raise s 472 0xFF (payload [(0, 2, row), (2, 1, rowRegion row), (3, 1, pass), (4, 4, if hide then 0 else normal.toNat),
    (8, 4, if hide then 0 else strict.toNat), (0x0C, 1, used), (0x0E, 2, hottest s)])

/-- EVD_OTP_FAULT (R337). -/
def otpFault (s : State) (row region op intended strict cause pulses : Nat) : State :=
  let hide := hidesRoot s row
  raise s 473 0xFF (payload [(0, 2, row), (2, 1, region), (3, 1, op), (4, 4, if hide then 0 else intended),
    (8, 4, if hide then 0 else strict), (0x0C, 1, cause), (0x0D, 1, pulses)])

/-- A spare whose redirection is in effect: it counts under the row it stands for (R323, R331). -/
def spareInEffect (s : State) (r : Nat) : Bool := s.otp.redirected.any fun x => decide (2048 + x.2 = r ∧ senseRow s x.1 = r)

/-- Rows found marginal: redirection rows and spares first, then main rows, a spare in effect under the row it stands for (R323). -/
def marginalRows (s : State) : List Nat :=
  ((List.range 128).map (1984 + ·) ++ List.range 1984).filter fun r => marginalRow s r && !spareInEffect s r

/-- Whether ROOT's status leaves the device without a secret: G_MODE.barren (R325). -/
def rootBarren (lc : Option Lifecycle) (root : RegionStatus) : Bool :=
  match lc, root with
  | some .raw, _ | some .depot, _ => false
  | some .provisioned, .unfinalised => true
  | _, .fault | _, .retry => true
  | _, _ => false

/-- The device secret that the ROOT rows deliver to the Ridge domain (R17, R28, R323, R336). -/
def deliveredUds (s : State) : Option (BitVec 256) :=
  let x := resolveRegion s 1
  let root := ofBytes 256 (rowsUnder s x.2 ((List.range 8).map (8 + ·)))
  match decodeLifecycle (effNormal s 0) (effNormal s 1) (effNormal s 2) (effNormal s 3), x.1 with
  | some .raw, _ | some .depot, _ => none
  | _, .locked => some root
  | some .blank, .unfinalised => if root = 0 then none else some root
  | _, _ => none

/-- Step 4 of COLD (R323): both senses, redirections, lifecycle, region status, shadows, the value for the Ridge domain,
events. -/
def senseOtp (s : State) (drift : List OtpRead) : State :=
  let s := applyReads s drift
  let s := { s with otp := { s.otp with redirected := redirections s } }
  let lc := decodeLifecycle (effNormal s 0) (effNormal s 1) (effNormal s 2) (effNormal s 3)
  let res := fun r => resolveRegion s r
  let shadow := (List.range 2048).filterMap fun r =>
    let v := shadowValue s lc res r
    if v = 0 then none else some (r, v)
  let marg := marginalRows s
  let uds := deliveredUds s
  let barren := rootBarren lc (res 1).1
  let s := { s with
    otp := { s.otp with
      shadow := shadow, status := Vector.ofFn fun r => (res r).1, lifecycle := lc.getD .raw, undecodable := lc.isNone
      marginal := marg, marginalCold := marg.length, marginalResense := 0, lastPass := 0, senseHours := s.attic.hours
      overrides := false, policyOverridden := false, feature := shadowValue s lc res 4
      lcBurned := false, behind := [], senseWaiting := false, busy := false, senser := none }
    keys := { s.keys with uds := uds }
    gmode := { s.gmode with barren := barren }
    attic := { s.attic with sites := s.attic.sites.map fun x => { x with atSense := x.deci } } }
  let s := marg.foldl (fun s r => marginalEvent s r 0 (effNormal s r) (effStrict s r) (usedCode res r)) s
  (List.finRange 5).foldl (fun s r =>
    if (res r).1 = .fault ∨ (res r).1 = .retry then
      otpFault s 0xFFFF (rowRegion (lockRange r).1) 0 0 0 2 0
    else s) s

/-! ### Programming a word (R327, R331) -/

/-- The spare a burn into a main row is made in: that of the highest valid entry naming it. -/
def burnSpare (s : State) (r : Nat) : Option Nat :=
  ((redirections s).find? (·.1 = r)).map fun x => 2048 + x.2

/-- One place of the array after its pulses. -/
def setPlace (s : State) (p : Nat) (normal strict : Word) : State :=
  { s with otp := { s.otp with
      normal := Sparse.set 0 s.otp.normal p normal, strict := Sparse.set 0 s.otp.strict p strict } }

/-- The result of programming one word: status ST_OK, ST_BAD_ARG or ST_FAULT, pulses, STRICT read after. -/
structure Burned where
  st     : Nat
  pulses : Nat
  strict : Word
  deriving DecidableEq, Repr

/-- The reads a pulse run leaves: the pulsed bits read as the burn gives, the other bits as they were; a run of fewer than
8 pulses ended at a STRICT read of v. -/
def afterPulses (normal strict v : Word) (b : Burn) : Word × Word :=
  if b.pulses < 8 then (normal ||| v, v)
  else ((normal ||| (b.normal &&& v)), (strict ||| (b.strict &&& v)) &&& v)

/-- program_word at one place (R327). -/
def programPlace (s : State) (p : Nat) (v : Word) (b : Burn) : State × Burned :=
  let n := otpNormal s p
  let t := otpStrict s p
  if n &&& ~~~v ≠ 0 then (s, { st := stBadArg, pulses := 0, strict := t })
  else if t = v then (s, { st := stOk, pulses := 0, strict := t })
  else
    let (n', t') := afterPulses n t v b
    (setPlace s p n' t', { st := if t' = v then stOk else stFault, pulses := b.pulses, strict := t' })

/-- program_word of a main row: in the spare of the highest valid entry naming it, and in the main row too where that redirection is
not yet in effect, and then in the spare the shadow was sensed from where an older redirection is; the status is the first spare's
(R331; DEDUCED, log entry 79). The shadow follows from the row sensed at the last COLD (R326). -/
def programWord (s : State) (r : Nat) (v : Word) (b : Burn) : State × Burned :=
  let (s, out) :=
    match burnSpare s r with
    | none => programPlace s r v b
    | some p =>
      let (s, out) := programPlace s p v b
      if out.st = stBadArg ∨ senseRow s r = p then (s, out)
      else
        let s := (programPlace s r v b).1
        (if senseRow s r = r then s else (programPlace s (senseRow s r) v b).1, out)
  if out.st = stBadArg ∨ zeroRow r ∨ rootRow r then (s, out)
  else ({ s with otp := { s.otp with shadow := Sparse.set 0 s.otp.shadow r (effNormal s r) } }, out)

/-- Burn k of a list; a word given no burn takes one pulse and verifies. -/
def burnAt (bs : List Burn) (k : Nat) : Burn :=
  bs[k]?.getD { pulses := 1, normal := BitVec.allOnes 32, strict := BitVec.allOnes 32 }

end Sys2Proof.Machine
end

