-- ==== Sys2Proof/Machine/KeyOps.lean ====
section
/-! DEFINITION. DRBG draws (R294, R295), the KDF (R308), slot tags and writes (R299 to R309), and the journal and store
keys (R304, R473). -/

namespace Sys2Proof.Machine

open Sys2Proof

/-! ### DRBG -/

/-- One generate request of n bytes from a DRBG unit (R294, R295): the bytes, or ST_BUSY while the source is not ready, or
ST_FAULT once it is FAILED. -/
def drbg (s : State) (inst : Nat) (n : Nat) : State × Except Nat (List Byte) :=
  let ready := if inst = 0 then s.eng.inst0Ready else s.eng.inst1Ready
  if s.eng.source = 3 then (s, .error stFault)
  else if s.eng.source ≠ 1 ∨ !ready then (s, .error stBusy)
  else if inst = 0 then
    ({ s with eng := { s.eng with
        calls0 := s.eng.calls0 + 1, since0 := if 65536 ≤ s.eng.since0 then 1 else s.eng.since0 + 1 } },
      .ok ((List.range n).map (Config.drbgByte 0 s.eng.calls0)))
  else
    ({ s with eng := { s.eng with
        calls1 := s.eng.calls1 + 1, since1 := if 65536 ≤ s.eng.since1 then 1 else s.eng.since1 + 1 } },
      .ok ((List.range n).map (Config.drbgByte 1 s.eng.calls1)))

/-! ### KDF (R308) -/

/-- ASCII bytes of a label. -/
def ascii (x : String) : List Byte := x.toList.map fun c => BitVec.ofNat 8 c.toNat

/-- KDF blocks i, i+1, … -/
def kdfBlocks (ki label ctx : List Byte) (bits : Nat) : Nat → Nat → List Byte
  | 0, _ => []
  | n + 1, i =>
    bytesOf 48 (Config.hmacSha384 ki (beBytes 4 i ++ label ++ [0] ++ ctx ++ beBytes 4 bits)) ++
      kdfBlocks ki label ctx bits n (i + 1)

/-- `n` bytes of KDF output (R308). -/
def kdf (ki label ctx : List Byte) (n : Nat) : List Byte := (kdfBlocks ki label ctx (8 * n) ((n + 47) / 48) 1).take n

/-! ### Slots -/

/-- Usage bits, numbered from slot-word bit 12 (R301). -/
def uEncrypt : Nat := 0
def uDecrypt : Nat := 1
def uWrap : Nat := 2
def uUnwrap : Nat := 3
def uHmac : Nat := 4
def uSign : Nat := 5
def uEcdh : Nat := 6
def uDerive : Nat := 7
def uIde : Nat := 8
def uSession : Nat := 9

def KeySlot.may (k : KeySlot) (u : Nat) : Bool := k.usage.getLsbD u

/-- The slot word (R300) with the state code given. -/
def KeySlot.attr (k : KeySlot) (state : Nat) : Nat :=
  state + 4 * k.ty.toNat + 0x40 * k.origin.toNat + 0x100 * b01 k.fresh + 0x200 * b01 k.exportable + 0x400 * b01 k.system +
    0x1000 * k.usage.toNat + 0x400000 * k.keyBytes.toNat + 2 ^ 32 * k.owner.toNat + 2 ^ 48 * k.parent.toNat +
    2 ^ 56 * k.layer.toNat

/-- The slot word as it stands. -/
def KeySlot.attrWord (k : KeySlot) : Nat := k.attr k.state.code

/-- The integrity tag of a slot (R303). -/
def slotTag (storeKey : Digest) (i : Nat) (k : KeySlot) : BitVec 64 :=
  (Config.hmacSha384 (bytesOf 48 storeKey) ([BitVec.ofNat 8 i] ++ leBytes 8 (k.attr 0) ++ bytesOf 64 k.material)).setWidth 64

/-- A slot written VALID with its tag (R303). -/
def writeSlot (s : State) (i : Fin 256) (k : KeySlot) : State :=
  let k := { k with state := .valid }
  s.setSlot i { k with tag := slotTag s.keys.storeKey i.val k }

/-- The secret scalar of 56 bytes of output: d := (c mod (n − 1)) + 1 of the big-endian integer c, as 48 bytes (R301, R308). -/
def p384Scalar (out : List Byte) : List Byte := beBytes 48 (leNat out.reverse % (p384Order - 1) + 1)

/-- Key material of a type from KDF or DRBG output (R308). -/
def formMaterial (ty : BitVec 4) (keyBytes : Nat) (out : List Byte) : BitVec 512 :=
  if ty = 3 then ofBytes 512 (p384Scalar out)
  else ofBytes 512 (out.take keyBytes)

/-- Bytes of KDF or DRBG output a type takes (R308). -/
def outputBytes (ty : BitVec 4) (keyBytes : Nat) : Nat := if ty = 3 then 56 else keyBytes

/-- A system slot's fixed attributes and derivation (R309): type, key bytes, usage, parent, layer, label, context. -/
structure SystemSlot where
  ty       : BitVec 4
  keyBytes : Nat
  usage    : BitVec 10
  parent   : Fin 256
  layer    : BitVec 4
  label    : List Byte
  context  : List Byte

def systemSlot (s : State) (i : Nat) : SystemSlot :=
  let derive : BitVec 10 := 1#10 <<< uDerive
  let sign : BitVec 10 := 1#10 <<< uSign
  match i with
  | 0 => ⟨5, 48, derive, 0, 1, ascii "SHAKAN-CDI0", bytesOf 48 s.boot.romDigest⟩
  | 1 => ⟨5, 48, derive, 0, 2, ascii "SHAKAN-CDI1", bytesOf 48 Config.bootRomId⟩
  | 2 => ⟨5, 48, derive, 1, 3, ascii "SHAKAN-CDI2", bytesOf 48 (fwDigest s)⟩
  | 3 => ⟨3, 48, sign, 0, 2, ascii "SHAKAN-DIK-EC", []⟩
  | 4 => ⟨4, 32, sign, 0, 2, ascii "SHAKAN-DIK-ML", []⟩
  | 5 => ⟨3, 48, sign ||| (1#10 <<< uEcdh), 2, 4, ascii "SHAKAN-ALIAS-EC", []⟩
  | 6 => ⟨4, 32, sign, 2, 4, ascii "SHAKAN-ALIAS-ML", []⟩
  | _ => ⟨3, 48, sign, 0, 2, ascii "SHAKAN-OWNER-EC", []⟩

/-- The kind of check that found a bad tag (R314): 0 use, 1 scan, 2 DERIVE parent, 3 EXPORT, 4 PUBLIC or PROVE. A slot whose tag
fails becomes BAD; a derived system slot is derived again by `derive` (R304). -/
def badSlotBy (derive : State → Fin 256 → State) (s : State) (i : Fin 256) (found : Nat) : State :=
  let k := s.slot i
  let again := k.system && decide (k.origin = 1)
  let s := { s with keys := { s.keys with tagFailures := satInc 0xFF s.keys.tagFailures } }
  let s := s.setSlot i { k with state := .bad, material := 0 }
  let s := if again then derive s i else s
  raise s 492 0xFF (payload [(0, 1, i.val), (1, 1, found), (2, 1, b01 again), (3, 1, k.owner.toNat), (4, 8, k.attrWord)])

/-- The tag check made on every use (R303, R304); the answer says whether the tag held. -/
def checkTagBy (derive : State → Fin 256 → State) (s : State) (i : Fin 256) (found : Nat) : State × Bool :=
  let k := s.slot i
  if k.state ≠ .valid then (s, false)
  else if k.tag = slotTag s.keys.storeKey i.val k then (s, true)
  else (badSlotBy derive s i found, false)

/-- The material of a system slot (R308, R309). -/
def systemMaterial (d : SystemSlot) (ki : List Byte) : BitVec 512 :=
  formMaterial d.ty d.keyBytes (kdf ki d.label d.context (outputBytes d.ty d.keyBytes))

/-- A system slot written by the Ridge domain with its material (R309): contexts that loaded it are closed. -/
def writeSystem (s : State) (i : Fin 256) (material : BitVec 512) : State :=
  let d := systemSlot s i.val
  let s := { s with keys := { s.keys with formed := (i.val, material) :: s.keys.formed.filter (·.1 ≠ i.val) } }
  writeSlot (closeSlotContexts s i.val) i { KeySlot.reset with
    ty := d.ty, origin := 1, system := true, usage := d.usage, keyBytes := BitVec.ofNat 7 d.keyBytes
    parent := BitVec.ofNat 8 d.parent.val, layer := d.layer, material := material }

/-- A system slot derived again, with identical material (R304), its parent's tag checked as at every use (R303). The number bounds the
chain of parents. -/
def deriveAgain : Nat → State → Fin 256 → State
  | 0, s, _ => s
  | n + 1, s, i =>
    let s := if i.val = 0 then s else (checkTagBy (deriveAgain n) s (systemSlot s i.val).parent 2).1
    match s.keys.formed.find? (·.1 = i.val) with
    | some x => writeSystem s i x.2
    | none => s

/-- The longest chain of parents is that of slots 5 and 6: 2, 1, 0. -/
def badSlot (s : State) (i : Fin 256) (found : Nat) : State := badSlotBy (deriveAgain 5) s i found

def checkTag (s : State) (i : Fin 256) (found : Nat) : State × Bool := checkTagBy (deriveAgain 5) s i found

/-- A system slot derived by the Ridge domain (R309): slot 0 from the UDS, the others from their parent slot, whose tag is checked
(R303). -/
def deriveSystem (s : State) (i : Fin 256) : State :=
  let d := systemSlot s i.val
  if i.val = 0 then writeSystem s i (systemMaterial d (bytesOf 32 (s.keys.uds.getD 0)))
  else
    let s := (checkTag s d.parent 2).1
    writeSystem s i (systemMaterial d (bytesOf 48 (s.slot d.parent).material))

/-- The certificate the Ridge domain issues with the DIK at a firmware release (R261, R309): the subject key is slot 5's, and
it carries register 4's value; without a DRBG no certificate can be signed (R290, R295). -/
def issueAlias (s : State) : State :=
  let put := fun (s : State) (c : List Byte) => { s with keys := { s.keys with aliasCert := c } }
  match checkTag s 3 0 with
  | (s, false) => put s []
  | (s, true) =>
    let n := s.eng.calls1
    match drbg s 1 48 with
    | (s, .error _) => put s []
    | (s, .ok _) =>
      put s (Config.slot1Cert (bytesOf 48 (s.slot 3).material) (slotPublic (s.slot 5)) (bytesOf 48 (s.reg 4).value) n)

/-- Slots 2, 5 and 6 at a firmware release, and the new certificate of the DIK (R309). -/
def deriveFirmwareSlots (s : State) : State :=
  if s.gmode.barren ∨ (s.slot 1).state ≠ .valid then s
  else issueAlias ([2, 5, 6].foldl (fun s (i : Fin 256) => deriveSystem s i) s)

/-- The slots of a firmware release requested: derived at once, or held at the boundary while the port is (R20). -/
def requestFirmware (s : State) : State :=
  if s.boot.ridgeHeld then { s with keys := { s.keys with held := s.keys.held ++ [.firmware] } } else deriveFirmwareSlots s

/-- A slot's invocation counter advances (R282, R283). -/
def advanceSlot (s : State) (i : Fin 256) : State :=
  let k := s.slot i
  s.setSlot i { k with counter := k.counter + 1 }

/-- One held request to the key store runs. -/
def runKeyReq (s : State) (q : KeyReq) : State :=
  match q with
  | .destroy i => destroySlot s i
  | .advance i => advanceSlot s i
  | .firmware => deriveFirmwareSlots s

/-- The port accepts requests again: those held run in their original order (R20); the registers' and the key store's do not
touch each other but for register 4, whose extend precedes the certificate that carries it (R309). -/
def releaseRidge (s : State) : State :=
  let s := s.ridge.held.foldl runRidge
    { s with boot := { s.boot with ridgeHeld := false }, ridge := { s.ridge with held := [] } }
  s.keys.held.foldl runKeyReq { s with keys := { s.keys with held := [] } }

/-- The slots of mailbox engine h (R305). -/
def slotOf (h : LdId) (k : Fin 8) : Fin 256 := ⟨128 + 8 * h.val + k.val, by omega⟩

/-- A logical device's slots destroyed (R305). -/
def destroyLdSlots (s : State) (h : LdId) : State :=
  (List.finRange 8).foldl (fun s k => dropSlot s (slotOf h k)) s

/-- Store key, journal key and boot nonce at COLD step 5, in that order of draws (R294, R304, R473); `uds` is whether a UDS
was delivered. -/
def coldKeys (s : State) : State :=
  let (s, store) := drbg s 0 48
  let s := match store with
    | .ok b => { s with keys := { s.keys with storeKey := ofBytes 384 (kdf b (ascii "SHAKAN-STORE") [] 48), storeFallback := false } }
    | .error _ => { s with keys := { s.keys with storeKey := Config.storeFallbackKey s.attic.cycles, storeFallback := true } }
  let (s, nonce) := drbg s 0 48
  match nonce with
  | .ok b => { s with keys := { s.keys with bootNonce := some (ofBytes 384 b) } }
  | .error _ => { s with keys := { s.keys with bootNonce := none } }

/-- Slots 0, 1, 3, 4 and 7 from the UDS, which is then cleared (R309). -/
def deriveFromUds (s : State) : State :=
  let s := [0, 1, 3, 4, 7].foldl (fun s (i : Fin 256) => deriveSystem s i) s
  { s with keys := { s.keys with uds := none } }

/-- The journal key of a power cycle (R473): from CDI_0, or from the mask in BARREN; before the device secret is burned no
CDI_0 exists and the spec states no value. -/
def deriveJournalKey (s : State) : State :=
  let put := fun (s : State) (k : Digest) => { s with keys := { s.keys with journalKey := k } }
  if s.gmode.barren then put s Config.journalMaskKey
  else if (s.slot 0).state ≠ .valid then put s Config.journalBlankKey
  else
    let s := (checkTag s 0 2).1
    put s (ofBytes 384 (kdf (bytesOf 48 (s.slot 0).material) (ascii "SHAKAN-JOURNAL") [] 48))

/-- Slot 7 generated at each COLD in BARREN, with its self-signed certificate in certificate slot 2 (R266, R312). -/
def generateOwnerKey (s : State) : State :=
  let (s, out) := drbg s 0 56
  match out with
  | .ok b =>
    let s := writeSlot s 7 { KeySlot.reset with
      ty := 3, origin := 0, fresh := true, system := true, usage := 1#10 <<< uSign, keyBytes := 48, material := formMaterial 3 48 b }
    { s with keys := { s.keys with slot2Chain := Config.selfSignedChain (slotPublic (s.slot 7)) } }
  | .error _ => { s with keys := { s.keys with slot2Chain := [] } }

end Sys2Proof.Machine
end

