-- ==== Sys2Proof/Machine/StartOps.lean ====
section
/-! DEFINITION. Shared operations of start-up: what a reset keeps, the supply action, the calibration block, the Purlin
owner configuration, the start-up decision and the end of COLD (R41 to R45, R69, R70, R102, R406, R407, R501). -/

namespace Sys2Proof.Machine

open Sys2Proof

/-! ### Resets (R69, R70, R102) -/

/-- Keep what no reset and no loss of power touches: the OTP array, the Purlin flash with its journal, the chain of
certificate slot 2 (its key is the same at every start, R261), the counts that tell the DRBGs' generate requests apart, whose seeds
differ at every start (R294), and the commands that wait. -/
def keepStored (old new : State) : State :=
  { new with
    pending := old.pending, freeCtr := old.freeCtr
    otp := { new.otp with normal := old.otp.normal, strict := old.otp.strict, badSpares := old.otp.badSpares }
    purlin := { new.purlin with contents := old.purlin.contents }
    keys := { new.keys with slot2Chain := old.keys.slot2Chain }
    eng := { new.eng with calls0 := old.eng.calls0, calls1 := old.eng.calls1 }
    gutter := { new.gutter with journal := old.gutter.journal } }

/-- A tile as a reset of every domain but the Attic leaves it: OFF with cause COLD, T_GEN 0, its control lines and input
conditioning kept, PLT_PWR_EN going through its power-down (R69, R102). -/
def Tile.coldReset (x : Tile) : Tile :=
  { Tile.reset with
    ctl := { TileCtl.reset with
      pgood := x.ctl.pgood, alert := x.ctl.alert, pgoodCond := x.ctl.pgoodCond, alertCond := x.ctl.alertCond
      pwrEn := x.ctl.pwrEn }
    power := { TilePower.reset with
      pwrDropPending := x.ctl.pwrEn, offUntil := x.power.offUntil, pgoodQ := x.power.pgoodQ, alertQ := x.power.alertQ
      pgoodEdges := x.power.pgoodEdges, alertEdges := x.power.alertEdges } }

/-- Every domain but the Attic is reset (R69, R70, R503). -/
def resetDomains (s : State) : State :=
  let n := keepStored s State.reset
  { n with
    boot := { n.boot with vddAon := s.boot.vddAon, suppliesOk := s.boot.suppliesOk }
    attic := { n.attic with
      tick := s.attic.tick, cycleTick := s.attic.cycleTick, hours := s.attic.hours, cycles := s.attic.cycles
      keptSeq := s.attic.keptSeq, pwrTick := s.attic.pwrTick }
    tiles := s.tiles.map Tile.coldReset }

/-- The device enters COLD (R37, R41, R69): prev_mode is the mode left. -/
def enterCold (s : State) (prev : DevMode) (cause : ModeCause) : State :=
  modeEvent { s with
    gmode := { s.gmode with mode := .cold, prev := prev, cause := cause }
    boot := { s.boot with phase := .por } }

/-- The power-cycle count advances (R491). -/
def countCycle (s : State) : State :=
  { s with attic := { s.attic with cycles := (s.attic.cycles + 1) % 2 ^ 32, cycleTick := s.attic.tick } }

/-- DEVICE_RESET (R69): COLD with cause RESET_CMD; the power-cycle count advances. -/
def deviceResetNow (s : State) : State :=
  let prev := s.gmode.mode
  let n := resetDomains s
  enterCold (countCycle n) prev .resetCmd

/-- The supply action (R70): what waits is appended first (R496); every domain but the Attic stops; COLD is entered when the supplies
are back. `prev` is kept in G_MODE for that entry. -/
def supplyStop (s : State) : State :=
  let s := recordAll 514 s
  let n := resetDomains s
  { n with
    gmode := { n.gmode with prev := s.gmode.mode }
    boot := { n.boot with suppliesOk := false, phase := .supplyStop } }

/-- Whether a COLD sequence is under way or done, so that the supply action applies. -/
def running (s : State) : Bool := s.boot.vddAon && s.boot.suppliesOk

/-! ### Bifurcation (R393, R394) -/

/-- Heads and lanes of each head for straps under a feature word: configuration code, capped, widths. -/
def bifurcate (straps : BitVec 2) (feature : Word) : BitVec 2 × Bool × Vector (BitVec 5) 4 :=
  let n := if straps = 1 then 2 else if straps = 2 then 4 else 1
  let w := 16 / n
  let n' := min n (featHeads feature)
  let w' := if n' * w ≤ featWidth feature then w else featWidth feature / n'
  (if n' = 1 then 0 else if n' = 2 then 1 else 2, decide (n' ≠ n ∨ w' ≠ w),
    Vector.ofFn fun h : Fin 4 => if h.val < n' then BitVec.ofNat 5 w' else 0)

/-- The lanes a head keeps (R393, R394), as a mask: the first of those its straps give it. -/
def headLanes (straps : BitVec 2) (h : HeadId) (width : BitVec 5) : BitVec 16 :=
  let first := if straps = 1 then 8 * h.val else if straps = 2 then 4 * h.val else 0
  BitVec.ofNat 16 ((2 ^ width.toNat - 1) * 2 ^ first)

/-- The head configuration put in force. -/
def setBifurcation (s : State) (straps : BitVec 2) : State :=
  let b := bifurcate straps s.otp.feature
  { s with host := { s.host with
      straps := straps, bifur := b.1, bifCapped := b.2.1, widths := b.2.2
      lanes := Vector.ofFn fun h : Fin 4 => headLanes straps h b.2.2[h] } }

/-! ### Calibration (R499 to R501) -/

def zeroIn (b : List Byte) (off n : Nat) : Bool := (slice off n b).all (· = 0)

/-- A gain within ±20,000 ppm. -/
def gainOk (b : List Byte) (off : Nat) : Bool :=
  let g := (BitVec.ofNat 16 (leAt off 2 b)).toInt
  decide (-20000 ≤ g ∧ g ≤ 20000)

/-- The calibration block is valid (R500, R501). -/
def calValid (b : List Byte) : Bool :=
  decide (b.length = 1024 ∧ leAt 0 4 b = 0x4C414342 ∧ leAt 4 2 b = 1 ∧ leAt 6 2 b = 0x400 ∧ leAt 0x061 1 b ≤ 32 ∧
    leAt 0x3FC 4 b = (crc32 (b.take 0x3FC)).toNat) &&
  zeroIn b 0x062 30 && zeroIn b 0x20C 4 && zeroIn b 0x390 108 &&
  (List.range 33).all (fun p => zeroIn b (0x080 + 12 * p + 11) 1) &&
  (List.range 32).all (fun t => zeroIn b (0x210 + 12 * t + 10) 2) &&
  (List.range 8).all (fun i => gainOk b (0x012 + 4 * i)) && (List.range 12).all fun i => gainOk b (0x032 + 4 * i)

/-- The block in the Purlin flash. -/
def storedCal (s : State) : List Byte := Memory.read 0xFF s.purlin.contents 0 1024

/-- EVD_PURLIN_FAULT (R360). -/
def purlinFault (s : State) (cause err who addr cmd : Nat) : State :=
  raise s 507 0xFF (payload [(0, 1, cause), (1, 1, err), (2, 1, who), (3, 1, s.purlin.state.toNat), (4, 4, addr), (8, 4, cmd)])

/-- A mapped access ends with a bus error (R356, R359). -/
def busError (s : State) : State :=
  { s with purlin := { s.purlin with mapErrors := satInc 0xFF s.purlin.mapErrors } }.respond [] 1

/-- The code of the entry completed last on the Purlin port (R360). -/
def State.purlinCode (s : State) : Nat := entryField s.purlin.last 2 31 28

/-- The state of the Purlin port changes: in JOURNAL mode the journal writer stops while it is not UP and resumes at a
fresh unit (R475), and a mapped miss that waits ends with a bus error (R360). -/
def setPurlin (s : State) (st : BitVec 2) : State :=
  let s := if st ≠ 1 ∧ s.purlin.miss.isSome then busError { s with purlin := { s.purlin with miss := none } } else s
  let g := s.gutter
  let g :=
    if g.overwrite then g
    else if st = 1 then (if g.jState = 2 then { g with jState := 1, jUnit := true } else g)
    else if g.jState = 1 then { g with jState := 2 } else g
  { s with purlin := { s.purlin with state := st }, gutter := g }

/-- The calibration block is applied whole, or the defaults with EVD_CAL_MISSING (R501). -/
def applyCal (s : State) : State :=
  let b := storedCal s
  if s.purlin.state = 1 ∧ calValid b then
    { s with cal := { state := 0, pending := false, pwrSpacing := BitVec.ofNat 8 (leAt 0x060 1 b)
                      pwrGroup := BitVec.ofNat 8 (leAt 0x061 1 b), block := b } }
  else
    let absent := decide (s.purlin.state ≠ 1)
    let s := { s with cal := { Cal.reset with state := if absent then 1 else 2 } }
    raise s 508 0xFF (payload [(0, 1, b01 (!absent))])

/-! ### The owner configuration (R407) -/

/-- The configuration as an object with a signature block: the block of R113 follows at 0x50. -/
def ownerObject (c : List Byte) : List Byte :=
  let b := c.drop 0x50
  packBytes 0x50 [(0x0C, 4, 0x50), (0x11, 1, leAt 4 1 b), (0x12, 1, leAt 5 1 b)] ++ b

/-- The configuration in the Purlin flash with the longest signature block (DESIGN CHOICE, log entry 4: R427 lets it be
longer than the 4 KiB of R499). -/
def storedOwnerCfg (s : State) : List Byte := Memory.read 0xFF s.purlin.contents 0xF00000 (0x50 + 7428)

/-- The owner digest it carries. -/
def ownerCfgDigest (c : List Byte) : Digest := ofBytes 384 (slice 0x0C 48 c)

/-- The device identity key digest a configuration may be bound to: first 16 bytes. -/
def dikBind (s : State) : Option (List Byte) :=
  let k := s.slot 3
  if k.state = .valid then some ((bytesOf 48 (Config.sha384 (slotPublic k))).take 16) else none

/-- The checks of R407 in order: 0 where all hold, else the number of the failed check. -/
def checkOwnerCfg (s : State) (c : List Byte) (run : RafterRun) : State × Nat :=
  let m := ownerObject c
  let signed := c.take 0x50
  if leAt 0 4 c ≠ 0x4E574F42 ∨ leAt 4 2 c ≠ 1 ∨ leAt 6 2 c ≠ 0 ∨ leAt 0x4C 4 c ≠ 0 ∨ mfScheme m = 0 ∨ 3 < mfScheme m ∨
      15 < mfKeyIndex m ∨ !sigBlockOk m then (s, 1)
  else if !schemeOk s false m ∨ !keyOk s false m then (s, 2)
  else
    let p := Config.p384ValidPoint (mfKeyP m) && Config.ecdsaVerify (mfKeyP m) (bytesOf 48 (Config.sha384 signed)) (mfSigP m)
    let q := Config.mldsaVerify (mfKeyM m) [] signed (mfSigM m)
    let (s, p, q) := verifySig s (mfScheme m) run 0 0xFF p q
    if !(p && q) then (s, 2)
    else if revoked s (mfKeyIndex m) then (s, 3)
    else if leAt 8 4 c < svnCount s 32 then (s, 4)
    else if zeroIn c 0x3C 16 ∨ dikBind s = some (slice 0x3C 16 c) then (s, 0)
    else (s, 5)

/-- The fused owner digest (R319, R406). -/
def fusedOwner (s : State) : Option Digest :=
  let d : Digest := ofBytes 384 (shadowBytes s 224 12)
  if regionStatus s 3 = .locked ∧ d ≠ 0 then some d else none

/-- The owner digest in force is fixed at the end of COLD (R406), the Purlin configuration having been checked. -/
def fixOwner (s : State) : State :=
  let (s, cfg) : State × Option Digest :=
    match s.boot.ownerRun with
    | some run =>
      let c := storedOwnerCfg s
      let (s, bad) := checkOwnerCfg s c run
      if bad = 0 then (s, some (ownerCfgDigest c)) else (note s 0x04 2 0xFF (payload [(0, 1, bad)]), none)
    | none => (s, none)
  let allowed := decide (regionStatus s 4 = .locked) && bitOf (shadowRow s 241) 2
  let (src, d) : BitVec 2 × Option Digest :=
    match fusedOwner s with
    | some d => (1, some d)
    | none => match cfg with
      | some d => if allowed then (2, some d) else (0, none)
      | none => (0, none)
  { s with host := { s.host with ownerSource := src, ownerDigest := d } }

/-! ### The start-up decision and the end of COLD (R41, R43, R45) -/

/-- The start-up decision (R43); `romOk` and `locked` are the results of the Ridge ROM check. -/
def decide43 (s : State) (romOk locked : Bool) : DevMode × ModeCause :=
  if !locked then (.lockdown, .ridgeClock)
  else if !romOk then (.lockdown, .ridgeRom)
  else if s.otp.undecodable then (.lockdown, .lifecycle)
  else match s.otp.lifecycle with
    | .depot => (.depot, .depotFuse)
    | .raw => (.cold, .raw)
    | .blank => (.await, .blank)
    | .provisioned =>
      if regionStatus s 4 ≠ .fault ∧ regionStatus s 4 ≠ .retry ∧ anchors s ≠ [] then (.gate, .anchors)
      else (.await, .noAnchors)

/-- A row burned whole for DEPOT; a failure is recorded and the device goes on (R67). -/
def depotBurn (s : State) (row : Nat) (b : Burn) : State :=
  let (s, out) := programWord s row (BitVec.allOnes 32) b
  if out.st = stOk then s else otpFault s row (rowRegion row) 8 0xFFFFFFFF out.strict.toNat 0 out.pulses

/-- Step 3 of R67: LIFECYCLE burned to DEPOT, with L1 where it is not set yet (R320). Burn 0 is that of L2, 1 to 8 those of ROOT's
rows, 9 that of L1. -/
def depotLifecycle (s : State) (burns : List Burn) : State :=
  let s := if rowSet (shadowRow s 1) = 2 then s else depotBurn s 1 (burnAt burns 9)
  depotBurn s 2 (burnAt burns 0)

/-- Step 4 of R67: every unburned bit of ROOT is burned. -/
def depotRoot (s : State) (burns : List Burn) : State :=
  (List.range 8).foldl (fun s i => depotBurn s (8 + i) (burnAt burns (1 + i))) s

/-- The burns of DEPOT (R67). -/
def depotBurns (s : State) (burns : List Burn) : State := depotRoot (depotLifecycle s burns) burns

/-- GATE is entered: each anchor receives a power-on request (R45, R102). -/
def enterGate (s : State) : State :=
  let s := changeMode s .gate .anchors
  gateCheck (requestPowerAll s (anchors s) .powerOn)

/-- The mode the decision chose is entered, with the causes held until COLD ended acted on after it, register 3 extended
and the doorbells held released in mailbox order (R37, R41, R242). Where the decision is DEPOT the boot ROM repeats the burns of
R67 that did not complete, with the outcomes given. -/
def endCold (s : State) (burns : List Burn) : State :=
  if s.boot.phase ≠ .decided ∨ !s.boot.underlayDone then s
  else match s.boot.decision with
    | none => s
    | some (mode, cause) =>
      let s := fixOwner s
      let s := { s with boot := { s.boot with phase := .ended } }
      let s := if mode = .depot then depotBurns s burns else s
      let s :=
        match mode with
        | .gate => enterGate s
        | .await => enterAwait s cause
        | m => changeMode s m cause
      let s := extendReg s 3 2 0 0 (Config.sha384 (deviceStateRecord s))
      let s := heldLockdownNow s
      advance 16 { s with responder := (List.finRange 16).filter (· ∈ s.responder) }

end Sys2Proof.Machine
end

