-- ==== Sys2Proof/Machine/Tile.lean ====
section
/-! DEFINITION. The TILE_ commands (R429, R430), the switch of table banks (R22), power (R88, R89, R498) and the
conditioned inputs (R90 to R95, R101). -/

namespace Sys2Proof.Machine

open Sys2Proof

/-! ### Command forms -/

/-- served (R424). -/
def servedModes : List DevMode := [.serve, .doze, .maintain, .barren, .trial]

/-- The state and generation a tile command completes with (R78): T_STATE, T_GEN. -/
def tileResp (s : State) (t : TileId) : List Byte := staleResp s t

/-- A tile command completes with a status and the tile as it is. -/
def tileDone (s : State) (t : TileId) (st : Nat) : Result := .done s st (tileResp s t)

/-- A tile command of the owner, with a generation check (R422). -/
def tileCmd (row : Nat) (len : Nat) (modes : List DevMode := servedModes) : Cmd :=
  { row := row, modes := modes, len := fixedLen len, role := ownerOnly, tile := true, gen := true }

/-! ### Table banks (R22, R430, R450) -/

/-- resets_capped under the active reset_limit: set once that many automatic resets have taken place in the hour (R101). -/
def Tile.capResets (x : Tile) : Tile :=
  let limit := x.active.resetLimit
  { x with ctl := { x.ctl with
      resetsCapped := x.ctl.resetsCapped || decide (limit ≠ 0 ∧ limit ≤ x.power.autoResets) } }

/-- The banks switch, the new active bank is copied into the other, and TABLES is extended in EARLY and RUN (R22, R244,
R450); a reset_limit now reached caps automatic resets (R101). -/
def switchTables (s : State) (t : TileId) : State :=
  let s := s.modTile t fun x => ({ x with active := x.inactive, switching := none } : Tile).capResets
  if (s.tile t).ctl.state.released then extendTables s t else s

/-- The switch a bank commit waits for; its command completes (R430). -/
def switchBanks (s : State) (t : TileId) : State :=
  match (s.tile t).switching with
  | none => s
  | some h =>
    let s := switchTables s t
    complete s h stOk (tileResp s t)

/-- A bank is written and its commit waits for the switch between two platform commands; a commit already waiting switches first, and a
tile whose platform is held in reset issues no commands and switches at once (R430). -/
def commitBank (s : State) (h : LdId) (t : TileId) (f : Tables → Tables) : Result :=
  let s := (switchBanks s t).modTile t fun x => { x with inactive := f x.active }
  if (s.tile t).ctl.state.released then .wait (s.modTile t fun x => { x with switching := some h })
  else
    let s := switchTables s t
    tileDone s t stOk

/-- A line of the inactive bank does not decode as a command writes it (R448, R450): the command completes with ST_FAULT, and the bank is
copied again from the active one. -/
def bankLost (s : State) (t : TileId) (line : Nat) : Result :=
  let s := lostEvent s (sramLine 1 9 t.val line) 1
  tileDone (s.modTile t fun x => { x with inactive := x.active }) t stFault

/-- The six policy words of TILE_POLICY have no reserved value or bit set (R91, R97, R171, R185, R237, R430). -/
def policyWordsOk (m : Mailbox) : Bool :=
  let w := fun i => (BitVec.ofNat 32 (m.arg (4 + 4 * i) 4))
  decide (w 0 &&& 0x0000C000#32 = 0 ∧ fieldOf (w 0) 9 8 ≠ 3 ∧ w 1 &&& 0xFF000000#32 = 0 ∧ w 2 &&& 0xFFFFFF08#32 = 0 ∧
    w 3 &&& 0x000000E0#32 = 0 ∧ w 4 &&& 0xFFFC00E0#32 = 0)

/-- An opcode table entry has every field in its range (R189, R191). -/
def optEntryOk (e : Word) : Bool :=
  decide (e &&& 0xFC080000#32 = 0 ∧ optIo e ≤ 4) &&
    match optAction e with
    | 1 => decide (optFunc e ≤ 1)
    | 2 => decide (optFunc e ≤ 15)
    | 3 => decide (optFunc e = 0)
    | 4 => decide (optFunc e ≤ 2)
    | _ => true

/-- The words of TILE_FILTER (R189, R214, R430). -/
def filterWordsOk (m : Mailbox) : Bool :=
  let w := fun off => BitVec.ofNat 32 (m.arg off 4)
  decide (w 4 &&& 0xFFFF000E#32 = 0 ∧ w 8 &&& 0xFF000000#32 = 0) &&
    (List.range 256).all fun i => optEntryOk (w (0x0C + 4 * i))

/-! ### TILE_ commands -/

/-- TILE_STATUS (R429). -/
def execTileStatus (h : LdId) (s : State) : Out :=
  runCmd s h { row := 0x200 * 256, modes := servedModes ++ [.lockdown, .provision], len := fixedLen 4, tile := true }
    fun s _ t =>
      let x := s.tile t
      let words := [tState x.ctl, x.ctl.gen, tVerify s t, tProgress x.verify, tWmark x.verify, tRestore s t,
        tUpdate x.update, tTrial x.update, tSweepStat x.sweep, tEaveStat x]
      .done s stOk (words.flatMap (bytesOf 4) ++ leBytes 8 (mfVersion x.force.manifest) ++
        leBytes 4 (mfSvn x.force.manifest) ++ leBytes 1 (svnCount s t.val) ++ leBytes 3 (b01 x.eave.format.isSome) ++
        bytesOf 48 x.force.digest)

/-- TILE_ENABLE (R80, R429): an entry to OFF, at which power_ctl and flash_power come into force (R98). -/
def execTileEnable (h : LdId) (s : State) : Out :=
  runCmd s h (tileCmd (0x201 * 256) 4) fun s _ t =>
    if (s.tile t).ctl.state = .absent then
      let s := changeTile (s.modTile t Tile.loadPower) t .off .enable
      tileDone s t stOk
    else tileDone s t stBadArg

/-- TILE_DISABLE (R74, R80, R429). The spec does not say what becomes of a pending power-on request: the model cancels it with the
tile (DESIGN CHOICE, log entry 66). -/
def execTileDisable (h : LdId) (s : State) : Out :=
  runCmd s h (tileCmd (0x202 * 256) 4) fun s _ t =>
    let x := s.tile t
    if x.ctl.stage ∨ x.eave.format.isSome then tileDone s t stBusy
    else if x.ctl.state = .off then
      let s := changeTile (cancelPower s t) t .absent .disable
      let s := s.modTile t fun x => { x with side := x.side.cleared }
      tileDone s t stOk
    else tileDone s t stBadArg

/-- TILE_POWER on (R80, R88, R429). -/
def execTilePowerOn (h : LdId) (s : State) : Out :=
  runCmd s h (tileCmd (0x203 * 256 + 1) 8) fun s m t =>
    let x := s.tile t
    if m.arg 4 4 ≠ 1 ∨ x.ctl.state ≠ .off then tileDone s t stBadArg
    else if x.eave.format.isSome then tileDone s t stBusy
    else if x.ctl.pwrPending then tileDone s t stOk
    else
      let s := requestPower s t .powerOn
      tileDone s t stOk

/-- TILE_POWER off (R88, R89, R429): in LOCKDOWN too (R64, R102). -/
def execTilePowerOff (h : LdId) (s : State) : Out :=
  runCmd s h (tileCmd (0x203 * 256) 8 (servedModes ++ [.lockdown])) fun s _ t =>
    let x := s.tile t
    if powered x then
      let s := powerDown s t .powerOff
      tileDone s t stOk
    else if x.ctl.state = .off ∧ x.ctl.pwrPending then tileDone (cancelPower s t) t stOk
    else tileDone s t stBadArg

/-- TILE_FETCH (R80, R429). -/
def execTileFetch (h : LdId) (s : State) : Out :=
  runCmd s h (tileCmd (0x204 * 256) 4) fun s _ t =>
    match (s.tile t).ctl.state with
    | .held | .early | .run | .quarantine =>
      let s := enterFetch s t .fetchCmd
      tileDone s t stOk
    | _ => tileDone s t stBadArg

/-- TILE_RESET (R80, R429). -/
def execTileReset (h : LdId) (s : State) : Out :=
  runCmd s h (tileCmd (0x205 * 256) 4) fun s _ t =>
    if (s.tile t).ctl.state.released then
      let s := resetTile s t .tileReset
      tileDone s t stOk
    else tileDone s t stBadArg

/-- TILE_RESTORE (R80, R429). -/
def execTileRestore (h : LdId) (s : State) : Out :=
  runCmd s h (tileCmd (0x206 * 256) 4) fun s _ t =>
    match (s.tile t).ctl.state with
    | .held | .run | .quarantine =>
      if (s.tile t).active.srcEnable = 0 then tileDone s t stNoSource
      else
        let s := enterRestore s t .restoreCmd
        tileDone s t stOk
    | _ => tileDone s t stBadArg

/-- TILE_POLICY (R430): six words into the inactive bank; `lost` is a line of it that does not decode (R450). -/
def execTilePolicy (h : LdId) (lost : Option Nat) (s : State) : Out :=
  runCmd s h (tileCmd (0x207 * 256) 28 (servedModes ++ [.provision])) fun s m t =>
    let w := fun i => BitVec.ofNat 32 (m.arg (4 + 4 * i) 4)
    if !policyWordsOk m then tileDone s t stBadArg
    else match lost with
    | some l => bankLost s t l
    | none => commitBank s h t fun b =>
      { b with policy := w 0, policy2 := w 1, serve := w 2, sweep := w 3, recover := w 4, cls := w 5 }

/-- TILE_FILTER (R430): filter, identification and opcode table into the inactive bank. -/
def execTileFilter (h : LdId) (lost : Option Nat) (s : State) : Out :=
  runCmd s h (tileCmd (0x208 * 256) 0x40C (servedModes ++ [.provision])) fun s m t =>
    let w := fun off => BitVec.ofNat 32 (m.arg off 4)
    if !filterWordsOk m then tileDone s t stBadArg
    else match lost with
    | some l => bankLost s t l
    | none => commitBank s h t fun b =>
      { b with filter := w 4, ident := w 8, optab := Vector.ofFn fun i : Fin 256 => w (0x0C + 4 * i.val) }

/-- The filter switches banks between two platform commands (R22). -/
def execBankSwitch (t : TileId) (s : State) : Out := .next (switchBanks s t)

/-! ### Power -/

/-- The wait of a pending power-on ends (R88, R498). -/
def execPwrEnAssert (t : TileId) (s : State) : Out :=
  inOneCycle s <|
  let x := s.tile t
  if x.ctl.state = .off ∧ x.ctl.pwrPending ∧ !x.power.pwrDropPending ∧ !fusedOff s t then .next (assertPower s t)
  else .next s

/-- pwr_off_delay expires (R89): PLT_PWR_EN is deasserted and t_PWR_OFF_MIN starts. -/
def execPwrOffDelayExpiry (t : TileId) (s : State) : Out :=
  if (s.tile t).power.pwrDropPending then
    .next (s.modTile t fun x =>
      { x with
        ctl := { x.ctl with pwrEn := false }
        power := { x.power with pwrDropPending := false, offUntil := s.attic.tick + msTicks 10 } })
  else .next s

/-! ### Conditioned inputs -/

/-- Qualified edges in the last 32,768 ticks, with one more now (R93). -/
def addEdge (s : State) (edges : List Nat) : List Nat :=
  s.attic.tick :: edges.filter fun k => decide (s.attic.tick < k + 32768)

/-- EVT_INPUT_FAULT (R95, R460): condition 0 CHATTER, 1 STUCK, 2 PGOOD_TIMEOUT; input 0 PLT_PGOOD, 1 PLT_ALERT_N. -/
def inputFault (s : State) (t : TileId) (cond input : Nat) : State :=
  let x := s.tile t
  let edges := if input = 0 then x.power.pgoodEdges else x.power.alertEdges
  raiseT s t 11 (payload [(0, 1, cond), (1, 1, input), (2, 1, x.ctl.state.code), (4, 4, edges.length),
    (8, 4, x.ctl.gen.toNat)])

/-- EVT_PGOOD_CHANGE (R90, R460). -/
def pgoodEvent (s : State) (t : TileId) (level : Nat) (before : TileState) (action : Nat) : State :=
  raiseT s t 9 (payload [(0, 1, level), (1, 1, before.code), (2, 1, action), (4, 4, (s.tile t).ctl.gen.toNat)])

/-- Inputs are conditioned on every tile of the variant while VDD_AON is applied (R92). -/
def conditioned (s : State) (t : TileId) : Bool := s.boot.vddAon && !fusedOff s t

/-- Effective PLT_PGOOD rises: a power-on request under power_ctl EXTERNAL (R80, R90, R102). -/
def pgoodUp (s : State) (t : TileId) : State :=
  let s := s.modTile t fun x => { x with ctl := { x.ctl with pgood := true } }
  let x := s.tile t
  if x.ctl.state = .off ∧ x.power.powerCtl ∧ fetchAllowed s t then requestPower s t .pgoodRise else s

/-- PLT_PGOOD is qualified active (R90, R92, R93). -/
def execPgoodRise (t : TileId) (s : State) : Out :=
  inOneCycle s <|
  if !conditioned s t || (s.tile t).power.pgoodQ then .next s
  else
    let before := (s.tile t).ctl.state
    let edges := addEdge s (s.tile t).power.pgoodEdges
    let s := s.modTile t fun x => { x with power := { x.power with pgoodQ := true, pgoodEdges := edges } }
    if (s.tile t).ctl.pgoodCond ≠ 0 then .next s
    else if 64 < edges.length then
      .next (inputFault (s.modTile t fun x => { x with ctl := { x.ctl with pgoodCond := 1, pgood := false } }) t 0 0)
    else
      let s := pgoodUp s t
      .next (pgoodEvent s t 1 before 0)

/-- PLT_PGOOD is qualified lost (R90, R93): a powered tile is powered down. -/
def execPgoodLoss (t : TileId) (s : State) : Out :=
  inOneCycle s <|
  if !conditioned s t || !(s.tile t).power.pgoodQ then .next s
  else
    let before := (s.tile t).ctl.state
    let was := (s.tile t).ctl.pgood
    let on := powered (s.tile t)
    let edges := addEdge s (s.tile t).power.pgoodEdges
    let s := s.modTile t fun x =>
      { x with
        ctl := { x.ctl with pgood := false }
        power := { x.power with pgoodQ := false, pgoodEdges := edges, settled := false, flashReady := false } }
    let s :=
      if was then
        let s := if on then gateCheck (powerDown s t .pgoodLoss) else s
        pgoodEvent s t 0 before (b01 on)
      else s
    if (s.tile t).ctl.pgoodCond = 0 ∧ 64 < edges.length then
      .next (inputFault (s.modTile t fun x => { x with ctl := { x.ctl with pgoodCond := 1 } }) t 0 0)
    else .next s

/-- t_PGOOD_WAIT expires (R90); not in LOCKDOWN, where a loss of PLT_PGOOD and a power-off are the only transitions (R64). -/
def execPgoodTimeout (t : TileId) (s : State) : Out :=
  inOneCycle s <|
  let x := s.tile t
  if (x.ctl.state = .held ∨ x.ctl.state = .fetch) ∧ x.ctl.pwrEn ∧ !x.ctl.pgood ∧ x.active.pgoodTimeout ≠ 0 ∧
      s.gmode.mode ≠ .lockdown then
    .next (inputFault (powerDown s t .pgoodTimeout) t 2 0)
  else .next s

/-- pgood_settle passes with PLT_PGOOD effectively active (R80). -/
def execPgoodSettled (t : TileId) (s : State) : Out :=
  if (s.tile t).ctl.pgood ∧ powered (s.tile t) then
    .next (s.modTile t fun x => { x with power := { x.power with settled := true } })
  else .next s

/-- The action an alert takes (R91): 0 EVENT, 1 RESET, 2 RECOVER, 0xFF none in this state. -/
def alertActionOf (s : State) (x : Tile) : Nat :=
  if s.gmode.mode = .lockdown ∨ x.active.alertAction = 0 then 0
  else if x.ctl.state.released then x.active.alertAction
  else 0xFF

/-- EVT_ALERT with its action (R91, R460). -/
def takeAlert (s : State) (t : TileId) : State :=
  let before := (s.tile t).ctl.state
  let act := alertActionOf s (s.tile t)
  let s :=
    if act = 2 ∧ before = .run then
      (if (s.tile t).active.srcEnable = 0 then s else enterRestore s t .alertRecover)
    else if act = 1 ∨ act = 2 then resetTile s t .alertReset
    else s
  raiseT s t 10 (payload [(0, 1, act), (1, 1, before.code), (4, 4, (s.tile t).ctl.gen.toNat)])

/-- PLT_ALERT_N is qualified asserted (R91, R93); an assertion while it was asserted means a release went before it. -/
def execAlertAssert (t : TileId) (s : State) : Out :=
  inOneCycle s <|
  if !conditioned s t then .next s
  else
    let x := s.tile t
    let edges := addEdge s (if x.power.alertQ then addEdge s x.power.alertEdges else x.power.alertEdges)
    let s := s.modTile t fun x => { x with power := { x.power with alertQ := true, alertEdges := edges } }
    if x.ctl.alertCond = 1 then .next s
    else if 64 < edges.length then
      .next (inputFault (s.modTile t fun x => { x with ctl := { x.ctl with alertCond := 1, alert := false } }) t 0 1)
    else
      .next (takeAlert (s.modTile t fun x => { x with ctl := { x.ctl with alertCond := 0, alert := true } }) t)

/-- An input has been quiet for 32,768 ticks and leaves CHATTER with its qualified level, without an event (R93, R95). -/
def execChatterExit (t : TileId) (alert : Bool) (s : State) : Out :=
  inOneCycle s <|
  let x := s.tile t
  if alert then
    if x.ctl.alertCond = 1 then
      .next (s.modTile t fun x =>
        { x with
          ctl := { x.ctl with alertCond := 0, alert := x.power.alertQ }, power := { x.power with alertEdges := [] } })
    else .next s
  else if x.ctl.pgoodCond = 1 then
    let s := s.modTile t fun x =>
      { x with ctl := { x.ctl with pgoodCond := 0 }, power := { x.power with pgoodEdges := [] } }
    if x.power.pgoodQ then .next (pgoodUp s t) else .next s
  else .next s

/-- PLT_ALERT_N has been active for 10 s (R94, R95). -/
def execAlertStuck (t : TileId) (s : State) : Out :=
  inOneCycle s <|
  let x := s.tile t
  if conditioned s t && x.power.alertQ && decide (x.ctl.alertCond = 0) then
    .next (inputFault (s.modTile t fun x => { x with ctl := { x.ctl with alertCond := 2, alert := false } }) t 1 1)
  else .next s

/-- PLT_ALERT_N is qualified inactive (R94): STUCK ends. -/
def execAlertUnstuck (t : TileId) (s : State) : Out :=
  inOneCycle s <|
  if !conditioned s t || !(s.tile t).power.alertQ then .next s
  else
    let edges := addEdge s (s.tile t).power.alertEdges
    let s := s.modTile t fun x =>
      { x with
        ctl := { x.ctl with alert := false, alertCond := if x.ctl.alertCond = 2 then 0 else x.ctl.alertCond }
        power := { x.power with alertQ := false, alertEdges := edges } }
    if (s.tile t).ctl.alertCond = 0 ∧ 64 < edges.length then
      .next (inputFault (s.modTile t fun x => { x with ctl := { x.ctl with alertCond := 1 } }) t 0 1)
    else .next s

/-- The operating hour of the reset limit ends (R101). -/
def execResetLimitHourEnd (t : TileId) (s : State) : Out :=
  .next (s.modTile t fun x =>
    { x with ctl := { x.ctl with resetsCapped := false }, power := { x.power with autoResets := 0 } })

end Sys2Proof.Machine
end

