-- ==== Sys2Proof/Machine/Gutter.lean ====
section
/-! DEFINITION. The recorder: appends, drops and the journal (R465 to R476), LOG_ and CAL_ commands (R437, R463, R502). -/

namespace Sys2Proof.Machine

open Sys2Proof

/-- RECORD (R467, R469): one append; `lost` is the line of its ring slot where that does not decode. -/
def execRecord (lost : Option Nat) (s : State) : Out := .next (recordOne lost s)

/-! ### The journal (R472 to R475) -/

/-- Records the journal area holds. -/
def journalSlots : Nat := 131072

/-- Records in a journal unit: the smallest erase of at least 4 KiB the flash offers. -/
def unitRecords (s : State) : Nat :=
  match s.purlin.disc with
  | some d => d.eraseUnit / 64
  | none => 64

/-- A unit of the journal is erased (R469, R472): the records it held are gone, with EVD_GUTTER_WRAP. -/
def eraseUnit (s : State) (u : Nat) : State :=
  let n := unitRecords s
  let u := u % (journalSlots / n)
  let kept := s.gutter.journal.filter fun x => decide (x.1 / n ≠ u)
  if kept.length = s.gutter.journal.length then s
  else
    let s := { s with gutter := { s.gutter with journal := kept } }
    wrapEvent s 1 (journalLow s.gutter)

/-- The writer's place before it programs: at the start of the next unit where it must start a fresh one, with the next
unit erased ahead. -/
def journalPlace (s : State) : State :=
  let n := unitRecords s
  let g := s.gutter
  let pos := if g.jUnit then (g.jPos + n - 1) / n * n % journalSlots else g.jPos
  let s := { s with gutter := { g with jPos := pos, jUnit := false } }
  let s := if g.jUnit then eraseUnit s (pos / n) else s
  if pos % n = 0 then eraseUnit s (pos / n + 1) else s

/-- The record of a sequence number is journalled at the writer's place. -/
def journalOne (s : State) : State :=
  match s.gutter.ring.find? fun r => decide (s.gutter.jSeq < r.seq) with
  | none => s
  | some r =>
    let s := journalPlace s
    let g := s.gutter
    { s with gutter := { g with
        journal := g.journal ++ [(g.jPos, r)], jSeq := r.seq, jPos := (g.jPos + 1) % journalSlots } }

/-- A run of at most four records within one page has been programmed (R472); one that failed leaves the records pending. -/
def execJournalWriteDone (n : Nat) (ok : Bool) (s : State) : Out :=
  if s.gutter.jState ≠ 1 ∨ s.purlin.state ≠ 1 ∨ !ok then .next s
  else .next ((List.range (min n (4 - s.gutter.jPos % 4))).foldl (fun s _ => journalOne s) s)

/-- The counters restored from the journal head after a loss of VDD_AON, with the stamps of what waits raised by the same
amounts (R491). -/
def restoreCounters (s : State) (head : Waiting) : State :=
  if !s.attic.countersFresh then s
  else
    let cycles := (head.cycles + 1) % 2 ^ 32
    let up := fun now old new : Nat => (old + (new + 2 ^ 32 - now % 2 ^ 32)) % 2 ^ 32
    let h := fun x => up s.attic.hours x head.hours
    let c := fun x => up s.attic.cycles x cycles
    { s with
      attic := { s.attic with hours := head.hours, cycles := cycles }
      gutter := { s.gutter with
        queue := s.gutter.queue.map fun w => { w with hours := h w.hours, cycles := c w.cycles }
        episode := s.gutter.episode.map fun e => { e with hours := h e.hours, cycles := c e.cycles } } }

/-- The journal with its last record, whose slot is `pos`, set aside where its MAC does not follow from its predecessor's (R474); a
record without a predecessor cannot be checked. The answer says whether one was. -/
def setAsideTorn (key : Digest) (j : List (Nat × Record)) : List (Nat × Record) × Bool :=
  match j.reverse with
  | (_, r) :: (k, p) :: rest =>
    if r.mac = chainMac key p.mac r.seq r.body then (j, false) else (((k, p) :: rest).reverse, true)
  | _ => (j, false)

/-- The head search ends (R470, R474): `torn` is whether an incomplete record stands after the head; a head that fails its MAC is torn
too, and its predecessor becomes the head. -/
def execJournalHeadFound (torn : Bool) (s : State) : Out :=
  inOneCycle s <|
  if s.gutter.started ∨ s.gutter.overwrite ∨ s.purlin.state ≠ 1 ∨ !s.boot.underlayDone then .next s
  else
    let (journal, aside) := if torn then (s.gutter.journal, false) else setAsideTorn s.keys.journalKey s.gutter.journal
    let torn := torn || aside
    let s := { s with gutter := { s.gutter with journal := journal } }
    let s := match s.gutter.journal.getLast? with
      | some (_, j) => restoreCounters s j.body
      | none => s
    let g := s.gutter
    let g :=
      match g.journal.getLast? with
      | some (pos, j) => { g with
          seq := max s.attic.keptSeq (j.seq + 16384), mac := j.mac, jSeq := j.seq, jHead := j.seq
          jPos := (pos + 1 + b01 torn) % journalSlots, jUnit := torn }
      | none => { g with seq := s.attic.keptSeq, mac := 0, jSeq := 0, jHead := 0, jPos := b01 torn, jUnit := torn }
    .next { s with gutter := { g with started := true, jState := 1, scanning := true, torn := torn } }

/-- Sequence number of the first record whose MAC does not follow from the one before it, given the MAC before the first; none where that is
not known (R473, R474). -/
def firstBadMac (key : Digest) (before : Option (BitVec 64)) : List Record → Option Nat
  | [] => none
  | r :: rest =>
    match before with
    | some m => if r.mac = chainMac key m r.seq r.body then firstBadMac key (some r.mac) rest else some r.seq
    | none => firstBadMac key (some r.mac) rest

/-- The MAC before the oldest record (R473): 8 zero bytes for the first one ever journalled. In a journal that may have wrapped, all but
two of whose units hold records, that record is gone, and nothing says what its MAC was (DEDUCED, log entry 88). -/
def macBefore (s : State) : Option (BitVec 64) :=
  let n := unitRecords s
  let units := (s.gutter.journal.map fun x => x.1 / n).eraseDups
  if units.length + 2 < journalSlots / n then some 0 else none

/-- The chain scan ends (R466, R474): verdict and JOURNAL_RESUME note. -/
def execJournalScanDone (s : State) : Out :=
  inOneCycle s <|
  if !s.gutter.scanning then .next s
  else
    let old := (s.gutter.journal.map (·.2)).filter fun r => decide (r.seq ≤ s.gutter.jHead)
    let bad := firstBadMac s.keys.journalKey (macBefore s) old
    let cycles := match old.getLast? with | some j => j.body.cycles | none => 0
    let verdict :=
      if s.gutter.jHead = 0 then 1
      else if bad.isSome then 3
      else if s.gutter.torn then 2
      else if cycles + 1 ≠ s.attic.cycles then 4
      else 0
    let s := { s with gutter := { s.gutter with scanning := false, verdict := BitVec.ofNat 3 verdict } }
    .next (note s 0x01 (if verdict = 3 then 3 else 1) 0xFF
      (payload [(0, 1, verdict), (4, 4, old.length), (8, 8, s.gutter.jHead), (0x10, 4, cycles), (0x18, 8, bad.getD 0)]))

/-! ### LOG_ and CAL_ commands -/

/-- The response of a LOG_READ over records in ascending order. -/
def logResponse (s : State) (rs : List Record) (low : Nat) (m : Mailbox) : Result :=
  let out := (rs.filter fun r => decide (m.arg 4 8 ≤ r.seq)).take (m.arg 1 1)
  .done s stOk (leBytes 8 low ++ leBytes 4 out.length ++ leBytes 4 s.gutter.drops ++ out.flatMap recordBytes)

def logModes : List DevMode := servedModes ++ [.provision, .lockdown, .depot]

/-- A LOG_READ request is well formed. -/
def logReadOk (m : Mailbox) : Bool := decide (m.arg 0 1 ≤ 1 ∧ 1 ≤ m.arg 1 1 ∧ m.arg 1 1 ≤ 127) && m.zero 2 2

/-- LOG_READ of the ring (R437); a source other than 0 and 1 is refused here. -/
def execLogReadRing (h : LdId) (s : State) : Out :=
  runCmd s h { row := 0x700 * 256, modes := logModes, len := fixedLen 12 } fun s m _ =>
    if !logReadOk m then .done s stBadArg [] else logResponse s s.gutter.ring (ringLow s.gutter) m

/-- LOG_READ of the journal (R437, R476); the boot ROM of GATE, AWAIT and LOAD does not read it. -/
def execLogReadJournal (h : LdId) (s : State) : Out :=
  runCmd s h { row := 0x700 * 256 + 1, pre := fun s _ => if bootRomMode s.gmode.mode then stBusy else 0
               modes := logModes, len := fixedLen 12 } fun s m _ =>
    if !logReadOk m ∨ s.gutter.overwrite then .done s stBadArg []
    else if s.purlin.state ≠ 1 then .done s stFault []
    else if s.gutter.jState = 0 then .done s stBusy []
    else logResponse s (s.gutter.journal.map (·.2)) (journalLow s.gutter) m

/-- Length LOG_ROUTE accepts: its count of vectors. -/
def logRouteLen (_ : State) (m : Mailbox) : Nat :=
  let n := m.length.toNat
  let k := m.arg 2 2
  if n < 4 then stShort
  else if k = 0 ∨ 512 < k then 0
  else if n < 4 + k then stShort else if 4 + k < n then stLong else 0

/-- LOG_ROUTE (R437, R463): the routing of the sender's own function. -/
def execLogRoute (h : LdId) (s : State) : Out :=
  runCmd s h { row := 0x701 * 256, modes := servedModes ++ [.lockdown], len := logRouteLen } fun s m _ =>
    let first := m.arg 0 2
    let n := m.arg 2 2
    let vs := m.bytes 4 n
    if n = 0 ∨ 512 < n ∨ 512 < first + n ∨ vs.any (fun v => decide (64 ≤ v.toNat) && v != 0xFF#8) then .done s stBadArg []
    else .done (s.modFn h fun e => { e with routes := Memory.write 0xFF e.routes first vs }) stOk []

/-- CAL_READ (R502). -/
def execCalRead (h : LdId) (s : State) : Out :=
  runCmd s h { row := 0x900 * 256, modes := servedModes ++ [.provision], len := fixedLen 0 } fun s _ _ =>
    if s.purlin.state ≠ 1 then .done s stFault [] else .done s stOk (storedCal s)

/-- CAL_WRITE (R502): a read-back that differs leaves the unit erased. -/
def execCalWrite (h : LdId) (readBackOk : Bool) (s : State) : Out :=
  runCmd s h { row := 0x901 * 256, modes := [.serve, .doze, .barren, .provision], len := fixedLen 1024, role := ownerOnly }
    fun s m _ =>
    let b := m.bytes 0 1024
    if !calValid b then .done s stBadArg []
    else if s.purlin.state ≠ 1 then .done s stFault []
    else
      let erased := Memory.erase s.purlin.contents 0 0x1000
      if readBackOk then
        .done { s with
          purlin := { s.purlin with contents := Memory.write 0xFF erased 0 b }, cal := { s.cal with pending := true } } stOk []
      else
        let s := { s with purlin := { s.purlin with contents := erased } }
        .done (purlinFault s 4 s.purlinCode 0 0 0) stFault []

end Sys2Proof.Machine
end

