-- ==== Sys2Proof/Machine/Discover.lean ====
section
/-! DEFINITION. Discovery of a flash from what it answers (R342 to R345, R349). -/

namespace Sys2Proof.Machine

open Sys2Proof

/-- The clock steps of a port in MHz (R342). -/
def clockSteps : List Nat := [50, 100, 133, 166, 200]

/-- The limit on a profile's SCK in MHz: its maximum, the flash's, and 100 MHz for 8D-8D-8D on a port without trim (R342, R344). -/
def sckLimit (trimmed : Bool) (a : FlashAnswer) (code : Nat) : Nat :=
  min a.maxMHz (if code = 7 then (if trimmed then 200 else 100) else 133)

/-- The highest clock step within a limit, as the code of the sck field (R342, R361). -/
def sckStep (limit : Nat) : Nat := (clockSteps.filter (· ≤ limit)).length - 1

/-- The dummy cycles of a read (R344): for 8D-8D-8D the count listed for the highest of 200, 166, 133 and 100 MHz within the limit,
a free count where none is; for the others the BFPT's. -/
def dummyCount (limit : Nat) (m : ReadMode) : BitVec 5 :=
  let listed := fun f => (m.dummies.find? fun d => decide (d.1 = f)).map (·.2)
  if m.code = 7 then
    (([200, 166, 133, 100].filter (· ≤ limit)).findSome? listed).getD (BitVec.ofNat 5 (Config.freeNat limit))
  else match m.dummies with
    | d :: _ => d.2
    | [] => 0

/-- A flash advertises a mode by all that the table of read profiles asks of it (R342). -/
def advertises (a : FlashAnswer) (m : ReadMode) : Bool :=
  match m.code with
  | 0 => false
  | 7 => a.xspi && a.ddrSteps && a.inverted.isSome
  | 6 => a.inverted.isSome
  | _ => true

/-- The mode entered: the highest-coded one advertised in which the header reads the same (R343 steps 5 and 6, R344). -/
def bestMode (a : FlashAnswer) : Option ReadMode :=
  (a.modes.filter fun m => advertises a m && m.checks).foldl (fun b m => match b with
    | some x => if x.code.val < m.code.val then some m else some x
    | none => some m) none

/-- The result of a discovery that ends before a profile is entered (R345): 1 NO_SIGNATURE, 2 REVISION, 3 UNSUPPORTED. -/
def discoveryRefusal (a : FlashAnswer) : Option (Fin 5) :=
  if a.signature ≠ 0x50444653 then some 1
  else if a.revision < 0x106 ∨ a.dwords < 16 then some 2
  else if a.density < 20 ∨ 32 < a.density ∨ (24 < a.density ∧ !a.fourByte) ∨ !a.modes.any (fun m => decide (m.code = 1)) ∨
      a.maxMHz < 50 then some 3
  else none

/-- A discovery without a profile: it keeps the density last discovered, which EVT_FLASH_FAULT reports (R345, R354). -/
def noProfile (clk : BitVec 2) (old : Option Discovery) (r : Fin 5) : Discovery where
  result := r; profile := 0; sck := 0; dummy := 0; addr4 := false; flagPoll := false; suspend := false; omitRead := false
  density := match old with | some d => d.density | none => 0
  erases := []; progTypUs := 0; progMaxUs := 0; quadProg := false; clkMode := clk; page := 0; id := 0; inverted := false; regAddr := 0; regDummy := 0

/-- What discovery finds on a port with or without trim, in the clock mode calibration gives it (R343 to R345, R349). -/
def discover (trimmed : Bool) (clk : BitVec 2) (old : Option Discovery) (a : FlashAnswer) : Discovery :=
  match discoveryRefusal a, bestMode a with
  | some r, _ => noProfile clk old r
  | none, none => noProfile clk old 4
  | none, some m =>
    let limit := sckLimit trimmed a m.code.val
    { result := 0, profile := BitVec.ofNat 3 m.code.val, sck := BitVec.ofNat 3 (sckStep limit), dummy := dummyCount limit m
      addr4 := decide (24 < a.density), flagPoll := a.flagPoll, suspend := a.suspend, omitRead := m.continuous
      density := BitVec.ofNat 6 a.density, erases := a.erases, progTypUs := a.progTypUs, progMaxUs := a.progMaxUs
      quadProg := a.quadProg, clkMode := clk
      page := BitVec.ofNat 2 a.page.val, id := a.id, inverted := a.inverted.getD false, regAddr := a.regAddr
      regDummy := a.regDummy }

/-- Clock mode of a port from the calibration block, 0 without one (R349, R500). -/
def clockMode (s : State) (p : Nat) : BitVec 2 :=
  if s.cal.block = [] then 0 else BitVec.ofNat 2 (leAt (0x080 + 12 * p + 9) 1 s.cal.block)

/-- A discovery on a port. -/
def discoverOn (s : State) (port : Nat) (old : Option Discovery) (a : FlashAnswer) : Discovery :=
  discover (eaveTrimmed s port) (clockMode s port) old a

end Sys2Proof.Machine
end

