-- ==== Sys2Proof/Machine/Verify.lean ====
section
/-! DEFINITION. Fetching and verifying images (R129 to R159): discovery, selection, manifest, tree, OPEN and stream, the
per-leaf path, WATCHED regions, re-release and early release. -/

namespace Sys2Proof.Machine

open Sys2Proof

/-! ### Flashes of a tile -/

def State.modVer (s : State) (t : TileId) (f : TileVerify → TileVerify) : State :=
  s.modTile t fun x => { x with verify := f x.verify }

/-- The discovery of one flash. -/
def flashDisc (x : Tile) (twin : Bool) : Option Discovery := if twin then x.eave.twin else x.eave.main

/-- The last failed entry on a flash since its last good work (R354): its completion code, its address and its command; with none, the unit
that differs. -/
def failedEntry (x : Tile) (twin : Bool) (unit : Nat) : Nat × Nat × Nat :=
  match (if twin then x.eave.twinFailed else x.eave.mainFailed) with
  | some e => (entryField e 2 31 28, entryAddress e, entryCommand e)
  | none => (0, unit, 0)

/-- A flash's work went well: no failed entry is left to report. -/
def Tile.clearFailed (x : Tile) (twin : Bool) : Tile :=
  { x with eave := { x.eave with
      mainFailed := if twin then x.eave.mainFailed else none, twinFailed := if twin then none else x.eave.twinFailed } }

/-- EVT_FLASH_FAULT (R354). -/
def flashFault (s : State) (t : TileId) (reason : Nat) (twin : Bool) (error work addr cmd attempts count given : Nat) :
    State :=
  let x := s.tile t
  let density := match flashDisc x twin with | some d => d.density.toNat | none => 0
  raiseT s t 12 (payload [(0, 1, reason), (1, 1, b01 twin), (2, 1, error), (3, 1, work), (4, 4, addr), (8, 4, cmd),
    (0x0C, 1, density), (0x0D, 1, attempts), (0x0E, 2, (if twin then x.eave.twinId else x.eave.mainId).toNat),
    (0x10, 4, count), (0x14, 1, given)])

/-- Whether a flash was given up or found absent in this fetch. -/
def TileVerify.gone (v : TileVerify) (twin : Bool) : Bool := if twin then v.twinFault else v.mainFault

/-- A flash may be read in this fetch or restore: fitted, answering, not down and not given up (R147, R218). -/
def flashUsable (x : Tile) (twin : Bool) : Bool := (if twin then twinUp x else mainUp x) && !x.verify.gone twin

/-- The other flash may be read in this fetch. -/
def otherUsable (x : Tile) : Bool := flashUsable x (!x.verify.readTwin)

/-- A flash becomes the read source. -/
def TileVerify.readFrom (v : TileVerify) (twin : Bool) : TileVerify :=
  { v with readTwin := twin, source := if v.source.toNat ≤ 1 then BitVec.ofNat 8 (b01 twin) else v.source }

/-- A flash is given up for the rest of the fetch; the other becomes the read source where it is available (R135, R136). -/
def Tile.giveUp (x : Tile) (twin : Bool) : Tile :=
  let v := { x.verify with mainFault := x.verify.mainFault || !twin, twinFault := x.verify.twinFault || twin }
  { x with verify := if v.readTwin = twin && flashUsable x (!twin) then v.readFrom (!twin) else v }

/-- The walker reads no flash marked down (R147): where the read source is, the other becomes it if it is available. -/
def Tile.turnSource (x : Tile) : Tile :=
  if !flashUsable x x.verify.readTwin && otherUsable x then { x with verify := x.verify.readFrom (!x.verify.readTwin) } else x

/-- The walker's turn at the tile's port (R203): no ruled write is queued, or a read of the walker's is in transfer, which is never
interrupted. -/
def walkerTurn (x : Tile) : Bool :=
  (decide (x.filter.queue = []) && decide (x.filter.committing = [])) ||
    match x.eave.current.bind fun k => x.eave.queue[k]? with
    | some e => decide (e.2 = .walker)
    | none => false

/-- Erase unit of a flash: the smallest of at least 4 KiB it offers (R181). -/
def eraseUnitOf (d : Option Discovery) : Nat :=
  match d with
  | some d => d.eraseUnit
  | none => 0x1000

/-- A repair of the unit at an address joins the queue of 256 units (R181). -/
def queueRepair (s : State) (t : TileId) (twin : Bool) (addr : Nat) : State :=
  s.modTile t fun x =>
    let u := eraseUnitOf (flashDisc x twin)
    let unit := addr / u * u
    let q := x.sweep.repairs
    if q.any (fun r => r.twin = twin && r.addr = unit) || decide (256 ≤ q.length) then x
    else { x with sweep := { x.sweep with repairs := q ++ [{ twin := twin, addr := unit, tries := 0, begun := false }] } }

/-! ### Discovery and selection (R129, R134, R343) -/

/-- A flash found absent in a fetch: EVT_FLASH_FAULT with reason ABSENT (R134, R354). -/
def absentFault (s : State) (t : TileId) (twin : Bool) (d : Discovery) : State :=
  if d.result.val = 0 then s else flashFault s t 0 twin d.result.val 0 0xFFFFFFFF 0 (min 0xFF (s.tile t).verify.discTries) 0 0

/-- The discovery of a tile's flashes is entered (R343, R361). -/
def enterDiscovery (x : Tile) (main twin : Discovery) (twinFitted : Bool) : Tile :=
  let ok := fun d : Discovery => decide (d.result.val = 0)
  { x with
    eave := { x.eave with
      main := some main, twin := if twinFitted then some twin else none, twinFitted := twinFitted
      mainShown := true, twinShown := true, mainFailed := none, twinFailed := none
      mainId := if ok main then main.id else x.eave.mainId
      twinId := if twinFitted && ok twin then twin.id else x.eave.twinId
      readId := if ok main then main.id else if twinFitted && ok twin then twin.id else x.eave.readId }
    sweep := { x.sweep with
      densityMain := if ok main then main.density.toNat else x.sweep.densityMain
      densityTwin := if twinFitted && ok twin then twin.density.toNat else x.sweep.densityTwin }
    restore := { x.restore with mainOut := false, twinOut := false } }

/-- The discovery of a fetch ends (R88, R134, R343), from what the flashes answered: with no flash answering the fetch fails with cause
FLASH, but under the boot ROM it is repeated until flash_ready after PLT_PGOOD. It begins once no program or erase is in progress on
either flash. -/
def discovered (s : State) (t : TileId) (mainAnswer twinAnswer : FlashAnswer) (twinFitted : Bool) : State :=
  if (s.tile t).ctl.state ≠ .fetch ∨ (s.tile t).verify.phase ≠ 1 ∨ !fetchAllowed s t ∨ (s.tile t).eave.mainWork.isSome ∨
      (s.tile t).eave.twinWork.isSome then s
  else
    let s := s.modVer t fun v => { v with discTries := v.discTries + 1 }
    let main := discoverOn s t.val (s.tile t).eave.main mainAnswer
    let twin := discoverOn s t.val (s.tile t).eave.twin twinAnswer
    let s := s.modTile t fun x => enterDiscovery x main twin twinFitted
    let mainOk := decide (main.result.val = 0)
    let twinOk := twinFitted && decide (twin.result.val = 0)
    if !mainOk ∧ !twinOk ∧ bootRomMode s.gmode.mode ∧ !(s.tile t).power.flashReady then s
    else
      let s := s.modVer t fun v => { v with mainFault := !mainOk, twinFault := !twinOk, readTwin := !mainOk && twinOk }
      let s := absentFault s t false main
      let s := if twinFitted then absentFault s t true twin else s
      if !mainOk ∧ !twinOk then failFetch s t 0x12 .none
      else s.modVer t fun v => { v with phase := 2, source := BitVec.ofNat 8 (b01 v.readTwin) }

/-- DISCOVER ends (R343). -/
def execDiscoveryDone (t : TileId) (main twin : FlashAnswer) (twinFitted : Bool) (s : State) : Out :=
  inOneCycle s <|
  .next (discovered s t main twin twinFitted)

/-- The repeated discovery of R88 ends. -/
def execDiscoveryRetryExpiry (t : TileId) (main twin : FlashAnswer) (twinFitted : Bool) (s : State) : Out :=
  inOneCycle s <|
  if bootRomMode s.gmode.mode then .next (discovered s t main twin twinFitted) else .next s

/-- PLT_PGOOD has been effectively active for flash_ready (R88): under flash_power PLATFORM the fetch begins. -/
def execFlashReadyExpiry (t : TileId) (s : State) : Out :=
  let x := s.tile t
  if !x.ctl.pgood ∨ !powered x then .next s
  else
    .next (s.modTile t fun x =>
      { x with
        power := { x.power with flashReady := true }
        verify := if x.ctl.state = .fetch ∧ x.verify.phase = 0 then { x.verify with phase := 1 } else x.verify })

/-- A switch record is whole (R128): magic, state and crc. -/
def switchOk (r : List Byte) : Bool :=
  decide (leAt 0 4 r = 0x52575342 ∧ leAt 8 1 r ≤ 1 ∧ 1 ≤ leAt 9 1 r ∧ leAt 9 1 r ≤ 3 ∧
    leAt 0x1C 4 r = (crc32 (r.take 0x1C)).toNat)

/-- A slot of the switch-record area that no record has been written to (R133). -/
def erasedSlot (r : List Byte) : Bool := r.all (· = 0xFF)

/-- The slots read of one half of the area, from its slots in order: whole units of 4 KiB up to the first with an erased slot
(R133). -/
def halfRead (slots : List (List Byte)) : List (List Byte) :=
  let full := (List.range 8).takeWhile fun u =>
    let unit := (slots.drop (128 * u)).take 128
    decide (unit.length = 128) && unit.all fun r => !erasedSlot r
  slots.take (128 * (full.length + 1))

/-- The slots that SELECT reads of a flash's area, by number (R128, R133); slots past the end of the list are erased. -/
def areaSlots (slots : List (List Byte)) : List (Nat × List Byte) :=
  ((halfRead (slots.take 1024)).mapIdx fun i r => (i, r)) ++
    ((halfRead ((slots.drop 1024).take 1024)).mapIdx fun i r => (1024 + i, r))

/-- The record with the highest seq. The spec does not say which of two differing records of one seq decides: the model takes the
one read first, main's before the twin's (DESIGN CHOICE, log entry 67). -/
def newestRecord (rs : List (List Byte)) : Option (List Byte) :=
  rs.foldl (fun best r => match best with
    | none => some r
    | some b => if leAt 4 4 b < leAt 4 4 r then some r else best) none

/-- SELECT ends (R129, R232): each flash's records, none where its area could not be read; the first 16 bytes of the
manifest digest standing in each slot. -/
def execSelectDone (t : TileId) (main twin : Option (List (List Byte))) (slotA slotB : BitVec 128) (s : State) : Out :=
  inOneCycle s <|
  let v := (s.tile t).verify
  if (s.tile t).ctl.state ≠ .fetch ∨ v.phase ≠ 2 ∨ !fetchAllowed s t ∨ !walkerTurn (s.tile t) then .next s
  else
    let main := if v.mainFault then some [] else main
    let twin := if v.twinFault then some [] else twin
    let main := main.map areaSlots
    let twin := twin.map areaSlots
    let lost := if v.readTwin then twin.isNone else main.isNone
    let usable := (!v.mainFault && main.isSome) || (!v.twinFault && twin.isSome)
    let s :=
      if lost then
        let e := failedEntry (s.tile t) v.readTwin 0x20000
        let s := flashFault s t 1 v.readTwin e.1 1 e.2.1 e.2.2 2 0 1
        s.modTile t fun x => x.giveUp x.verify.readTwin
      else s
    if !usable then .next (failFetch s t 0x12 .none)
    else
      let area := if (main.getD []).isEmpty then twin.getD [] else main.getD []
      let whole := ((main.getD [] ++ twin.getD []).map (·.2)).filter switchOk
      let valid := whole.filter fun r =>
        ofBytes 128 (slice 0x0C 16 r) == (if leAt 8 1 r = 1 then slotB else slotA)
      let pick := newestRecord valid
      let seq := match newestRecord whole with | some r => leAt 4 4 r | none => 0
      .next (s.modTile t fun x =>
        { x with
          verify := { x.verify with
            phase := 3
            partition := match pick with | some r => decide (leAt 8 1 r = 1) | none => false
            trialFetch := match pick with | some r => decide (leAt 9 1 r = 1) | none => false
            source := BitVec.ofNat 8 (b01 x.verify.readTwin) }
          update := { x.update.select (match pick with | some r => decide (leAt 8 1 r = 1) | none => false) with
            switchSeq := seq, records := area.filter fun r => !erasedSlot r.2
            selDigest := match pick with | some r => ofBytes 128 (slice 0x0C 16 r) | none => 0 } })

/-! ### WATCHED regions and failures (R153, R157) -/

/-- A block is settled: verified, or in a held region. -/
def TileVerify.settledBlock (v : TileVerify) (b : Nat) : Bool := decide (b ∈ v.verified ∨ b ∈ v.held)

/-- The run of blocks of T_PROGRESS follows the flags. -/
def progress (v : TileVerify) : TileVerify :=
  { v with prefixLen := prefixFrom v (blockCount v.manifest) 0 }

/-- A bad WATCHED block fails its region (R153, R248). -/
def watchedBad (s : State) (t : TileId) (b region : Nat) : State :=
  if (s.tile t).active.watchedRestore then
    failFetch s t 0x13 { level := 0, region := region, index := b } .watchedFail
  else if b ∈ (s.tile t).verify.held then s
  else
    let v := (s.tile t).verify
    let p := failPayload 0x13 v.phase.toNat v.source.toNat (b01 v.partition) 0 region b 0 v.digest
    let s := s.modVer t fun v =>
      let blocks := (List.range (blockCount v.manifest)).filter fun k => decide (regionOfBlock v.manifest k = some region)
      { v with held := blocks ++ v.held, watchedHeld := true, region := BitVec.ofNat 5 region, cause := 0x13 }
    lifeRecord (raiseT s t 2 p) t 0x03 region (s.tile t).verify.digest

/-! ### Content taken from the other flash (R136, R144, R145) -/

/-- Block or node content of a flash was taken from the other: counted, reported and queued for repair; the eighth block gives
the flash up as read source. -/
def replaced (s : State) (t : TileId) (twin : Bool) (addr : Nat) (block : Bool) : State :=
  let s := s.modVer t fun v =>
    let v := if block then
        { v with
          replaced := v.replaced + 1, replMain := v.replMain + b01 (!twin), replTwin := v.replTwin + b01 twin }
      else v
    v
  let v := (s.tile t).verify
  let first := !(if twin then v.mismTwin else v.mismMain)
  let s :=
    if first then
      let s := s.modVer t fun v => { v with mismMain := v.mismMain || !twin, mismTwin := v.mismTwin || twin }
      flashFault s t 2 twin 0 1 addr 0 1 v.replaced 0
    else s
  let s := queueRepair s t twin addr
  if block ∧ (if twin then v.replTwin else v.replMain) = 8 ∧ flashUsable (s.tile t) (!twin) ∧ !(s.tile t).verify.gone twin then
    (flashFault s t 2 twin 0 1 addr 0 1 v.replaced 1).modTile t fun x => x.giveUp twin
  else s

/-! ### Blocks and groups (R142 to R146) -/

/-- A block lands in the copy area, its slot filled up with 0xFF (R146). -/
def storeBlock (s : State) (t : TileId) (b : Nat) (data : List Byte) : State :=
  s.modTile t fun x =>
    { x with mem := { x.mem with copy := Memory.write 0xFF x.mem.copy (4096 * b) (padTo 4096 0xFF (data.take 4096)) } }

/-- A block's verified flag is set. -/
def setVerified (s : State) (t : TileId) (b : Nat) : State :=
  s.modVer t fun v => if v.settledBlock b then v else { v with verified := b :: v.verified }

/-- A level-1 node is held for the copy (R180, R442). -/
def storeNode1 (s : State) (t : TileId) (g : Nat) (node : List Byte) : State :=
  s.modTile t fun x => { x with mem := { x.mem with tree := assocSet x.mem.tree g node } }

/-- The walker still runs for the tile. -/
def walking (s : State) (t : TileId) : Bool :=
  let v := (s.tile t).verify
  decide (v.phase ≠ 0 ∧ v.phase ≠ 8 ∧ v.phase ≠ 9)

/-- The per-leaf path of one block of a group read from a flash, the read source or the one it was before (R144, R156): only block_len bytes
are read and hashed (R146). -/
def leafPath (t : TileId) (twin : Bool) (node : List Byte) (g : Nat) (r : GroupRead) (s : State) (k : Nat) : State :=
  let b := 32 * g + k
  if !walking s t ∨ blockCount (s.tile t).verify.manifest ≤ b then s
  else
    let m := (s.tile t).verify.manifest
    let want := nodeEntry node k
    let twin := if k ∈ r.kept then !twin else twin
    let data := (r.blocks.getD k []).take (blockLen m b)
    let (s, ok) := settleCmp s t.val (Config.sha384 data) want (r.leafRuns.getD k noRuns)
    if ok then setVerified (storeBlock s t b data) t b
    else
      let other := if flashUsable (s.tile t) (!twin) then assocGet r.others b else none
      match other with
      | some x =>
        let x := x.take (blockLen m b)
        let (s, ok) := settleCmp s t.val (Config.sha384 x) want (r.otherLeafRuns.getD k noRuns)
        if ok then
          let s := setVerified (storeBlock s t b x) t b
          replaced s t twin (blockAddr m (s.tile t).verify.partition b) true
        else badBlock s t m b
      | none => badBlock s t m b
where
  /-- A block bad on every available flash. -/
  badBlock (s : State) (t : TileId) (m : List Byte) (b : Nat) : State :=
    let region := (regionOfBlock m b).getD 0
    if blockWatched m b then watchedBad s t b region
    else failFetch s t 0x11 { level := 0, region := region, index := b }

/-- The landed blocks of a group, each as long as its block (R122, R146). -/
def landedBlocks (m : List Byte) (g : Nat) (r : GroupRead) : List (List Byte) :=
  r.blocks.mapIdx fun k d => d.take (blockLen m (32 * g + k))

/-- A landed group, read from the flash named, is decided (R142, R144). -/
def decideGroup (s : State) (t : TileId) (g : Nat) (twin : Bool) (r : GroupRead) : State :=
  let v := (s.tile t).verify
  let m := v.manifest
  match parentEntry m v.nodes 1 g with
  | none => s
  | some p =>
    let blocks := landedBlocks m g r
    let cand := candidateNode (blocks.map Config.sha384)
    let (s, ok) := settleCmp s t.val (Config.sha384 cand) p r.candRuns
    if ok ∧ blocks.length = (groupBlocks (blockCount m) g).length then
      let s := (List.range blocks.length).foldl (fun s k =>
        setVerified (storeBlock s t (32 * g + k) (blocks.getD k [])) t (32 * g + k)) s
      (storeNode1 s t g cand).modVer t progress
    else
      let (s, ok) := settleCmp s t.val (Config.sha384 r.node) p r.nodeRuns
      let other := if flashUsable (s.tile t) (!twin) then r.nodeOther else none
      if ok then
        let s := (List.range 32).foldl (leafPath t twin r.node g r) (storeNode1 s t g r.node)
        s.modVer t progress
      else match other with
      | some nd =>
        let (s, ok) := settleCmp s t.val (Config.sha384 nd) p r.otherRuns
        if ok then
          let s := replaced s t twin (nodeAddr m v.partition 1 g) false
          let s := (List.range 32).foldl (leafPath t twin nd g r) (storeNode1 s t g nd)
          s.modVer t progress
        else failFetch s t 0x10 { level := 1, region := 0xFF, index := g }
      | none => failFetch s t 0x10 { level := 1, region := 0xFF, index := g }

/-! ### Releases during STREAM (R80, R86, R148, R152) -/

/-- The release conditions of a full release other than settling and rst_min. -/
def releaseReady (x : Tile) : Bool :=
  decide (x.ctl.state = .fetch) && sealedDone x.verify && x.verify.openDone

/-- A tile in EARLY whose SEALED blocks have all verified goes to RUN, which is no release; its only measurement is EARLY_COMPLETE (R80,
R244, R248). -/
def earlyToRun (s : State) (t : TileId) : State :=
  if (s.tile t).ctl.state = .early ∧ sealedDone (s.tile t).verify then
    let s := changeTile s t .run .release
    let s := raiseT s t 1 (donePayload s t 0)
    gateCheck (lifeRecord s t 0x01 0xFF (s.tile t).verify.digest)
  else s

/-- The stream is done when every block is verified or held (R152, R248). -/
def streamDone (s : State) (t : TileId) : State :=
  let v := (s.tile t).verify
  if v.accepted ∧ walking s t ∧ blockCount v.manifest ≤ v.prefixLen then
    let s := (s.modVer t fun v => { v with ahead := [] }).modTile t fun x => x.reachDone s.attic.tick
    let s := raiseT s t 1 (donePayload s t 1)
    lifeRecord s t 0x02 0xFF (s.tile t).verify.digest
  else s

/-- After a group: EARLY to RUN, and the end of the stream. -/
def afterGroup (s : State) (t : TileId) : State := streamDone (earlyToRun s t) t

/-! ### The tree and the OPEN copy (R140, R141) -/

/-- Nodes of levels d down to 2. -/
def upperNodes (m : List Byte) : Nat :=
  ((List.range (treeDepth (blockCount m) - 1)).map fun k => nodesAt (blockCount m) (k + 2)).sum

/-- TREE ends when every upper node has been read, and OPEN at once when the manifest has no OPEN region (R132). -/
def treeEnds (s : State) (t : TileId) : State :=
  let v := (s.tile t).verify
  if v.phase = 5 ∧ upperNodes v.manifest ≤ v.nodes.length + v.aheadNodes.length then
    if (mfRegions v.manifest).any Region.isOpen then s.modVer t fun v => { v with phase := 10 }
    else
      (s.modVer t fun v => { v with phase := 6, openDone := true }).modTile t fun x =>
        { x with mem := { x.mem with opens := [] } }
  else s

/-- An upper node is verified against its parent, from the other flash where the first fails (R140, R144). -/
def verifyNode (s : State) (t : TileId) (n : AheadNode) : State :=
  if !walking s t then s
  else
    let v := (s.tile t).verify
    let level := n.key / 65536
    let idx := n.key % 65536
    match parentEntry v.manifest v.nodes level idx with
    | none => s
    | some p =>
      let keep := fun (s : State) (nd : List Byte) => s.modVer t fun v => { v with nodes := assocSet v.nodes n.key nd }
      let (s, ok) := settleCmp s t.val (Config.sha384 n.node) p n.runs
      if ok then keep s n.node
      else
        match (if flashUsable (s.tile t) (!n.twin) then n.other else none) with
        | none => failFetch s t 0x10 { level := level, region := 0xFF, index := idx }
        | some nd =>
          let (s, ok) := settleCmp s t.val (Config.sha384 nd) p n.otherRuns
          if ok then replaced (keep s nd) t n.twin (nodeAddr v.manifest v.partition level idx) false
          else failFetch s t 0x10 { level := level, region := 0xFF, index := idx }

/-! ### The manifest (R137 to R139) -/

/-- A manifest accepted on the tile, of a fetch or of a recovery source, gives it its layout (R226) and clears no_early where its digest
differs from the one accepted when the flag was set (R87, R139). -/
def Tile.accept (x : Tile) (m : List Byte) : Tile :=
  { x with
    force := { x.force with layout := some (mfLayout m) }
    ctl := if x.ctl.noEarly ∧ manifestDigest m ≠ x.power.noEarlyDigest then { x.ctl with noEarly := false } else x.ctl }

/-- The manifest is accepted: digest, no_early and watermark (R87, R139, R149); what was read ahead is now decided. -/
def acceptManifest (s : State) (t : TileId) : State :=
  let s := s.modTile t fun x =>
    let v := x.verify
    let x := x.accept v.manifest
    { x with
      verify := { v with
        accepted := true, sigPending := false, watermark := watermarkOf v.manifest
        phase := if v.phase = 4 then 5 else v.phase } }
  let v := (s.tile t).verify
  let s := v.aheadNodes.foldl (fun s n => verifyNode s t n) s
  let s := treeEnds (s.modVer t fun v => { v with aheadNodes := [] }) t
  let s := v.ahead.foldl (fun s g => if walking s t then decideGroup s t g.group g.twin g.read else s) s
  afterGroup (s.modVer t fun v => { v with ahead := [] }) t

/-- What a rejected manifest discards (R139). -/
def discardAhead (s : State) (t : TileId) : State :=
  s.modTile t fun x =>
    { x with
      verify := { x.verify with sigPending := false, ahead := [], aheadNodes := [], openDone := false }
      mem := { x.mem with opens := [] } }

/-- The layout block of a well-formed header read from flash is kept for R226. -/
def headerRead (s : State) (t : TileId) (m : List Byte) : State :=
  s.modTile t fun x => if headerOk m then { x with force := { x.force with headLayout := some (mfLayout m) } } else x

/-- The bytes of the chosen slot have been read (R137, R138): checks other than SIGNATURE are made, and TREE starts where
they pass. R137 makes its checks in MANIFEST and R132 in CHECK: EVT_VERIFY_FAIL names phase CHECK for every failed one, the header's among
them (DESIGN CHOICE, log entry 85). -/
def execManifestReadDone (t : TileId) (bytes : List Byte) (s : State) : Out :=
  inOneCycle s <|
  let x := s.tile t
  if x.ctl.state ≠ .fetch ∨ x.verify.phase ≠ 3 ∨ !fetchAllowed s t ∨ !walkerTurn x then .next s
  else
    let m := if headerOk bytes then bytes.take (mfLen bytes) else bytes.take 256
    let s := headerRead s t m
    let s := s.modVer t fun v => { v with manifest := m, digest := readDigest m, phase := 4 }
    let c := checkManifest s (.tile t none) m none
    if 0 < c ∧ c < 5 then .next (failFetch s t c .none)
    else
      let s := s.modVer t fun v => { v with sigPending := true, checkCause := BitVec.ofNat 8 c }
      if c = 0 then .next (treeEnds (s.modVer t fun v => { v with phase := 5 }) t) else .next s

/-- The signature result of a fetch (R138, R139): the checks made while it ran stand (R515). -/
def execSignatureResult (t : TileId) (sig : RafterRun) (s : State) : Out :=
  inOneCycle s <|
  let x := s.tile t
  if x.ctl.state ≠ .fetch ∨ !x.verify.sigPending ∨ !fetchAllowed s t then .next s
  else
    let (s, ok) := manifestSig s x.verify.manifest sig t.val
    let c := if ok then x.verify.checkCause.toNat else 0x05
    if c = 0 then .next (acceptManifest s t) else .next (failFetch (discardAhead s t) t c .none)

/-- An upper tree node has been read, with what the other flash holds (R140). -/
def execTreeNodeRead (t : TileId) (level idx : Nat) (node : List Byte) (other : Option (List Byte)) (runs otherRuns : CmpRuns)
    (s : State) : Out :=
  inOneCycle s <|
  let x := s.tile t
  let v := x.verify
  let n := blockCount v.manifest
  if x.ctl.state ≠ .fetch ∨ v.phase ≠ 5 ∨ !fetchAllowed s t ∨ !walkerTurn x ∨ level < 2 ∨ treeDepth n < level ∨
      nodesAt n level ≤ idx then
    .next s
  else
    let n : AheadNode :=
      { key := nodeKey level idx, twin := v.readTwin, node := node, other := other, runs := runs, otherRuns := otherRuns }
    if v.accepted then .next (treeEnds (verifyNode s t n) t)
    else
      .next (treeEnds (s.modVer t fun v =>
        { v with aheadNodes := v.aheadNodes.filter (fun x => decide (x.key ≠ n.key)) ++ [n] }) t)

/-- The OPEN copy that the ranges read make, each OPEN region of the manifest at its source_offset and 0xFF elsewhere; none while a
region is missing or short (R141). -/
def openCopy (m : List Byte) (ranges : List (Nat × List Byte)) : Option (List Host.Cell) :=
  ((mfRegions m).filter Region.isOpen).foldl (fun acc r =>
    match acc, assocGet ranges r.src with
    | some mem, some d => if r.len ≤ d.length then some (Memory.write 0xFF mem r.src (d.take r.len)) else none
    | _, _ => none) (some [])

/-- OPEN ends: the ranges the manifest's OPEN regions cover are in the OPEN copy (R141). -/
def execOpenStageDone (t : TileId) (ranges : List (Nat × List Byte)) (s : State) : Out :=
  let x := s.tile t
  if x.ctl.state ≠ .fetch ∨ x.verify.phase ≠ 10 ∨ !fetchAllowed s t ∨ !walkerTurn x then .next s
  else
    match openCopy x.verify.manifest ranges with
    | none => .next s
    | some opens =>
      .next (s.modTile t fun x =>
        { x with verify := { x.verify with phase := 6, openDone := true }, mem := { x.mem with opens := opens } })

/-- A group has landed (R139, R142, R144): decided at once after acceptance, else held unverified. With no flash left that may be read the
fetch fails with cause FLASH (R135, R147). -/
def execGroupLanded (t : TileId) (g : Nat) (read : GroupRead) (s : State) : Out :=
  inOneCycle s <|
  let s0 := s
  let s := s.modTile t Tile.turnSource
  let x := s.tile t
  let v := x.verify
  let state := decide (x.ctl.state = .fetch ∨ x.ctl.state = .early ∨ x.ctl.state = .run ∨ x.ctl.state = .held)
  let read := if flashUsable x (!v.readTwin) then { read with kept := [] } else read
  if !state ∨ (v.phase ≠ 6 ∧ v.phase ≠ 7) ∨ !fetchAllowed s t ∨ !walkerTurn x ∨ groupBlocks (blockCount v.manifest) g = [] then
    .next s0
  else if !flashUsable x v.readTwin then .next (failFetch s t 0x12 .none)
  else if !v.accepted then
    .next (s.modVer t fun v =>
      { v with ahead := v.ahead.filter (fun x => decide (x.group ≠ g)) ++ [{ group := g, twin := v.readTwin, read := read }] })
  else if (groupBlocks (blockCount v.manifest) g).all v.settledBlock then .next s
  else
    let s := decideGroup (wake s) t g v.readTwin read
    .next (if walking s t then afterGroup s t else s)

/-! ### Early release and re-release -/

/-- Verify-ahead release (R86, R149): the watermark has verified and the tile is settled. -/
def execEarlyRelease (t : TileId) (mirror : List (Nat × List Byte)) (s : State) : Out :=
  inOneCycle s <|
  let x := s.tile t
  if decide (x.ctl.state = .fetch) && x.verify.accepted && !x.power.resumed && earlyOk s t && x.verify.openDone &&
      decide (x.verify.watermark ≤ x.verify.prefixLen) && settled s t &&
      !s.boot.ridgeHeld && !sealedDone x.verify then
    let s := releaseImage s t .early .earlyRelease 2 mirror
    .next (s.modVer t fun v => { v with phase := if v.phase = 6 then 7 else v.phase })
  else .next s

/-- A re-release from HELD once rst_min has elapsed (R80); under underrun_action RESET it waits until no block is suspect (R449);
the device wakes from DOZE first (R39, R60). -/
def execRerelease (t : TileId) (s : State) : Out :=
  inOneCycle s <|
  let x := s.tile t
  if x.ctl.state = .held ∧ x.force.copyValid ∧ x.verify.phase = 8 ∧ (x.power.afterReset ∨ x.active.reuseCopy) ∧
      (x.active.underrunLog ∨ x.sweep.suspect = []) ∧ !x.ctl.switchPending ∧ settled s t ∧ !s.boot.ridgeHeld
  then .next (rereleaseTile (wake s) t)
  else .next s

end Sys2Proof.Machine
end

