-- ==== Sys2Proof/Machine/Sources.lean ====
section
/-! DEFINITION. The verified sources that repairs, resyncs and commits write flash from (R175, R181, R207). -/

namespace Sys2Proof.Machine

open Sys2Proof

/-- The node at a place of the tree area (R123): the verified node cache for upper levels, the held ones for level 1 (R175). -/
def heldNode (x : Tile) (level idx : Nat) : Option (List Byte) :=
  if level = 1 then assocGet x.mem.tree idx else assocGet x.verify.nodes (nodeKey level idx)

/-- The verified byte that belongs at a flash address of the active partition's areas or of the OPEN area, 0xFF where no source
covers it; none at an address of another area (R124, R181). -/
def verifiedByte (x : Tile) (a : Nat) : Option Byte :=
  let v := x.verify
  let m := v.manifest
  let l := mfLayout m
  let slot := 0x10000 * b01 v.partition
  let part := if v.partition then flashPartB l else flashPartA
  let tree := if v.partition then flashTreeB l else flashTreeA l
  if slot ≤ a ∧ a < slot + 0x10000 then some (m.getD (a - slot) 0xFF)
  else if part ≤ a ∧ a < part + l.1 then
    some (if a - part < mfImageLen m then Sparse.get 0xFF x.mem.copy (a - part) else 0xFF)
  else if tree ≤ a ∧ a < tree + l.2.1 then
    some (match (treePlaces (blockCount m))[(a - tree) / 1536]? with
      | some p => ((heldNode x p.1 p.2).getD []).getD ((a - tree) % 1536) 0xFF
      | none => 0xFF)
  else if flashOpen l ≤ a ∧ a < flashStaging l then some (Sparse.get 0xFF x.mem.opens (a - flashOpen l))
  else none

/-- The bytes of an erase unit, or of another range, from verified sources (R181). -/
def unitBytes (x : Tile) (a n : Nat) : List Byte := (List.range n).map fun i => (verifiedByte x (a + i)).getD 0xFF

/-- The erase unit of a flash that an address lies in: its address and its size (R181). -/
def eraseUnitAt (x : Tile) (twin : Bool) (a : Nat) : Nat × Nat :=
  let n := eraseUnitOf (flashDisc x twin)
  (a / n * n, n)

/-- The level-1 nodes whose bytes lie in a range of the active tree area: each is taken only after it has matched its parent (R175). -/
def unitNodes (x : Tile) (a n : Nat) : List Nat :=
  let m := x.verify.manifest
  (List.range (nodesAt (blockCount m) 1)).filter fun g =>
    let at_ := nodeAddr m x.verify.partition 1 g
    decide (at_ < a + n ∧ a < at_ + 1536)

/-- The source of a range holds verified data (R145, R181): the blocks of the partition in it are verified and not suspect, and its level-1
nodes are held. A unit that takes bytes of a WATCHED region that was held back is not rewritten. -/
def unitVerified (x : Tile) (a n : Nat) : Bool :=
  let m := x.verify.manifest
  let base := blockAddr m x.verify.partition 0
  let blocks := ((List.range (n / 4096)).map (a + 4096 * ·)).filter fun p => decide (base ≤ p ∧ p < base + 4096 * blockCount m)
  (blocks.all fun p => decide ((p - base) / 4096 ∈ x.verify.verified ∧ (p - base) / 4096 ∉ x.sweep.suspect)) &&
    (unitNodes x a n).all fun g => (heldNode x 1 g).isSome

/-- Flash address of the erase unit that a unit of the OPEN area lies in, and its size (R181, R207). -/
def commitUnitAt (x : Tile) (twin : Bool) (u : Nat) : Nat × Nat :=
  eraseUnitAt x twin (flashOpen (mfLayout x.force.manifest) + 4096 * u)

/-- The front unit of a commit begins on a flash: the bytes of its erase unit are taken from the OPEN copy as it stands (R207). -/
def Tile.beginUnit (x : Tile) : Tile :=
  match x.filter.committing with
  | [] => x
  | c :: rest =>
    let at_ := commitUnitAt x (c.mainDone || !mainUp x) c.unit
    { x with filter := { x.filter with committing := { c with bytes := unitBytes x at_.1 at_.2 } :: rest } }

end Sys2Proof.Machine
end

