-- ==== Sys2Proof/Machine/Eave.lean ====
section
/-! DEFINITION. The Eave flash ports and the Purlin port: queue entries and their completion codes (R346 to R353), read
failures (R135, R182), the Purlin mapping (R356 to R359) and its states (R360). -/

namespace Sys2Proof.Machine

open Sys2Proof

/-! ### Queue entries (R346, R347) -/

/-- A phase of `bits` bits is a whole number of cycles at a lane code and rate. -/
def wholeCycles (bits lanes ddr : Nat) : Bool := decide (bits % (2 ^ lanes * (1 + ddr)) = 0)

/-- The entry is valid (R347); a length code of 3 names no length and a data_len above 0x1_0000 is out of its range. -/
def entryValid (port : Nat) (e : BitVec 128) : Bool :=
  let dataDdr := entryField e 2 19 19
  decide (entryField e 0 17 16 ≤ 2 ∧ entryField e 0 19 18 ≤ 2 ∧ entryLen e ≤ 0x10000) &&
    wholeCycles (8 * entryField e 0 17 16) (entryField e 0 26 25) (entryField e 0 27 27) &&
    wholeCycles (if entryField e 0 19 18 = 0 then 0 else 16 + 8 * entryField e 0 19 18) (entryField e 0 29 28)
      (entryField e 0 30 30) &&
    wholeCycles (8 * entryLen e) (entryField e 2 18 17) dataDdr &&
    (!(decide (dataDdr = 1 ∧ entryField e 2 18 17 = 3)) || decide (entryLen e % 2 = 0)) &&
    (!entryPoll e || (decide (entryLen e = 1 + dataDdr) && !entryWrite e)) && (!entryDqs e || !entryWrite e) &&
    !(decide (port = 32) && entryTwin e)

/-- An entry is the next one the port may complete (R348): where a select is held, the oldest of that select; else the oldest of
all, or the oldest of its select while the port waits between polls of the other. -/
def entryServed (chain : Option Bool) (q : List (BitVec 128 × EaveWork)) (e : BitVec 128 × EaveWork) : Bool :=
  match chain, q with
  | some twin, q => decide (q.find? (fun x => decide (entryTwin x.1 = twin)) = some e)
  | none, [] => false
  | none, q :: qs =>
    decide (q = e) ||
      (entryPoll q.1 && decide (qs.find? (fun x => decide (entryTwin x.1 ≠ entryTwin q.1)) = some e))

/-- An entry may complete with a code on a port whose flash is up (R350 to R353): OK; NO_DQS and DQS_COUNT on reads sampled on DQS;
BUSY_TIMEOUT on polls; FLASH_ERROR on polls that check the flags; CONT_TIMEOUT where the select is held. A poll reads ready first: the
byte read, masked, is the ready value. What leaves a tile port with ABORTED has been discarded already (R352). -/
def codeFits (e : BitVec 128) (data : List Byte) (code : Nat) : Bool :=
  let ready := !entryPoll e || decide ((data.headD 0).toNat &&& entryField e 3 7 0 = entryField e 3 15 8)
  match code with
  | 1 => ready
  | 2 | 3 => entryDqs e && !entryWrite e
  | 4 => entryPoll e
  | 5 => entryPoll e && entryFlags e && ready
  | 6 => entryCont e
  | _ => false

/-- An entry as the port writes it back: its completion code in status (R346). -/
def entryDoneWord (e : BitVec 128) (code : Nat) : BitVec 128 :=
  (e &&& ~~~(0xF#128 <<< 92)) ||| (BitVec.ofNat 128 (code % 16) <<< 92)

/-- Bytes a program or erase entry changes: a program its data, an erase the size of its command. -/
def entrySpan (e : BitVec 128) : Nat :=
  match entryCommand e % 256 with
  | 0x20 | 0x21 => 0x1000
  | 0x52 | 0x5C => 0x8000
  | 0xD8 | 0xDC => 0x10000
  | _ => entryLen e

/-! ### Queued writes (R201, R202) -/

/-- The write is an erase. -/
def RuledWrite.erase (w : RuledWrite) : Bool := decide (w.size ≠ 0)

/-- Bytes of ranges of an area. -/
def partBytes (area : List Host.Cell) (parts : List (Nat × Nat)) : List Byte :=
  parts.flatMap fun p => Memory.read 0xFF area p.1 p.2

/-- What the flash holds at the ranges of a write once it has been carried out (R202). -/
def RuledWrite.bytes (w : RuledWrite) : List Byte :=
  if w.erase then List.replicate (w.parts.map (·.2)).sum 0xFF else w.data

/-- A new write of ranges of an area: an erase of a view size, or a program of the area's resulting bytes (R202). -/
def newWrite (area : List Host.Cell) (size : Nat) (parts : List (Nat × Nat)) : RuledWrite :=
  { size := size, parts := parts, data := if size = 0 then partBytes area parts else [], mainDone := false, tries := 0 }

/-- The erases that carry a view erase of one size out over a range of a flash (R201): of that size where the flash offers it and
the address is aligned to it, else of the largest size it advertises that is aligned; as address and size. -/
def flashErases (d : Option Discovery) (size a n : Nat) : List (Nat × Nat) :=
  let sizes := match d with
    | some d => [0x1000, 0x8000, 0x10000].filter fun e => d.offers (Nat.log2 e)
    | none => []
  match (sizes.filter fun e => decide (e ≤ size ∧ a % e = 0 ∧ n % e = 0)).max? with
  | some e => (List.range (n / e)).map fun i => (a + e * i, e)
  | none => []

/-- Ranges of an area, those that adjoin as one. -/
def joinParts : List (Nat × Nat) → List (Nat × Nat)
  | [] => []
  | p :: ps => match joinParts ps with
    | q :: qs => if p.1 + p.2 = q.1 then (p.1, p.2 + q.2) :: qs else p :: q :: qs
    | [] => [p]

/-- What a queued write drives to a flash: the bytes of a program, or the erases of an erase as address and size words. -/
def RuledWrite.drives (w : RuledWrite) (d : Option Discovery) (base : Nat) : List Byte :=
  if w.erase then
    ((joinParts w.parts).flatMap fun p => flashErases d w.size (base + p.1) p.2).flatMap fun e => leBytes 4 e.1 ++ leBytes 4 e.2
  else w.data

/-! ### Event limits and the end of writes (R206, R212, R385) -/

/-- At most one event per evt_holdoff and key: the count suppressed since the last where one is raised now. -/
def holdGate (s : State) (t : TileId) (key : Nat) : State × Option Nat :=
  let x := s.tile t
  let put := fun e : Holdoff => s.modTile t fun x =>
    { x with filter := { x.filter with holdoffs := e :: x.filter.holdoffs.filter fun h => decide (h.key ≠ key) } }
  match x.filter.holdoffs.find? fun h => decide (h.key = key) with
  | none => (put { key := key, tick := s.attic.tick, held := 0 }, some 0)
  | some h =>
    if msTicks x.active.holdoffMs ≤ since s h.tick then (put { key := key, tick := s.attic.tick, held := 0 }, some h.held)
    else (put { h with held := h.held + 1 }, none)

def State.modFilter (s : State) (t : TileId) (f : TileFilter → TileFilter) : State :=
  s.modTile t fun x => { x with filter := f x.filter }

/-- The write a SUSPEND or RESUME concerns: the last queued one not yet done on its first flash (R192). -/
def pendingWrite (f : TileFilter) : Option RuledWrite := f.queue.reverse.find? fun w => !w.mainDone

/-- WIP falls when no accepted write is left to do on its first flash (R193, R202). -/
def followWip (f : TileFilter) : TileFilter := { f with wip := f.wip && (pendingWrite f).isSome }

/-- EVT_WRITE_DONE (R206, R213). -/
def writeDoneEvent (s : State) (t : TileId) (writes commits flashes : Nat) : State :=
  raiseT s t 5 (payload [(0, 4, writes), (4, 4, commits), (8, 1, flashes)])

/-- EVT_WRITE_DONE, at most once per evt_holdoff, when nothing is queued (R206). R206 speaks of the queue alone: it waits for a commit under
way too (DESIGN CHOICE, log entry 85). -/
def writesEnd (s : State) (t : TileId) : State :=
  let f := (s.tile t).filter
  if f.queue ≠ [] ∨ f.committing ≠ [] ∨ (f.writesDone = 0 ∧ f.commitsDone = 0) then s
  else match holdGate s t 0x80 with
  | (s, none) => s
  | (s, some _) =>
    let s := writeDoneEvent s t f.writesDone f.commitsDone (b01 f.wroteMain + 2 * b01 f.wroteTwin)
    s.modFilter t fun f => { f with writesDone := 0, commitsDone := 0, wroteMain := false, wroteTwin := false }

/-! ### A flash marked down (R182) -/

/-- A write attempt on a flash fails where its read-back differs, which T_EAVE_STAT counts (R353); none: an entry failed, counted
already. -/
def readBackCounted {α : Type} [DecidableEq α] (s : State) (t : TileId) (twin : Bool) (readBack : Option α) (bytes : α) : State :=
  match readBack with
  | some b =>
    s.modTile t fun x =>
      if b = bytes then x.clearFailed twin else { x with eave := { x.eave with writeErrors := satInc 0xFF x.eave.writeErrors } }
  | none => s

/-- The read-backs that differed in a run of update writes on a flash advance T_EAVE_STAT (R229, R353). -/
def resultCounted (s : State) (t : TileId) (twin : Bool) (r : WriteResult) : State :=
  s.modTile t fun x =>
    let x := { x with eave := { x.eave with writeErrors := min 0xFF (x.eave.writeErrors + r.differed) } }
    if r.ok then x.clearFailed twin else x

/-- A flash is covered by sweep passes: enabled and not down (R177). -/
def sweepCovers (x : Tile) (twin : Bool) : Bool :=
  if twin then x.active.sweepTwin && x.eave.twinFitted && !x.sweep.twinDown else x.active.sweepMain && !x.sweep.mainDown

/-- A pass is in progress. -/
def sweeping (x : Tile) : Bool := decide (1 ≤ x.sweep.phase.toNat ∧ x.sweep.phase.toNat ≤ 4)

/-- The pass is done with one flash: the twin follows main, else the pass is complete (R177, R186). -/
def sweepFlashDone (x : Tile) : Tile :=
  if !x.sweep.target && sweepCovers x true then { x with sweep := { x.sweep with phase := 1, pos := 0, target := true } }
  else { x with sweep := { x.sweep with
      phase := 0, pos := 0, passes := (x.sweep.passes + 1) % 65536, lastMism := x.sweep.mismatches, mismatches := 0 } }

/-- What a flash marked down changes for the writes under way (R202, R204, R207, R231): with the other flash up, a write or unit
whose first half stands is complete, one that main was to have goes to the twin with its attempts before it, and the unit of a commit now at
the front begins; with both down the queues end and the units of a commit stay changed. -/
def settleDown (x : Tile) : Tile :=
  let f := x.filter
  if !mainUp x && !twinUp x then
    { x with filter := followWip { f with
        queue := [], committing := [], changed := f.committing.foldl (fun l c => insertNat l c.unit) f.changed }
             update := { x.update with mirror := [] } }
  else if !twinUp x then
    let halves := f.queue.filter (·.mainDone)
    let units := f.committing.filter (·.mainDone)
    let x := { x with
      filter := { f with
        queue := f.queue.filter fun w => !w.mainDone
        writesDone := f.writesDone + halves.length
        committing := f.committing.filter fun c => !c.mainDone
        commitsDone := f.commitsDone + (units.filter (·.last)).length }
      update := { x.update with mirror := x.update.mirror.filter fun w => !w.mainDone } }
    if units = [] then x else x.beginUnit
  else if !mainUp x then
    let again := fun w : RuledWrite => if w.mainDone then w else { w with tries := 0 }
    let x := { x with
      filter := { f with
        queue := f.queue.map again
        committing := f.committing.map fun c => if c.mainDone then c else { c with tries := 0 } }
      update := { x.update with mirror := x.update.mirror.map again } }
    if (f.committing.head?.map (·.mainDone)).getD true then x else x.beginUnit
  else x

/-- A flash is marked down: its queued repairs are discarded, and EVT_FLASH_FAULT is raised once with the reason. -/
def markDown (s : State) (t : TileId) (twin : Bool) (reason error work addr cmd attempts : Nat) : State :=
  let down := fun x : Tile => if twin then x.sweep.twinDown else x.sweep.mainDown
  if down (s.tile t) then s
  else
    let s := s.modTile t fun x =>
      { x with sweep := { x.sweep with
          mainDown := x.sweep.mainDown || !twin, twinDown := x.sweep.twinDown || twin
          repairs := x.sweep.repairs.filter fun r => decide (r.twin ≠ twin) }
               update := { x.update with mainOk := x.update.mainOk && twin, twinOk := x.update.twinOk && !twin } : Tile }.clearFailed twin
    let s := s.modTile t fun x => settleDown (if sweeping x && decide (x.sweep.target = twin) then sweepFlashDone x else x)
    writesEnd (flashFault s t reason twin error work addr cmd attempts 0 0) t

/-- A flash is marked down for work that failed there, reported with its last failed entry, or the unit that differs where none failed
(R354). -/
def markFailed (s : State) (t : TileId) (twin : Bool) (reason work unit attempts : Nat) : State :=
  let e := failedEntry (s.tile t) twin unit
  markDown s t twin reason e.1 work e.2.1 e.2.2 attempts

/-! ### Completions on a tile port (R352, R353) -/

/-- The bytes of a completed read stand in a port's SRAM at its buffer offset (R346). -/
def bufferRead (buffer : List Host.Cell) (e : BitVec 128) (code : Nat) (data : List Byte) : List Host.Cell :=
  if code = 1 ∧ !entryWrite e ∧ !entryPoll e then Memory.write 0 buffer (entryBuffer e) (data.take (entryLen e)) else buffer

/-- The bytes of a write stand in a port's SRAM at its buffer offset once its entry is queued (R346). -/
def bufferWrite (buffer : List Host.Cell) (e : BitVec 128) (data : List Byte) : List Host.Cell :=
  if entryWrite e then Memory.write 0 buffer (entryBuffer e) (data.take (entryLen e)) else buffer

/-- Status of a tile port after a completion (R346, R354, R361). -/
def portStatus (x : Tile) (e : BitVec 128) (work : EaveWork) (code : Nat) (data : List Byte) : Tile :=
  let twin := entryTwin e
  let failed := fun (mine : Bool) (old : Option (BitVec 128)) => if mine ∧ 2 ≤ code ∧ code ≤ 7 then some (entryDoneWord e code) else old
  let busy := fun b : Option EaveWork =>
    if code = 1 then (if entryModifies e then some work else if entryPoll e then none else b)
    else if code = 4 ∨ code = 5 then none else b
  let readFail := decide ((code = 2 ∨ code = 3) ∧ !entryWrite e)
  let writeFail := decide (code = 4 ∨ code = 5 ∨ code = 6) && (entryPoll e || entryModifies e)
  { x with eave := { x.eave with
      buffer := bufferRead x.eave.buffer e code data
      last := entryDoneWord e code
      mainFailed := failed (!twin) x.eave.mainFailed
      twinFailed := failed twin x.eave.twinFailed
      mainWork := if twin then x.eave.mainWork else busy x.eave.mainWork
      twinWork := if twin then busy x.eave.twinWork else x.eave.twinWork
      lastError := if code = 1 then x.eave.lastError else BitVec.ofNat 4 code
      lastSel := if code = 1 then x.eave.lastSel else twin
      readErrors := if readFail then satInc 0xFF x.eave.readErrors else x.eave.readErrors
      writeErrors := if writeFail then satInc 0xFF x.eave.writeErrors else x.eave.writeErrors } }

/-- A read of the walker has failed (R135): it is issued once more on the same flash, and when it fails there again the other flash is
taken; with none left the fetch fails with cause FLASH, and a recovery source ends with its RESTORE_SOURCE_DONE. In SELECT a flash that
is not the read source only has its records left out (R129); where the mode permits no fetch the read is discarded (R154). -/
def walkerReadFailed (s : State) (t : TileId) (e : BitVec 128) (code : Nat) : State :=
  let twin := entryTwin e
  let read := (twin, entryAddress e)
  if !walking s t || !fetchAllowed s t || (s.tile t).verify.gone twin then s
  else if read ∉ (s.tile t).verify.readFails then s.modVer t fun v => { v with readFails := read :: v.readFails }
  else
    let s := s.modVer t fun v => { v with readFails := v.readFails.filter (· ≠ read) }
    if (s.tile t).verify.phase = 2 ∧ (s.tile t).verify.readTwin ≠ twin then s else
    let s := flashFault s t 1 twin code 1 (entryAddress e) (entryCommand e) 2 0 1
    let x := s.tile t
    if x.ctl.state = .restore ∧ (x.restore.source ≠ 2 ∨ !otherUsable x) then s
    else if x.verify.readTwin = twin ∧ !otherUsable x then failFetch s t 0x12 .none
    else s.modTile t fun x => x.giveUp twin

/-- A repair's program or erase has been issued (R181): the repair whose unit it lies in has begun. -/
def beginRepair (x : Tile) (twin : Bool) (a : Nat) : Tile :=
  let n := eraseUnitOf (flashDisc x twin)
  { x with sweep := { x.sweep with
      repairs := x.sweep.repairs.map fun r => if r.twin = twin ∧ r.addr ≤ a ∧ a < r.addr + n then { r with begun := true } else r } }

/-- An entry of a tile port completes. -/
def tileEntry (s : State) (t : TileId) (e : BitVec 128) (work : EaveWork) (code : Nat) (data : List Byte) : State :=
  let s := s.modTile t fun x => portStatus x e work code data
  let failed := decide ((code = 2 ∨ code = 3) ∧ !entryWrite e)
  match work with
  | .walker =>
    if failed then walkerReadFailed s t e code
    else if code = 1 then s.modVer t fun v => { v with readFails := v.readFails.filter (· ≠ (entryTwin e, entryAddress e)) } else s
  | .repair =>
    if failed then markDown s t (entryTwin e) 1 code 4 (entryAddress e) (entryCommand e) 1
    else if code = 1 ∧ entryModifies e then s.modTile t fun x => beginRepair x (entryTwin e) (entryAddress e)
    else s
  | .sweep =>
    if failed ∧ (s.tile t).ctl.state = .run then
      markDown s t (entryTwin e) 1 code 5 (entryAddress e) (entryCommand e) 1
    else s
  | _ => s

/-! ### Completions on the Purlin port (R357, R360) -/

/-- The buffer lines a range overlaps. -/
def lineHit (a n : Nat) (k : Nat) : Bool := decide (64 * k < a + n ∧ a < 64 * (k + 1))

/-- An entry of the Purlin port completes. A program or erase that has been taken drops the lines it overlaps, and its range is not read
again until the poll of its submitter has ended (R357); the state leaves UP after three entries in succession that end in a port error
(R360). -/
def purlinEntry (s : State) (e : BitVec 128) (who code : Nat) (data : List Byte) : State :=
  let isErr := decide (2 ≤ code ∧ code ≤ 7)
  let runs := if isErr then s.purlin.runErrors + 1 else if code = 1 then 0 else s.purlin.runErrors
  let starts := decide (code = 1) && entryModifies e
  let ends := decide ((code = 1 ∧ entryPoll e) ∨ code = 4 ∨ code = 5)
  let taken := entryModifies e && decide (code ≠ 7 ∧ code ≠ 8)
  let p := s.purlin
  let ranges := if starts then (who, entryAddress e, entrySpan e) :: p.ranges
    else if ends then p.ranges.filter fun r => decide (r.1 ≠ who) else p.ranges
  let p := { p with
    buffer := bufferRead p.buffer e code data
    last := entryDoneWord e code
    lastError := if code = 1 then p.lastError else BitVec.ofNat 4 code
    errors := if isErr then satInc 0xFF p.errors else p.errors
    runErrors := if 3 ≤ runs then 0 else runs
    busy := decide (ranges ≠ [])
    suspended := p.suspended && decide (ranges ≠ [])
    ranges := ranges
    lines := if taken then p.lines.filter fun k => !lineHit (entryAddress e) (entrySpan e) k else p.lines }
  let s := { s with purlin := p }
  if 3 ≤ runs then
    let s := setPurlin s 2
    purlinFault s (if who = 4 then 3 else if entryWrite e || entryPoll e then 2 else 1) code who (entryAddress e)
      (entryCommand e)
  else s

/-- The queue of a Purlin submitter: 0 the Loft, 1 the gate, 2 the Gutter, 3 the boot ROM; the mapping, 4, has none. -/
def Purlin.queueOf (p : Purlin) (k : Nat) : List (BitVec 128) := if h : k < 4 then p.queues[k] else []

/-- A Purlin queue replaced. -/
def Purlin.setQueue (p : Purlin) (k : Nat) (q : List (BitVec 128)) : Purlin :=
  if h : k < 4 then { p with queues := p.queues.set k q h } else p

/-- A requester of the Purlin port has nothing that comes before a later one's turn: no entry, or a poll that waits (R355). -/
def passedOver (p : Purlin) (k : Nat) : Bool :=
  match p.queueOf k with
  | [] => true
  | e :: _ => entryPoll e

/-- The port takes a requester now (R355): every requester from the turn on to it is passed over, and no other one's select is
held. -/
def purlinTurn (p : Purlin) (who : Nat) : Bool :=
  (List.range ((who + 5 - p.turn) % 5)).all (fun k => passedOver p ((p.turn + k) % 5)) &&
    (match p.chain with | some k => decide (k = who) | none => true)

/-! ### The Purlin mapping (R356 to R359) -/

/-- A byte of the Purlin flash; the journal area shows the records journalled. -/
def purlinByte (s : State) (a : Nat) : Byte :=
  if 0x100000 ≤ a ∧ a < 0x100000 + 64 * journalSlots then
    match assocGet s.gutter.journal ((a - 0x100000) / 64) with
    | some r => (recordBytes r).getD ((a - 0x100000) % 64) 0xFF
    | none => 0xFF
  else Sparse.get 0xFF s.purlin.contents a

/-- Bytes the mapping shows: up to the density, at most 256 MiB (R356). -/
def mapSize (s : State) : Nat := min (densityOf s.purlin.disc) 0x10000000

/-- The lines of an access. -/
def linesOf (a n : Nat) : List Nat := (List.range ((a + n - 1) / 64 + 1 - a / 64)).map (a / 64 + ·)

/-- A line becomes the most recently used of the 32. -/
def touchLine (lines : List Nat) (k : Nat) : List Nat := (k :: lines.filter (· ≠ k)).take 32

/-- A line lies in a range whose program or erase has not read ready (R357). -/
def Purlin.inRange (p : Purlin) (k : Nat) : Bool := p.ranges.any fun r => lineHit r.2.1 r.2.2 k

/-- The missing lines of an access are read, each with the next line where seq_prefetch is set. -/
def fillLines (s : State) (lines missing : List Nat) : List Nat :=
  let next := if bitOf s.purlin.cfg 3 then missing.filterMap fun k =>
      if 64 * (k + 1) < mapSize s ∧ !s.purlin.inRange (k + 1) then some (k + 1)
      else none else []
  missing.foldl touchLine (next.foldl touchLine lines)

/-- A mapped read leaves the flash in continuous read, so that the next one sends no command (R358): omit_en is set and the flash's
BFPT advertises it for the profile. -/
def omits (p : Purlin) : Bool :=
  bitOf p.cfg 1 && match p.disc with | some d => d.omits | none => false

/-- One more mapped miss is served with the flash's operation suspended for it (R359): with the sixteenth the operation is resumed. -/
def Purlin.suspend (p : Purlin) : Purlin :=
  let n := if p.suspended then p.served + 1 else 1
  if n < 16 then { p with suspended := true, served := n } else { p with suspended := false, served := 0 }

/-- A mapped read of a place of the flash (R356 to R359): served, or ended with a bus error; none while its miss waits. -/
def mapTry (s : State) (a len : Nat) : Option State :=
  let p := s.purlin
  if p.state ≠ 1 ∨ !bitOf p.cfg 0 ∨ mapSize s < a + len then some (busError s)
  else
    let missing := (linesOf a len).filter (· ∉ p.lines)
    let data := (List.range len).map fun i => purlinByte s (a + i)
    let serve := fun p : Purlin =>
      ({ s with purlin := { p with
          lines := (linesOf a len).foldl touchLine (fillLines s p.lines missing) } }).respond data 0
    let read := fun p : Purlin => serve { p with turn := 0, omitting := omits p }
    if missing = [] then some (serve p)
    else if !purlinTurn p 4 then none
    else if !p.busy then some (read p)
    else if bitOf p.cfg 2 && (match p.disc with | some d => d.suspend | none => false) && !missing.any p.inRange then
      some (read p.suspend)
    else none

/-- The mapped miss that waits is served as soon as the flash and the port's turn allow it (R355, R359). -/
def retryMiss (s : State) : State :=
  match s.purlin.miss with
  | none => s
  | some m =>
    match mapTry s m.1 m.2 with
    | some s => { s with purlin := { s.purlin with miss := none } }
    | none => s

/-- An entry of any port completes with a code. -/
def entryDone (s : State) (port : Fin 33) (e : BitVec 128) (work : EaveWork) (who code : Nat) (data : List Byte) : State :=
  if h : port.val < 32 then
    if fusedOff s ⟨port.val, h⟩ then s else tileEntry s ⟨port.val, h⟩ e work code data
  else retryMiss (purlinEntry s e who code data)

/-! ### The queues (R346, R348, R355) -/

/-- The maximum time of a program or erase in microseconds, from a flash's SFDP (R351). -/
def operationMaxUs (d : Option Discovery) (e : BitVec 128) : Nat :=
  match d with
  | none => 0
  | some d =>
    let span := entrySpan e
    match d.erases.find? fun x => decide (2 ^ x.log2 = span ∧ entryLen e = 0) with
    | some x => x.maxUs
    | none => d.progMaxUs

/-- The timeout of the poll after a program or erase, in milliseconds (R351): twice the larger maximum of the two flashes, rounded up,
1 to 65,535. -/
def pollTimeoutMs (x : Tile) (e : BitVec 128) : Nat :=
  let us := 2 * max (operationMaxUs x.eave.main e) (if x.eave.twinFitted then operationMaxUs x.eave.twin e else 0)
  min 65535 (max 1 ((us + 999) / 1000))

/-- The poll entry that the gate queues after a program or erase, built from the flash's profile (R350, R351): READ_STATUS with bit 0
as busy, or READ_FLAG with bit 7 as ready, whose flags the port checks; the command is sent twice, or with its inverse, in the octal
profiles, and in 8D-8D-8D the address and dummy cycles are those of the xSPI table and the byte read is sampled on DQS. -/
def pollEntry (x : Tile) (e : BitVec 128) : BitVec 128 :=
  match (if entryTwin e then x.eave.twin else x.eave.main) with
  | none => 0
  | some d =>
    let op := if d.flagPoll then 0x70 else 0x05
    let octal := decide (6 ≤ d.profile.toNat)
    let ddr := b01 (decide (d.profile = 7))
    let lanes := if octal then 3 else 0
    let word0 := (if octal then op + 256 * (if d.inverted then 255 - op else op) else op) + 2 ^ 16 * (if octal then 2 else 1) +
      2 ^ 18 * (ddr * d.regAddr.val) + 2 ^ 20 * (ddr * d.regDummy.toNat) + 2 ^ 25 * lanes + 2 ^ 27 * ddr + 2 ^ 28 * lanes +
      2 ^ 30 * ddr
    let word2 := (1 + ddr) + 2 ^ 17 * lanes + 2 ^ 19 * ddr + 2 ^ 21 * b01 (entryTwin e) + 2 ^ 23 + 2 ^ 24 * ddr +
      2 ^ 25 * b01 d.flagPoll
    let ready := if d.flagPoll then 0x8080 else 0x0001
    BitVec.ofNat 128 (word0 + 2 ^ 64 * word2 + 2 ^ 96 * (ready + 2 ^ 16 * pollTimeoutMs x e))

/-- Place of a kind of work (R203): 1 ruled writes, 2 the walker's reads, 3 update writes, 4 repairs, 5 the sweep. -/
def workRank : EaveWork → Nat
  | .ruled => 1 | .walker => 2 | .discovery => 2 | .update => 3 | .repair => 4 | .sweep => 5 | .probe => 5

/-- An entry stays behind the one before it: a poll behind its program or erase, the next entry of a held select, and what follows an entry
that only sends a command, such as WREN, for the same work. -/
def entryBound (before : Option (BitVec 128 × EaveWork)) (e : BitVec 128 × EaveWork) : Bool :=
  entryPoll e.1 || match before with
    | some p => entryCont p.1 || (entryWrite p.1 && !entryPoll p.1 && !entryModifies p.1 && decide (p.2 = e.2))
    | none => false

/-- New entries of a kind go before the queued ones of a lower kind (R203). -/
def insertWork (rank : Nat) (new : List (BitVec 128 × EaveWork)) :
    Option (BitVec 128 × EaveWork) → List (BitVec 128 × EaveWork) → List (BitVec 128 × EaveWork)
  | _, [] => new
  | before, e :: q =>
    if rank < workRank e.2 && !entryBound before e then new ++ e :: q else e :: insertWork rank new (some e) q

/-- Where new entries may be placed at the earliest: behind the entry in transfer and the polls of programs and erases in progress, which
are never interrupted (R203). -/
def TileEave.settled (v : TileEave) : Nat :=
  ([v.current, v.pollPlace false, v.pollPlace true].filterMap id).foldl (fun n k => max n (k + 1)) 0

/-- The form the gate gives an entry for a flash with a profile (R344): a program in the octal form in the octal profiles, else 1-1-4
where it is offered and 1-1-1 otherwise, and within one page; DQS on the 8D-8D-8D reads and on no others. -/
def formOk (d : Option Discovery) (e : BitVec 128) (work : EaveWork) : Bool :=
  let dtr := decide (entryField e 2 18 17 = 3 ∧ entryField e 2 19 19 = 1)
  if work = .discovery ∨ work = .probe then !entryDqs e || dtr
  else match d with
    | none => !entryDqs e
    | some d =>
      let octal := decide (6 ≤ d.profile.toNat)
      let ddr := b01 (decide (d.profile = 7))
      let page := 256 * 2 ^ d.page.toNat
      let lanes := decide (entryField e 0 26 25 = (if octal then 3 else 0) ∧ entryField e 0 29 28 = (if octal then 3 else 0) ∧
        entryField e 2 18 17 = (if octal then 3 else if d.quadProg then 2 else 0))
      let rates := decide (entryField e 0 27 27 = ddr ∧ entryField e 0 30 30 = ddr ∧ entryField e 2 19 19 = ddr)
      if entryModifies e ∧ entryLen e ≠ 0 then
        lanes && rates && decide (entryAddress e % page + entryLen e ≤ page)
      else entryWrite e || decide (entryDqs e = (decide (d.profile = 7) && dtr))

/-- An entry of the gate joins a tile port's queue in the order of the kinds of work (R203), each program or erase with its poll (R350); a
queue holds 32 (R361). The gate queues no poll of another kind and no entry in another form (R344). -/
def joinTile (x : Tile) (e : QueuedEntry) : Tile :=
  let new := (e.words, e.work) :: (if entryModifies e.words then [(pollEntry x e.words, e.work)] else [])
  if entryPoll e.words || decide (32 < x.eave.queue.length + new.length) || !formOk (flashDisc x (entryTwin e.words)) e.words e.work then x
  else
    let n := x.eave.settled
    { x with eave := { x.eave with
        buffer := bufferWrite x.eave.buffer e.words e.data
        queue := x.eave.queue.take n ++ insertWork (workRank e.work) new (if n = 0 then none else x.eave.queue[n - 1]?) (x.eave.queue.drop n) } }

/-- Entries that submitters have put into a port's queues join them (R355). A tile port's polls are the gate's own (R350). -/
def joinQueues (s : State) (port : Fin 33) (new : List QueuedEntry) : State :=
  if h : port.val < 32 then s.modTile ⟨port.val, h⟩ fun x => new.foldl joinTile x
  else
    { s with purlin := new.foldl (fun p e =>
        if 32 ≤ (p.queueOf e.who.val).length then p
        else { p.setQueue e.who.val (p.queueOf e.who.val ++ [e.words]) with buffer := bufferWrite p.buffer e.words e.data }) s.purlin }

/-- An entry is the one a port completes next: on the Purlin port one of the mapping's own, or the oldest of the submitter whose
turn it is. -/
def entryTurn (s : State) (port : Fin 33) (e : BitVec 128) (work : EaveWork) (who : Nat) : Bool :=
  if h : port.val < 32 then
    let p := (s.tile ⟨port.val, h⟩).eave
    entryServed p.chain p.queue (e, work)
  else purlinTurn s.purlin who && (decide (who = 4) || decide ((s.purlin.queueOf who).head? = some e))

/-- An entry leaves its queue; on the Purlin port the next requester has the highest priority from then on, and an entry with cont
set keeps the select for its submitter (R348, R355); every entry finds the flash out of continuous read (R358). -/
def leaveQueue (s : State) (port : Fin 33) (e : BitVec 128) (work : EaveWork) (who code : Nat) : State :=
  if h : port.val < 32 then
    s.modTile ⟨port.val, h⟩ fun x => { x with eave := { x.eave with
      queue := x.eave.queue.erase (e, work), chain := if entryCont e && decide (code = 1) then some (entryTwin e) else none } }
  else
    let p := s.purlin.setQueue who (s.purlin.queueOf who).tail
    { s with purlin := { p with
        turn := (who + 1) % 5
        chain := (if entryCont e && decide (code = 1) then some who else none)
        omitting := p.omitting && decide (who = 4) } }

/-- The entry that a held select waits for is queued (R348): the next one of its select, or of its submitter on the Purlin port. -/
def nextQueued (s : State) (port : Fin 33) (e : BitVec 128) (work : EaveWork) (who : Nat) : Bool :=
  if h : port.val < 32 then
    ((s.tile ⟨port.val, h⟩).eave.queue.erase (e, work)).any fun x => decide (entryTwin x.1 = entryTwin e)
  else decide (1 < (s.purlin.queueOf who).length)

/-- The code an entry completes with (R347, R360): ABORTED on a Purlin port that is not UP, BAD_ENTRY where it is invalid, else the
one given, which its kind must allow. An entry that holds its select ends when the next one begins (R348); the mapping only reads. -/
def completionCode (s : State) (port : Fin 33) (e : BitVec 128) (work : EaveWork) (who code : Nat) (data : List Byte) : Option Nat :=
  if port.val = 32 ∧ s.purlin.state ≠ 1 then some 8
  else if !entryValid port.val e then some 7
  else if who = 4 ∧ port.val = 32 ∧ (entryWrite e || entryPoll e || entryCont e) then none
  else if codeFits e data code && (!(entryCont e && decide (code = 1)) || nextQueued s port e work who) then some code
  else none

/-- A completion: the entries submitted join their queues, and the one that completes must be the next one (R348, R355), with the EAVE
clock running (R493) and a code that its kind allows. -/
def portCompletes (s : State) (port : Fin 33) (words : BitVec 128) (work : EaveWork) (who code : Nat) (data : List Byte)
    (new : List QueuedEntry) : State :=
  let s := joinQueues s port new
  if !entryTurn s port words work who || s.attic.clocksHeld.getLsbD 2 then s
  else match completionCode s port words work who code data with
    | some c => entryDone (leaveQueue s port words work who c) port words work who c data
    | none => s

/-- A queue entry completes (R352). -/
def execEaveEntryComplete (port : Fin 33) (words : BitVec 128) (work : EaveWork) (code : BitVec 4) (who : Fin 5)
    (data : List Byte) (queued : List QueuedEntry) (s : State) : Out :=
  inOneCycle s <|
  .next (portCompletes s port words work who.val code.toNat data queued)

/-- A poll entry's timeout (R351), which does not run while the Purlin flash's operation is suspended (R359). -/
def execPollTimeout (port : Fin 33) (words : BitVec 128) (work : EaveWork) (who : Fin 5) (queued : List QueuedEntry)
    (s : State) : Out :=
  inOneCycle s <|
  if port.val = 32 ∧ s.purlin.suspended then .next (joinQueues s port queued)
  else .next (portCompletes s port words work who.val 4 [] queued)

/-- A held select is not continued in time (R348). -/
def execContTimeout (port : Fin 33) (words : BitVec 128) (work : EaveWork) (who : Fin 5) (queued : List QueuedEntry)
    (s : State) : Out :=
  inOneCycle s <|
  .next (portCompletes s port words work who.val 6 [] queued)

/-! ### The order of the kinds of work (R203) -/

/-- Update writes of the tile are due (R203, R221, R229, R231, R233, R431). -/
def updateWritesDue (x : Tile) : Bool :=
  decide (4 ≤ x.update.phase.toNat ∧ x.update.phase.toNat ≤ 6 ∧ x.ctl.state.writable) || x.restore.writing.isSome ||
    decide (x.update.mirror ≠ []) || decide (x.update.switches ≠ [])

/-- Work of a kind before a place is queued on the tile's port (R203). -/
def higherQueued (s : State) (t : TileId) (rank : Nat) : Bool :=
  let x := s.tile t
  (decide (1 < rank) && (decide (x.filter.queue ≠ []) || decide (x.filter.committing ≠ []))) ||
    (decide (2 < rank) && walking s t && decide (x.verify.phase ≠ 4) && fetchAllowed s t) ||
    (decide (3 < rank) && updateWritesDue x && fetchAllowed s t) || (decide (4 < rank) && decide (x.sweep.repairs ≠ []))

/-- Work of a kind may go on on a flash: it has a program or erase outstanding there, which is never interrupted, or nothing of a
higher kind is queued (R203). -/
def portFree (s : State) (t : TileId) (twin : Bool) (work : EaveWork) : Bool :=
  decide ((if twin then (s.tile t).eave.twinWork else (s.tile t).eave.mainWork) = some work) || !higherQueued s t (workRank work)

/-! ### Commands of the Purlin mapping (R356 to R360) -/

/-- A probe of a Purlin flash that is ABSENT or FAULTED (R360). -/
def execPurlinProbe (answer : FlashAnswer) (s : State) : Out :=
  inOneCycle s <|
  let found := discoverOn s 32 s.purlin.disc answer
  if !s.boot.underlayDone ∨ s.purlin.state = 1 then .next s
  else if found.result.val ≠ 0 then .next { s with purlin := { s.purlin with disc := some found } }
  else
    let s := setPurlin { s with purlin := { s.purlin with
      disc := some found, omitting := false, runErrors := 0, busy := false, suspended := false, served := 0, ranges := [] } } 1
    .next (purlinFault s 5 s.purlinCode 0xFF 0xFFFFFFFF 0)

/-- A mapped read of the Loft at its address in the window (R356 to R359): response code 0 served, 1 bus error, 2 the
miss waits for the flash or for its turn at the port (R355). The Loft makes no other while one waits. -/
def execPurlinMappedRead (addr len : Nat) (s : State) : Out :=
  if addr < 0x40000000 ∨ 0x50000000 ≤ addr ∨ len = 0 ∨ s.purlin.miss.isSome then .next s
  else match mapTry s (addr - 0x40000000) len with
    | some s => .next s
    | none => .next ({ s with purlin := { s.purlin with miss := some (addr - 0x40000000, len) } }.respond [] 2)

/-- A Loft write into the window (R356). -/
def execPurlinMappedWrite (addr : Nat) (s : State) : Out :=
  if addr < 0x40000000 ∨ 0x50000000 ≤ addr then .next s else .next (busError s)

/-- No mapped miss has arrived for 2 µs: a suspended program or erase is resumed (R359). -/
def execPurlinResumeExpiry (s : State) : Out :=
  .next { s with purlin := { s.purlin with suspended := false, served := 0 } }

/-- A mapped miss has waited t_MAP_WAIT on a busy flash (R359). -/
def execMapWaitExpiry (addr : Nat) (s : State) : Out :=
  match s.purlin.miss with
  | some (a, _) =>
    if addr = 0x40000000 + a ∧ s.purlin.busy then .next (busError { s with purlin := { s.purlin with miss := none } }) else .next s
  | none => .next s

end Sys2Proof.Machine
end

