-- ==== Sys2Proof/Machine/Keys.lean ====
section
/-! DEFINITION. The KEY_ commands of the key store (R299 to R313, R433). -/

namespace Sys2Proof.Machine

open Sys2Proof

/-! ### Slots of the sender -/

/-- A KEY_ command: any sender, in served modes and PROVISION (R433); a Ridge request, which waits while the port is held
(R20). -/
def keyCmd (row : Nat) (len : State → Mailbox → Nat) (modes : List DevMode := servedModes ++ [.provision]) : Cmd :=
  { row := row, modes := modes, len := len, ridge := true }

/-- A slot of the requester's range (R305): the gate and the Ridge domain as a requester hold none. -/
def ownSlot (who : Requester) (i : Nat) : Bool :=
  match who with
  | .mailbox h => decide (128 + 8 * h.val ≤ i ∧ i < 136 + 8 * h.val)
  | .direct .loft _ => decide (16 ≤ i ∧ i < 128)
  | .direct _ _ => false

/-- The Loft's grants on system slots (R309): slot 2 as a DERIVE parent, 5 for SIGN and ECDH, 6 for SIGN. -/
def loftGrant (who : Requester) (i u : Nat) : Bool :=
  match who with
  | .direct .loft _ => decide ((i = 2 ∧ u = uDerive) ∨ (i = 5 ∧ (u = uSign ∨ u = uEcdh)) ∨ (i = 6 ∧ u = uSign))
  | _ => false

/-- The owner field of a requester's slots (R300). -/
def whoCode (who : Requester) : Nat := match who with | .mailbox h => 3 + h.val | .direct _ _ => 2

/-- Whose queue entries and contexts a requester's jobs take (R268). -/
def whoOwner (who : Requester) : JobOwner := match who with | .mailbox h => .inl h | .direct d _ => .inr d

/-- A domain is there to make requests: the Loft while Imvon runs and no takeover is in progress, the others while the device runs. -/
def domainUp (s : State) (d : Domain) : Bool :=
  match d with
  | .loft => decide (s.loft.run = .imvon) && s.loft.takeover.isNone
  | .ridge => s.ridge.powered
  | .gate t => running s && !fusedOff s t

/-- A request given in the layout of a command, as a mailbox would hold it. -/
def requestOf (op : Nat) (request : List Byte) : Mailbox :=
  { Mailbox.reset with
    opcode := BitVec.ofNat 16 op, length := BitVec.ofNat 32 request.length, fill := request.length, payload := Memory.write 0 [] 0 request }

/-- A KEY_ row: a mailbox command, or a domain's own request, whose status and result are answered to it; a request for the Ridge domain
waits while its port is held in its mailbox, a domain's own, which has no place to wait in, completes with ST_BUSY (R20, R29). -/
def runKey (s : State) (who : Requester) (c : Cmd) (body : State → Mailbox → Result) : Out :=
  match who with
  | .mailbox h => runCmd s h c fun s m _ => body s m
  | .direct d request =>
    let m := requestOf (c.row / 256) request
    if !domainUp s d || decide (rowOf m ≠ c.row) then .next s
    else if portHeld s c then .next (s.respond [] stBusy)
    else if c.len s m ≠ 0 ∧ !(c.bulk m && decide (c.len s m = stLong)) then .next (s.respond [] (c.len s m))
    else match body s m with
      | .done s st resp => .next (s.respond (if st = stOk then resp else []) st)
      | .wait s => .next s

/-- A slot number from a request byte. -/
def slotArg (m : Mailbox) (off : Nat) : Fin 256 := Fin.ofNat 256 (m.arg off 1)

/-- A use of a slot the sender may name (R303, R305): it must be VALID, since a BAD slot permits no use (R316's example) and an
EMPTY one has no usage bit, pass the job's own conditions `pre`, and hold its tag; `found` as in R314. -/
def useSlot (s : State) (allowed : Bool) (i : Fin 256) (found : Nat) (pre : KeySlot → Nat) (k : State → KeySlot → Result) :
    Result :=
  if !allowed then .done s stDenied []
  else if (s.slot i).state ≠ .valid then .done s stDenied []
  else if pre (s.slot i) ≠ 0 then .done s (pre (s.slot i)) []
  else
    let (s, ok) := checkTag s i found
    if ok then k s (s.slot i) else .done s stFault []

/-- Usage bits a type permits (R301). -/
def usageMask (ty : Nat) : Nat :=
  match ty with
  | 0 | 1 => 0x30F | 2 => 0x090 | 3 => 0x060 | 4 => 0x020 | 5 => 0x080 | _ => 0

/-- key_bytes a type permits (R301). -/
def keyBytesOk (ty n : Nat) : Bool :=
  match ty with
  | 0 => n = 16 | 1 => n = 32 | 2 => decide (16 ≤ n ∧ n ≤ 64) | 3 => n = 48 | 4 => n = 32 | 5 => n = 48 | _ => false

/-- The type, length and usage bits of R301; SESSION requires ENCRYPT or DECRYPT. -/
def attrOk (ty keyBytes usage : Nat) : Bool :=
  decide (ty ≤ 5 ∧ usage < 1024) && keyBytesOk ty keyBytes &&
    (BitVec.ofNat 10 usage &&& ~~~(BitVec.ofNat 10 (usageMask ty)) == 0#10) &&
    (!(BitVec.ofNat 10 usage).getLsbD uSession || decide (usage % 4 ≠ 0))

/-- A slot that holds an IV base beside its key: AES256 with SESSION (R301). -/
def holdsIv (ty usage : Nat) : Bool := decide (ty = 1) && (BitVec.ofNat 10 usage).getLsbD uSession

/-- Bytes of material a slot may hold: the key, and bytes 32 to 43 for an IV base (R301). -/
def materialOk (ty keyBytes usage : Nat) (bs : List Byte) : Bool :=
  (List.range 64).all fun i => decide (i < keyBytes) || (holdsIv ty usage && decide (32 ≤ i ∧ i < 44)) || bs.getD i 0 == 0

/-- Material of a generated or derived slot (R301, R308). -/
def newMaterial (ty keyBytes usage : Nat) (out : List Byte) : BitVec 512 :=
  let m := formMaterial (BitVec.ofNat 4 ty) keyBytes out
  if holdsIv ty usage then m ||| ((Config.sessionIvBase out).setWidth 512 <<< 256) else m

/-- A requester's slot with the given attributes. -/
def ownedSlot (who : Requester) (ty keyBytes usage : Nat) (exportable : Bool) : KeySlot :=
  { KeySlot.reset with
    ty := BitVec.ofNat 4 ty, keyBytes := BitVec.ofNat 7 keyBytes, usage := BitVec.ofNat 10 usage, exportable := exportable
    owner := BitVec.ofNat 5 (whoCode who) }

/-- A slot written (R302, R306, R307): contexts that loaded it are closed; ENCRYPT or DECRYPT draws a salt, and without one
the write fails with ST_FAULT. -/
def putSlot (s : State) (i : Fin 256) (k : KeySlot) : State × Nat :=
  let clear := fun s : State =>
    let s := closeSlotContexts s i.val
    { s with eng := { s.eng with sparRefused := s.eng.sparRefused.filter (· ≠ i.val) } }
  if k.may uEncrypt || k.may uDecrypt then
    match drbg s 0 4 with
    | (s, .ok b) => (writeSlot (clear s) i { k with salt := ofBytes 32 b, counter := 0 }, stOk)
    | (s, .error _) => (s, stFault)
  else (writeSlot (clear s) i k, stOk)

/-- A slot written and its slot word returned (R433). -/
def putDone (s : State) (i : Fin 256) (k : KeySlot) : Result :=
  let (s, st) := putSlot s i k
  .done s st (leBytes 8 (s.slot i).attrWord)

/-! ### Commands -/

/-- KEY_GENERATE (R312). -/
def execKeyGenerate (who : Requester) (s : State) : Out :=
  runKey s who (keyCmd (0x400 * 256) (fixedLen 8)) fun s m =>
    let i := slotArg m 0
    let ty := m.arg 1 1
    let n := m.arg 2 1
    let usage := m.arg 4 2
    if 1 < m.arg 3 1 ∨ !m.zero 6 2 ∨ 1024 ≤ usage then .done s stBadArg []
    else if !ownSlot who i.val then .done s stDenied []
    else if !attrOk ty n usage ∨ (s.slot i).state = .valid then .done s stBadArg []
    else
      match drbg s 0 (outputBytes (BitVec.ofNat 4 ty) n) with
      | (s, .error st) => .done s st []
      | (s, .ok out) =>
        putDone s i { ownedSlot who ty n usage (decide (m.arg 3 1 = 1)) with
          origin := 0, fresh := true, material := newMaterial ty n usage out }

/-- Length KEY_DERIVE accepts: its context length says (R433). -/
def keyDeriveLen (_ : State) (m : Mailbox) : Nat :=
  let n := m.length.toNat
  let l := m.arg 0x28 2
  if n < 0x2A then stShort
  else if 256 < l then (if 0x12A < n then stLong else 0)
  else if n < 0x2A + l then stShort else if 0x2A + l < n then stLong else 0

/-- KEY_DERIVE (R308, R309, R311). The limit of 256 bytes is that of the request's context: the boot nonce that R311 appends does not
count (DEDUCED, log entry 83). -/
def execKeyDerive (who : Requester) (s : State) : Out :=
  runKey s who (keyCmd (0x401 * 256) keyDeriveLen) fun s m =>
    let i := slotArg m 0
    let p := slotArg m 3
    let ty := m.arg 1 1
    let n := m.arg 2 1
    let usage := m.arg 4 2
    let nonce := decide (m.arg 6 1 = 1)
    let ll := m.arg 7 1
    let label := m.bytes 8 ll
    if 1 < m.arg 6 1 ∨ 1024 ≤ usage ∨ ll = 0 ∨ 32 < ll ∨ !m.zero (8 + ll) (32 - ll) ∨ 256 < m.arg 0x28 2 then
      .done s stBadArg []
    else if s.gmode.barren ∨ !ownSlot who i.val ∨ label.take 7 = ascii "SHAKAN-" then .done s stDenied []
    else if !attrOk ty n usage ∨ (s.slot i).state = .valid then .done s stBadArg []
    else
      let pre := fun k : KeySlot => if !k.may uDerive then stDenied else if 15 ≤ k.layer.toNat then stBadArg else 0
      useSlot s (ownSlot who p.val || loftGrant who p.val uDerive) p 2 pre fun s k =>
        match nonce, s.keys.bootNonce with
        | true, none => .done s stFault []
        | _, nn =>
          let ctx := m.bytes 0x2A (m.arg 0x28 2) ++ (if nonce then bytesOf 48 (nn.getD 0) else [])
          let out := kdf (bytesOf k.keyBytes.toNat k.material) label ctx (outputBytes (BitVec.ofNat 4 ty) n)
          putDone s i { ownedSlot who ty n usage false with
            origin := 1, fresh := nonce, parent := BitVec.ofNat 8 p.val, layer := k.layer + 1
            material := newMaterial ty n usage out }

/-- KEY_IMPORT plain (R301, R312); a mode other than 0 and 1 is refused here. -/
def execKeyImportPlain (who : Requester) (s : State) : Out :=
  runKey s who (keyCmd (0x402 * 256) (fixedLen 0x48)) fun s m =>
    let i := slotArg m 0
    let ty := m.arg 4 1
    let n := m.arg 5 1
    let usage := m.arg 6 2
    let bs := m.bytes 8 64
    if m.arg 1 1 ≠ 0 ∨ 1 < m.arg 3 1 ∨ 1024 ≤ usage then .done s stBadArg []
    else if !ownSlot who i.val then .done s stDenied []
    else if !attrOk ty n usage ∨ !materialOk ty n usage bs ∨ (s.slot i).state = .valid then .done s stBadArg []
    else
      putDone s i { ownedSlot who ty n usage (decide (m.arg 3 1 = 1)) with
        origin := 2, fresh := true, material := ofBytes 512 bs }

/-- The slot word and material of an exported blob, where its word keeps R301 and its state, owner, parent and reserved
fields are zero (R312). -/
def blobOk (p : List Byte) : Bool :=
  let w := BitVec.ofNat 64 (leAt 0 8 p)
  let ty := fieldOf w 5 2
  let n := fieldOf w 28 22
  let usage := fieldOf w 21 12
  decide (p.length = 72 ∧ w &&& 0xF0FFFFFFE0000C03#64 = 0 ∧ fieldOf w 7 6 ≤ 2) && attrOk ty n usage &&
    materialOk ty n usage (p.drop 8)

/-- KEY_IMPORT wrapped (R312). -/
def execKeyImportWrapped (who : Requester) (s : State) : Out :=
  runKey s who (keyCmd (0x402 * 256 + 1) (fixedLen 0x58)) fun s m =>
    let i := slotArg m 0
    let u := slotArg m 2
    if !ownSlot who i.val then .done s stDenied []
    else if (s.slot i).state = .valid then .done s stBadArg []
    else
      useSlot s (ownSlot who u.val) u 0 (fun k => if k.may uUnwrap then 0 else stDenied) fun s k =>
        match Config.kwpUnwrap (bytesOf k.keyBytes.toNat k.material) (m.bytes 8 80) with
        | none => .done s stDenied []
        | some p =>
          if !blobOk p then .done s stDenied []
          else
            let w := BitVec.ofNat 64 (leAt 0 8 p)
            putDone s i { ownedSlot who (fieldOf w 5 2) (fieldOf w 28 22) (fieldOf w 21 12) (bitOf w 9) with
              origin := 2, fresh := true, material := ofBytes 512 (p.drop 8) }

/-- KEY_EXPORT (R312): the KWP wrapping of the slot word, its state, owner and parent as zero, and the material. -/
def execKeyExport (who : Requester) (s : State) : Out :=
  runKey s who (keyCmd (0x403 * 256) (fixedLen 2)) fun s m =>
    let i := slotArg m 0
    let w := slotArg m 1
    useSlot s (ownSlot who i.val) i 3 (fun k => if k.exportable then 0 else stDenied) fun s k =>
      useSlot s (ownSlot who w.val) w 0 (fun k => if k.may uWrap then 0 else stDenied) fun s kw =>
        let text := leBytes 8 ({ k with owner := 0, parent := 0 }.attr 0) ++ bytesOf 64 k.material
        .done s stOk ((List.range 80).map (Config.kwpWrap (bytesOf kw.keyBytes.toNat kw.material) text))

/-- KEY_PUBLIC (R312, R433): slots 3 to 7 are open to any sender. -/
def execKeyPublic (who : Requester) (s : State) : Out :=
  runKey s who (keyCmd (0x404 * 256) (fixedLen 1) (servedModes ++ [.provision, .lockdown])) fun s m =>
    let i := slotArg m 0
    useSlot s (ownSlot who i.val || decide (3 ≤ i.val ∧ i.val ≤ 7)) i 4
      (fun k => if k.ty = 3 ∨ k.ty = 4 then 0 else stBadArg) fun s k => .done s stOk (slotPublic k)

/-- KEY_INFO (R300, R302): slot word and IV state of any slot, to any requester (R312). -/
def execKeyInfo (who : Requester) (s : State) : Out :=
  runKey s who { keyCmd (0x405 * 256) (fixedLen 1) (servedModes ++ [.provision, .lockdown]) with ridge := false } fun s m =>
    let k := s.slot (slotArg m 0)
    .done s stOk (leBytes 8 k.attrWord ++ bytesOf 4 k.salt ++ bytesOf 8 k.counter)

/-- KEY_DESTROY (R306, R307). -/
def execKeyDestroy (who : Requester) (s : State) : Out :=
  runKey s who (keyCmd (0x406 * 256) (fixedLen 1)) fun s m =>
    let i := slotArg m 0
    if !ownSlot who i.val then .done s stDenied []
    else .done (if (s.slot i).state = .empty then s else destroySlot s i) stOk []

/-- An ECDSA signature (R290): k from DRBG unit 1, both units; the rows' own `tag` is the requester's. -/
def signP384 (s : State) (k : KeySlot) (hash : Digest) (tag : Nat) (run : RafterRun) : State × Except Nat (List Byte) :=
  let n := s.eng.calls1
  match drbg s 1 48 with
  | (s, .error st) => (s, .error st)
  | (s, .ok _) => (jointJob s 0 1 tag 0xFF run, .ok ((List.range 96).map (Config.ecdsaSign (bytesOf 48 k.material) hash n)))

/-- An ML-DSA-87 signature (R290): 32 bytes of randomness from DRBG unit 1, checked on the other unit. -/
def signMldsa (s : State) (k : KeySlot) (ctx msg : List Byte) (tag : Nat) (run : RafterRun) :
    State × Except Nat (List Byte) :=
  let n := s.eng.calls1
  match drbg s 1 32 with
  | (s, .error st) => (s, .error st)
  | (s, .ok _) =>
    (jointJob s 2 4 tag 0xFF run, .ok ((List.range 4627).map (Config.mldsaSign (bytesOf 32 k.material) ctx msg n)))

/-- A provenance statement (R313). -/
def provStatement (s : State) (i : Fin 256) (k : KeySlot) (nonce : List Byte) : List Byte :=
  ascii "BPRV" ++ leBytes 2 1 ++ [BitVec.ofNat 8 i.val, if offersMldsa s then 0x03 else 0x01] ++ leBytes 8 k.attrWord ++
    leBytes 4 s.attic.cycles ++ leBytes 2 Config.ridgeIssue.toNat ++ leBytes 2 0 ++ nonce ++
    bytesOf 48 (Config.sha384 (slotPublic k)) ++ bytesOf 48 s.boot.romDigest ++ bytesOf 48 (s.reg 4).value

/-- KEY_PROVE (R313): its hash is a Thatch request, which wakes the device from DOZE (R60, R288). While slot 3 is not VALID, as before
OTP_UDS, the hardware cannot form the signature: ST_FAULT (DESIGN CHOICE, log entry 83). -/
def execKeyProve (who : Requester) (run : RafterRun) (s : State) : Out :=
  runKey s who (keyCmd (0x407 * 256) (fixedLen 0x24)) fun s m =>
    let i := slotArg m 0
    let k := s.slot i
    if !m.zero 1 3 then .done s stBadArg []
    else if s.gmode.barren ∨ !ownSlot who i.val ∨ k.state ≠ .valid ∨ (k.ty ≠ 3 ∧ k.ty ≠ 4) ∨ k.origin ≠ 0 ∨ k.exportable then
      .done s stDenied []
    else
      useSlot s true i 4 (fun _ => 0) fun s k =>
      if (s.slot 3).state ≠ .valid then .done s stFault []
      else
      useSlot s true 3 0 (fun _ => 0) fun s dik =>
        let s := wakeNow s
        let msg := provStatement s i k (m.bytes 4 32)
        match signP384 s dik (Config.sha384 msg) m.tag.toNat run with
        | (s, .error st) => .done s st []
        | (s, .ok sig) =>
          if !offersMldsa s then .done s stOk (msg ++ sig)
          else
            useSlot s true 4 0 (fun _ => 0) fun s dml =>
              match signMldsa s dml (ascii "SHAKAN-PRV") msg m.tag.toNat run with
              | (s, .error st) => .done s st []
              | (s, .ok sig2) => .done s stOk (msg ++ sig ++ sig2)

/-- KEY_RANDOM (R294, R433). -/
def execKeyRandom (who : Requester) (s : State) : Out :=
  runKey s who { keyCmd (0x408 * 256) (fixedLen 2) with ridge := false } fun s m =>
    let n := m.arg 0 2
    if n = 0 ∨ 4096 < n then .done s stBadArg []
    else match drbg s 1 n with
      | (s, .ok bs) => .done s stOk bs
      | (s, .error st) => .done s st []

/-- The Ridge domain checks every VALID slot (R303, R304); `upsets` are the bits that changed in the material since the
last check. -/
def execTagScan (upsets : List (Fin 256 × BitVec 512)) (s : State) : Out :=
  inOneCycle s <|
  if !s.ridge.powered then .next s
  else
    let s := upsets.foldl (fun s (i, x) =>
      let k := s.slot i
      if k.state = .valid then s.setSlot i { k with material := k.material ^^^ x } else s) s
    .next ((List.finRange 256).foldl (fun s i => (checkTag s i 1).1) s)

end Sys2Proof.Machine
end

