-- ==== Sys2Proof/Machine/Engines.lean ====
section
/-! DEFINITION. The engines: KEY_HASH, KEY_CIPHER, KEY_SIGN, KEY_VERIFY and KEY_ECDH (R268 to R292, R433), lane and unit
self-checks (R277, R279, R291), context idle time (R270), entropy source and DRBG (R293 to R295). -/

namespace Sys2Proof.Machine

open Sys2Proof

/-! ### Queue entries (R268, R269) -/

/-- Entries of the Spar queue allotted to a requester. -/
def sparAllot (o : JobOwner) : Nat := match o with | .inl _ => 12 | .inr .loft => 64 | .inr _ => 0

/-- Entries of the Rafter queue allotted to a requester, with their result space. -/
def rafterAllot (o : JobOwner) : Nat := match o with | .inl _ => 2 | .inr .loft => 24 | .inr .ridge => 8 | .inr (.gate _) => 2

/-- A requester has an entry free. -/
def entryFree (q : List JobOwner) (o : JobOwner) (allot : Nat) : Bool := decide ((q.filter (· = o)).length < allot)

/-- The entries that the signature checks of the walkers hold while their results are out (R138, R269). -/
def walkerEntries (s : State) : List JobOwner :=
  ((List.finRange 32).filter fun t => (s.tile t).verify.sigPending).map fun t => .inr (.gate t)

/-- The state a result leaves, changed. -/
def Result.mapState (r : Result) (f : State → State) : Result :=
  match r with | .done s st resp => .done (f s) st resp | .wait s => .wait (f s)

/-- A Spar job holds its queue entry until it is done; without a free one it is not admitted (R269, R480). -/
def withSparEntry (s : State) (who : Requester) (k : State → Result) : Result :=
  let put := fun (s : State) (q : List JobOwner) => { s with eng := { s.eng with sparQ := q } }
  if !entryFree s.eng.sparQ (whoOwner who) (sparAllot (whoOwner who)) then .done s stBusy []
  else (k (put s (s.eng.sparQ ++ [(whoOwner who)]))).mapState fun s => put s s.eng.sparQ.dropLast

/-- A Rafter job holds its queue entry with its result until the result is taken (R269, R482). -/
def withRafterEntry (s : State) (who : Requester) (k : State → Result) : Result :=
  let put := fun (s : State) (q : List JobOwner) => { s with eng := { s.eng with rafterQ := q } }
  if !entryFree (s.eng.rafterQ ++ walkerEntries s) (whoOwner who) (rafterAllot (whoOwner who)) then .done s stBusy []
  else (k (put s (s.eng.rafterQ ++ [(whoOwner who)]))).mapState fun s => put s s.eng.rafterQ.dropLast

/-! ### Thatch contexts -/

/-- The lowest free context of a requester, with its place. -/
def freeThatch (s : State) (o : JobOwner) : Option (Nat × Fin 512) :=
  (List.range (thatchRange o).2).findSome? fun c =>
    match thatchAt o c with
    | some i => if (s.eng.thatch[i]).isNone then some (c, i) else none
    | none => none

/-- Digest length in bytes of an algorithm. -/
def hashLen (alg : BitVec 2) : Nat := if alg = 0 then 32 else if alg = 1 then 48 else 64

/-- The digest of a message, or its HMAC from the two chaining states of the key, zero above its length (R273, R274). -/
def hashValue (alg : BitVec 2) (pads : Option (BitVec 512 × BitVec 512)) (data : List Byte) : BitVec 512 :=
  match pads with
  | none =>
    if alg = 0 then (Config.sha256 data).setWidth 512
    else if alg = 1 then (Config.sha384 data).setWidth 512 else Config.sha512 data
  | some p => Config.hmacValue alg p data

/-- Bytes a context may take (R273). -/
def hashLimit (alg : BitVec 2) : Nat := if alg = 0 then 2 ^ 61 - 1 else 2 ^ 125 - 1

/-- The count of bytes a context has taken, one block of HMAC key included (R273, R274). -/
def hashCount (c : HashCtx) : Nat := c.data.length + if c.slot.isSome then hashBlock c.alg else 0

/-- The chaining state of a context after `n` of the bytes it has taken, a state its lanes agreed on before taken as the start
(R276). -/
def HashCtx.stateAt (c : HashCtx) (n : Nat) : BitVec 512 :=
  match c.forced with
  | none => Config.hashState c.alg c.pads (c.data.take n)
  | some (m, v) => if n ≤ m then v else Config.hashOn c.alg v (slice m (n - m) c.data)

/-- Lane results cut to the digest length. -/
def cutRuns (r : CmpRuns) (n : Nat) : CmpRuns :=
  let f := fun x : LaneRun => { x with wrong := x.wrong.map fun d => d &&& BitVec.ofNat 512 (2 ^ (8 * n) - 1) }
  { r with runs := r.runs.map f, again := r.again.map f }

/-- One block of a DUAL context (R276, R279): the state it takes, or none where the context ends. -/
def dualRun (s : State) (r : CmpRuns) (truth : BitVec 512) : State × Option (BitVec 512) :=
  if lanesInService s < 2 then (s, none)
  else
    let a := runAt s r.runs 0 truth
    let b := runAt s r.runs 1 truth
    let c := runAt s r.runs 2 truth
    if a.2 = b.2 then (s, some a.2)
    else if c.2 = a.2 then (retireLane s 1 0xFF (b.1, c.1), some a.2)
    else if c.2 = b.2 then (retireLane s 1 0xFF (a.1, c.1), some b.2)
    else
      let s := katLanes s 0xFF [a.1, b.1, c.1] r.katFail
      let a := runAt s r.again 0 truth
      let b := runAt s r.again 1 truth
      if a.2 = b.2 ∧ 2 ≤ lanesInService s then (s, some a.2) else (s, none)

/-- The blocks that a DUAL context completes, each compared on two lanes in turn (R276); `ends`: the bytes taken at the end of each. -/
def dualBlocks : List Nat → List CmpRuns → State → HashCtx → State × Option HashCtx × List CmpRuns
  | [], rs, s, c => (s, some c, rs)
  | n :: ns, rs, s, c =>
    let truth := c.stateAt n
    match dualRun s (cutRuns (rs.headD noRuns) (if c.alg = 0 then 32 else 64)) truth with
    | (s, none) => (s, none, rs)
    | (s, some v) => dualBlocks ns (rs.drop 1) s (if v = truth then c else { c with forced := some (n, v) })

/-- The ends of the blocks that bytes a to b of a message complete. -/
def blockEnds (alg : BitVec 2) (a b : Nat) : List Nat :=
  let l := hashBlock alg
  (List.range (b / l - a / l)).map fun k => (a / l + k + 1) * l

/-- Input joins a context (R271, R276): a DUAL context runs each block it completes on two lanes. -/
def absorb (s : State) (c : HashCtx) (data : List Byte) (rs : List CmpRuns) : State × Option HashCtx × List CmpRuns :=
  let whole := { c with data := c.data ++ data }
  let ends := blockEnds c.alg c.data.length whole.data.length
  if c.dual then dualBlocks ends rs s whole
  else (s, some (if ends = [] then whole else { whole with tested := 0 }), rs)

/-- The padding of FIPS 180-4 after n bytes (R273). -/
def finalPad (alg : BitVec 2) (n : Nat) : List Byte :=
  let w := if alg = 0 then 8 else 16
  let l := hashBlock alg
  [0x80] ++ List.replicate ((2 * l - (n + 1 + w) % l) % l) 0 ++ beBytes w (8 * n)

/-- The last blocks of a DUAL context whose bytes are all taken, each on two lanes: those that hold the padding, then the outer pass of an
HMAC (R273, R274, R276). The answer is the digest, or none where the context ends. -/
def dualEnd (s : State) (c : HashCtx) (rs : List CmpRuns) : State × Option (BitVec 512) :=
  let padded := { c with data := c.data ++ finalPad c.alg (hashCount c) }
  let n := padded.data.length
  match dualBlocks (blockEnds c.alg c.data.length n) rs s padded with
  | (s, none, _) => (s, none)
  | (s, some x, rs) =>
    match c.pads with
    | none => (s, some (if x.forced.isNone then hashValue c.alg none c.data else Config.hashOut c.alg (x.stateAt n)))
    | some p =>
      let inner := bytesOf (hashLen c.alg) (Config.hashOut c.alg (x.stateAt n))
      let truth := Config.hashOn c.alg p.2 (inner ++ finalPad c.alg (hashBlock c.alg + hashLen c.alg))
      match dualRun s (cutRuns (rs.headD noRuns) (if c.alg = 0 then 32 else 64)) truth with
      | (s, none) => (s, none)
      | (s, some v) =>
        (s, some (if x.forced.isNone ∧ v = truth then hashValue c.alg c.pads c.data else Config.hashOut c.alg v))

/-- The two pad blocks of an HMAC key (R274), on two lanes for a DUAL context (R276): the states the context holds. -/
def padBlocks (s : State) (alg : BitVec 2) (dual : Bool) (key : List Byte) (rs : List CmpRuns) :
    State × Option (BitVec 512 × BitVec 512) × List CmpRuns :=
  let p := Config.hmacPads alg key
  if !dual then (s, some p, rs)
  else
    let n := if alg = 0 then 32 else 64
    match dualRun s (cutRuns (rs.headD noRuns) n) p.1 with
    | (s, none) => (s, none, rs)
    | (s, some a) =>
      match dualRun s (cutRuns ((rs.drop 1).headD noRuns) n) p.2 with
      | (s, none) => (s, none, rs)
      | (s, some b) => (s, some (a, b), rs.drop 2)

/-- A KEY_HASH row. -/
def hashCmd (sub : Nat) (len : State → Mailbox → Nat) : Cmd :=
  { keyCmd (0x409 * 256 + sub) len with ridge := decide (sub = 0 ∨ sub = 4), bulk := fun _ => decide (1 ≤ sub ∧ sub ≤ 4) }

/-- Length of a job with data: the fixed 0x48 bytes and what a mailbox payload leaves; a domain's own data has no such bound (R272,
R433). -/
def hashLenRange : State → Mailbox → Nat := rangeLen 0x48 0x2000

/-- Reserved bytes of a KEY_HASH request. -/
def hashReserved (m : Mailbox) : Bool := decide (m.arg 4 1 ≤ 1) && m.zero 5 3

/-- A KEY_HASH row (R421, R433): its Thatch request wakes the device from DOZE (R60). -/
def runHash (s : State) (who : Requester) (c : Cmd) (body : State → Mailbox → Result) : Out :=
  runKey s who c fun s m => if hashReserved m then body (wakeNow s) m else .done s stBadArg []

/-- The data of a KEY_HASH request. -/
def hashData (m : Mailbox) : List Byte := m.bytes 0x48 (m.length.toNat - 0x48)

/-- The open context a job names (R270, R274, R276): one closed by its slot's destruction answers ST_DENIED, one ended by
its lanes ST_FAULT, and is released. -/
def withThatch (s : State) (who : Requester) (m : Mailbox) (k : State → Fin 512 → HashCtx → Result) : Result :=
  match thatchAt (whoOwner who) (m.arg 1 1) with
  | none => .done s stBadArg []
  | some i =>
    match s.eng.thatch[i] with
    | none => .done s stBadArg []
    | some c =>
      if c.closed then .done (s.setThatch i none) stDenied []
      else if c.failed then .done (s.setThatch i none) stFault []
      else k s i c

/-- A context as OPEN and HASH form it: the HMAC key of the request is used and its pads are run, or none for a plain hash (R274);
lanes that agree on no pad state leave a context that has ended (R276). -/
def withNewHash (s : State) (who : Requester) (m : Mailbox) (bound : Option (Fin 320)) (rs : List CmpRuns)
    (k : State → HashCtx → List CmpRuns → Result) : Result :=
  let c : HashCtx :=
    { alg := BitVec.ofNat 2 (m.arg 2 1), slot := none, pads := none, bound := bound
      dual := bound.isSome || decide (m.arg 4 1 = 1), data := [], forced := none, tested := 0, tainted := false, closed := false, failed := false }
  if m.arg 3 1 = 0xFF then k s c rs
  else
    let i := slotArg m 3
    useSlot s (ownSlot who i.val) i 0 (fun x => if x.may uHmac then 0 else stDenied) fun s x =>
      match padBlocks s c.alg c.dual (bytesOf x.keyBytes.toNat x.material) rs with
      | (s, some p, rs) => k s { c with slot := some i.val, pads := some p } rs
      | (s, none, rs) => k s { c with slot := some i.val, pads := some (Config.hmacPads c.alg []), failed := true } rs

/-- How R250 codes a requester that extends: the Ridge domain, the Loft, the gate; a mailbox engine extends no register. -/
def whoExtends (who : Requester) : Nat :=
  match who with | .mailbox _ => 0 | .direct .ridge _ => 1 | .direct .loft _ => 3 | .direct (.gate _) _ => 4

/-- KEY_HASH OPEN (R272, R274, R275): with a bound register only SHA-384 without an HMAC key, by a requester R29 permits. -/
def execKeyHashOpen (who : Requester) (bound : Option (Fin 320)) (runs : List CmpRuns) (s : State) : Out :=
  runHash s who (hashCmd 0 (fixedLen 0x48)) fun s m =>
    if 2 < m.arg 2 1 ∨ (bound.isSome ∧ (m.arg 2 1 ≠ 1 ∨ m.arg 3 1 ≠ 0xFF)) then .done s stBadArg []
    else if bound.any fun r => !extendPermitted s (whoExtends who) r.val then .done s stDenied []
    else match freeThatch s (whoOwner who) with
    | none => .done s stBusy []
    | some (c, i) =>
      withNewHash s who m bound runs fun s x _ => .done (s.setThatch i (some x)) stOk [BitVec.ofNat 8 c]

/-- KEY_HASH UPDATE (R273, R276). -/
def execKeyHashUpdate (who : Requester) (runs : List CmpRuns) (s : State) : Out :=
  runHash s who (hashCmd 1 hashLenRange) fun s m =>
    withThatch s who m fun s i c =>
      let data := hashData m
      if hashLimit c.alg < hashCount c + data.length then .done s stExhausted []
      else
        match absorb s c data runs with
        | (s, some c, _) => .done (s.setThatch i (some c)) stOk []
        | (s, none, _) => .done (s.setThatch i (some { c with failed := true })) stOk []

/-- A message ends on its context (R272, R276, R279): `expected` is compared with, by R278 where the whole message came
with this job; a bound context sends its digest as an EXTEND and answers its status alone (R275), or ST_BUSY with nothing done while the
port that takes the EXTEND is held (R20). The context is released. -/
def finishHash (s : State) (who : Requester) (i : Option (Fin 512)) (c : HashCtx) (data : List Byte)
    (expected : Option (BitVec 512)) (rs : List CmpRuns) : Result :=
  if hashLimit c.alg < hashCount c + data.length then .done s stExhausted []
  else if c.bound.isSome ∧ (s.boot.ridgeHeld ∨ !s.ridge.powered) then .done s stBusy []
  else
    let n := hashLen c.alg
    let release := fun s : State => match i with | some i => s.setThatch i none | none => s
    if c.tainted ∨ c.failed then .done (release s) stFault []
    else
      match absorb s c data rs with
      | (s, none, _) => .done (release s) stFault []
      | (s, some x, rs) =>
        let r := cutRuns (rs.headD noRuns) n
        let truth := hashValue x.alg x.pads x.data
        let (s, value) := if c.dual then dualEnd s x rs else (s, some (runAt s r.runs 0 truth).2)
        match value with
        | none => .done (release s) stFault []
        | some v =>
          match c.bound, expected with
          | some b, _ =>
            let (s, st) := requestExtend s (whoExtends who) b (v.setWidth 384)
            .done (release s) (st.getD stOk) []
          | none, none => .done (release s) stOk (bytesOf n v)
          | none, some e =>
            let (s, ok) : State × Bool :=
              if v = e then (s, true)
              else if c.dual ∨ c.data ≠ [] then (s, false)
              else settleCmp s 0xFF truth e r
            .done (release s) stOk (BitVec.ofNat 8 (b01 (!ok)) :: bytesOf n (if ok then e else v))

/-- The expected value of a request, its padding zero. -/
def expectedOk (m : Mailbox) (alg : BitVec 2) : Bool := m.zero (8 + hashLen alg) (64 - hashLen alg)

/-- KEY_HASH FINAL (R272, R273, R275). -/
def execKeyHashFinal (who : Requester) (runs : List CmpRuns) (s : State) : Out :=
  runHash s who (hashCmd 2 hashLenRange) fun s m =>
    withThatch s who m fun s i c => finishHash s who (some i) c (hashData m) none runs

/-- KEY_HASH FINAL_COMPARE (R272, R278); refused on a bound context (R275). -/
def execKeyHashFinalCompare (who : Requester) (runs : List CmpRuns) (s : State) : Out :=
  runHash s who (hashCmd 3 hashLenRange) fun s m =>
    withThatch s who m fun s i c =>
      if c.bound.isSome ∨ !expectedOk m c.alg then .done s stBadArg []
      else finishHash s who (some i) c (hashData m) (some (ofBytes 512 (m.bytes 8 64))) runs

/-- KEY_HASH HASH (R272): a whole message, compared where the expected value is not zero; refused with a bound register (R275). -/
def execKeyHashHash (who : Requester) (bound : Option (Fin 320)) (runs : List CmpRuns) (s : State) : Out :=
  runHash s who (hashCmd 4 hashLenRange) fun s m =>
    let alg := BitVec.ofNat 2 (m.arg 2 1)
    if 2 < m.arg 2 1 ∨ bound.isSome ∨ !expectedOk m alg then .done s stBadArg []
    else if (freeThatch s (whoOwner who)).isNone then .done s stBusy []
    else
      withNewHash s who m none runs fun s c rs =>
        finishHash s who none c (hashData m) (if m.zero 8 64 then none else some (ofBytes 512 (m.bytes 8 64))) rs

/-- KEY_HASH CLOSE (R270, R272, R275); an operation number above 5 is refused here. -/
def execKeyHashClose (who : Requester) (s : State) : Out :=
  runHash s who (hashCmd 5 (fixedLen 0x48)) fun s m =>
    if m.arg 0 1 ≠ 5 then .done s stBadArg []
    else withThatch s who m fun s i _ => .done (s.setThatch i none) stOk []

/-! ### Spar contexts -/

/-- The lowest free context of a requester, with its place. -/
def freeSpar (s : State) (o : JobOwner) : Option (Nat × Fin 128) :=
  (List.range (sparRange o).2).findSome? fun c =>
    match sparAt o c with
    | some i => if (s.eng.spar[i]).isNone then some (c, i) else none
    | none => none

/-- A Spar job restarts a PLL that DOZE stopped (R492). -/
def sparWake (s : State) : State := { s with attic := { s.attic with sparStopped := false } }

/-- A KEY_CIPHER row. -/
def cipherCmd (sub : Nat) (len : State → Mailbox → Nat) : Cmd :=
  { keyCmd (0x40A * 256 + sub) len with
    ridge := decide (sub = 0 ∨ sub = 4 ∨ sub = 5), bulk := fun _ => decide (sub ∈ [1, 2, 4, 5, 6, 7]) }

def cipherRange : State → Mailbox → Nat := rangeLen 0x30 0x2000

/-- The data of a KEY_CIPHER request. -/
def cipherData (m : Mailbox) : List Byte := m.bytes 0x30 (m.length.toNat - 0x30)

def cipherDecrypt (m : Mailbox) : Bool := decide (m.arg 3 1 % 2 = 1)
def cipherSession (m : Mailbox) : Bool := decide (m.arg 3 1 / 2 % 2 = 1)

/-- Reserved flags and bytes of a KEY_CIPHER request. -/
def cipherReserved (m : Mailbox) : Bool := decide (m.arg 3 1 ≤ 3) && m.zero 5 3

/-- Mode and flags of an OPEN, SEAL or OPEN_SEALED: SESSION is an IV mode of GCM (R282, R286). -/
def cipherFormOk (m : Mailbox) : Bool := decide (m.arg 2 1 ≤ 3) && (!cipherSession m || decide (m.arg 2 1 = 0))

/-- The IV base of a SESSION slot (R301): bytes 32 to 43 of an AES256 slot. R301 permits SESSION to an AES128 slot and gives its base no
place: there it is a free value of the slot's material (DESIGN CHOICE, log entry 82). -/
def ivBase (k : KeySlot) : BitVec 96 :=
  if k.ty = 1 then (k.material >>> 256).setWidth 96 else Config.sessionIvBase (bytesOf 64 k.material)

/-- The IV of a slot's counter value (R282): salt and counter most significant byte first, or the base of DSP0277 with the
sequence number (PRESUMED, log entry 5). -/
def slotIv (k : KeySlot) (session : Bool) : List Byte :=
  if session then bytesOf 12 (ivBase k ^^^ k.counter.setWidth 96)
  else beBytes 4 k.salt.toNat ++ beBytes 8 k.counter.toNat

/-- The key length and usage an encrypting or decrypting job needs (R280, R284, R301). -/
def cipherPre (mode : Nat) (decrypt session : Bool) (k : KeySlot) : Nat :=
  let u := if mode < 2 then (if decrypt then uDecrypt else uEncrypt) else if decrypt then uUnwrap else uWrap
  if k.keyBytes ≠ 16 ∧ k.keyBytes ≠ 32 then stBadArg
  else if !k.may u ∨ (session ∧ !k.may uSession) then stDenied
  else if mode < 2 ∧ !decrypt ∧ !k.fresh then stDenied
  else 0

/-- An encrypting job takes the slot's counter value, or finds it at its limit (R283). -/
def takeCounter (s : State) (who : Requester) (i : Fin 256) (session : Bool) : State × Option (List Byte) :=
  let k := s.slot i
  if 2 ^ 48 ≤ k.counter.toNat then
    if i.val ∈ s.eng.sparRefused then (s, none)
    else
      let s := { s with eng := { s.eng with sparRefused := i.val :: s.eng.sparRefused } }
      (raise s 489 0xFF (payload [(0, 1, i.val), (1, 1, b01 session), (2, 1, (whoCode who) - 2), (4, 8, k.counter.toNat)]), none)
  else (s.setSlot i { k with counter := k.counter + 1 }, some (slotIv k session))

/-- A context as OPEN forms it. -/
def newSpar (m : Mailbox) (i : Fin 256) (k : KeySlot) (iv : List Byte) : SparCtx :=
  { mode := BitVec.ofNat 2 (m.arg 2 1), decrypt := cipherDecrypt m, session := cipherSession m, slot := i.val
    key := bytesOf k.keyBytes.toNat k.material, iv := iv, aad := [], text := [], textSeen := false, closed := false, failed := false }

/-- The slot named, used and its IV taken, for OPEN, SEAL and OPEN_SEALED (R280 to R284). -/
def withCipher (s : State) (who : Requester) (m : Mailbox) (decrypt : Bool) (k : State → SparCtx → Result) : Result :=
  let i := slotArg m 4
  let mode := m.arg 2 1
  useSlot s (ownSlot who i.val) i 0 (cipherPre mode decrypt (cipherSession m)) fun s x =>
    let s := sparWake s
    if 2 ≤ mode then k s (newSpar m i x [])
    else if decrypt then
      let iv := if mode = 1 then m.bytes 8 16 else if cipherSession m then slotIv x true else m.bytes 8 12
      k s { newSpar m i x iv with decrypt := true }
    else
      match takeCounter s who i (cipherSession m) with
      | (s, none) => .done s stExhausted []
      | (s, some iv) => k s { newSpar m i x (if mode = 1 then iv ++ [0, 0, 0, 1] else iv) with decrypt := false }

/-- A KEY_CIPHER row (R421, R433): its job holds an entry of the Spar queue. -/
def runSpar (s : State) (who : Requester) (c : Cmd) (k : State → Mailbox → Result) : Out :=
  runKey s who c fun s m => if cipherReserved m then withSparEntry s who fun s => k s m else .done s stBadArg []

/-- KEY_CIPHER OPEN (R280). -/
def execKeyCipherOpen (who : Requester) (s : State) : Out :=
  runSpar s who (cipherCmd 0 (fixedLen 0x30)) fun s m =>
    if !cipherFormOk m then .done s stBadArg []
    else match freeSpar s (whoOwner who) with
    | none => .done s stBusy []
    | some (c, i) =>
      withCipher s who m (cipherDecrypt m) fun s x => .done (s.setSpar i (some x)) stOk [BitVec.ofNat 8 c]

/-- The open context a job names (R270, R307). -/
def withSpar (s : State) (who : Requester) (m : Mailbox) (k : State → Fin 128 → SparCtx → Result) : Result :=
  match sparAt (whoOwner who) (m.arg 1 1) with
  | none => .done s stBadArg []
  | some i =>
    match s.eng.spar[i] with
    | none => .done s stBadArg []
    | some c =>
      if c.closed then .done (s.setSpar i none) stDenied []
      else if c.failed then .done (s.setSpar i none) stFault []
      else k (sparWake s) i c

/-- KEY_CIPHER AAD (R281). -/
def execKeyCipherAad (who : Requester) (s : State) : Out :=
  runSpar s who (cipherCmd 1 cipherRange) fun s m =>
    withSpar s who m fun s i c =>
      let d := cipherData m
      if c.mode ≠ 0 ∨ c.textSeen ∨ 0xFFFFFFFF < c.aad.length + d.length then .done s stBadArg []
      else .done (s.setSpar i (some { c with aad := c.aad ++ d })) stOk []

/-- The key stream byte at a text offset: counter mode from the block after the tag's for GCM, from the initial block for
CTR (R281, R286). -/
def sparStream (c : SparCtx) : Nat → Byte :=
  Config.aesStream c.key (if c.mode = 0 then c.iv ++ [0, 0, 0, 2] else c.iv)

/-- Text through the key stream from an offset. -/
def sparText (c : SparCtx) (off : Nat) (d : List Byte) : List Byte := d.mapIdx fun j b => b ^^^ sparStream c (off + j)

/-- Bytes of text a context may take (R281, R286): the last 32 bits of a CTR block never wrap. -/
def textLimit (c : SparCtx) : Nat :=
  if c.mode = 0 then 2 ^ 36 - 32
  else 16 * min (2 ^ 32 - 1) (2 ^ 32 - leNat (c.iv.drop 12).reverse)

/-- KEY_CIPHER TEXT (R281, R285, R286): the context keeps the ciphertext for its tag. -/
def execKeyCipherText (who : Requester) (s : State) : Out :=
  runSpar s who (cipherCmd 2 cipherRange) fun s m =>
    withSpar s who m fun s i c =>
      let d := cipherData m
      if 2 ≤ c.mode.toNat ∨ textLimit c < c.text.length + d.length then .done s stBadArg []
      else
        let out := sparText c c.text.length d
        .done (s.setSpar i (some { c with text := c.text ++ (if c.decrypt then d else out), textSeen := true })) stOk out

/-- The tag of a context (R281). -/
def sparTag (c : SparCtx) : List Byte := bytesOf 16 (Config.gcmTag c.key c.iv c.aad c.text)

/-- A matching tag advances the receive counter of a SESSION slot (R282), at once or once the port to the key store is there (R20). -/
def sessionAdvance (s : State) (c : SparCtx) : State :=
  let i := Fin.ofNat 256 c.slot
  if !c.session then s
  else if s.boot.ridgeHeld then { s with keys := { s.keys with held := s.keys.held ++ [.advance i] } }
  else advanceSlot s i

/-- KEY_CIPHER FINAL (R280, R285). -/
def execKeyCipherFinal (who : Requester) (s : State) : Out :=
  runSpar s who (cipherCmd 3 (fixedLen 0x30)) fun s m =>
    withSpar s who m fun s i c =>
      if c.mode ≠ 0 then .done s stBadArg []
      else
        let s := s.setSpar i none
        if !c.decrypt then .done s stOk (sparTag c ++ c.iv)
        else if sparTag c = m.bytes 0x18 16 then .done (sessionAdvance s c) stOk []
        else .done s stDenied []

/-- The parts of a whole message: additional data and text. -/
def sealedParts (m : Mailbox) : List Byte × List Byte :=
  let d := cipherData m
  (d.take (m.arg 0x28 8), d.drop (m.arg 0x28 8))

/-- A whole-message job is well formed. -/
def sealedOk (m : Mailbox) : Bool :=
  cipherFormOk m && decide (m.arg 2 1 = 0 ∧ m.arg 0x28 8 ≤ m.length.toNat - 0x30)

/-- KEY_CIPHER SEAL (R280, R282, R283). -/
def execKeyCipherSeal (who : Requester) (s : State) : Out :=
  runSpar s who (cipherCmd 4 cipherRange) fun s m =>
    if !sealedOk m then .done s stBadArg []
    else if (freeSpar s (whoOwner who)).isNone then .done s stBusy []
    else
      withCipher s who m false fun s c =>
        let (aad, d) := sealedParts m
        let out := sparText c 0 d
        .done s stOk (out ++ sparTag { c with aad := aad, text := out } ++ c.iv)

/-- KEY_CIPHER OPEN_SEALED (R285). -/
def execKeyCipherOpenSealed (who : Requester) (s : State) : Out :=
  runSpar s who (cipherCmd 5 cipherRange) fun s m =>
    if !sealedOk m then .done s stBadArg []
    else if (freeSpar s (whoOwner who)).isNone then .done s stBusy []
    else
      withCipher s who m true fun s c =>
        let (aad, d) := sealedParts m
        let c := { c with aad := aad, text := d }
        if sparTag c = m.bytes 0x18 16 then .done (sessionAdvance s c) stOk (sparText c 0 d) else .done s stDenied []

/-- Input lengths of KW and KWP (R287). -/
def wrapLenOk (mode : BitVec 2) (n : Nat) : Bool :=
  if mode = 2 then decide (n % 8 = 0 ∧ 16 ≤ n ∧ n ≤ 4096) else decide (1 ≤ n ∧ n ≤ 4096)

/-- KEY_CIPHER WRAP (R287): the job ends its context's message. -/
def execKeyCipherWrap (who : Requester) (s : State) : Out :=
  runSpar s who (cipherCmd 6 cipherRange) fun s m =>
    withSpar s who m fun s i c =>
      let d := cipherData m
      if c.mode.toNat < 2 ∨ c.decrypt ∨ !wrapLenOk c.mode d.length then .done s stBadArg []
      else
        let s := s.setSpar i none
        if c.mode = 2 then .done s stOk ((List.range (d.length + 8)).map (Config.kwWrap c.key d))
        else .done s stOk ((List.range ((d.length + 7) / 8 * 8 + 8)).map (Config.kwpWrap c.key d))

/-- KEY_CIPHER UNWRAP (R287). -/
def execKeyCipherUnwrap (who : Requester) (s : State) : Out :=
  runSpar s who (cipherCmd 7 cipherRange) fun s m =>
    withSpar s who m fun s i c =>
      let d := cipherData m
      if c.mode.toNat < 2 ∨ !c.decrypt ∨ !wrapLenOk c.mode d.length then .done s stBadArg []
      else
        let s := s.setSpar i none
        match (if c.mode = 2 then Config.kwUnwrap c.key d else Config.kwpUnwrap c.key d) with
        | some p => .done s stOk p
        | none => .done s stDenied []

/-- KEY_CIPHER CLOSE (R270); an operation number above 8 is refused here. -/
def execKeyCipherClose (who : Requester) (s : State) : Out :=
  runSpar s who (cipherCmd 8 (fixedLen 0x30)) fun s m =>
    if m.arg 0 1 ≠ 8 then .done s stBadArg []
    else withSpar s who m fun s i _ => .done (s.setSpar i none) stOk []

/-! ### Rafter jobs -/

/-- A KEY_ row whose job holds an entry of the Rafter queue. -/
def runRafter (s : State) (who : Requester) (c : Cmd) (k : State → Mailbox → Result) : Out :=
  runKey s who c fun s m => withRafterEntry s who fun s => k s m

/-- Length KEY_SIGN accepts: a 48-byte hash, or a message. -/
def keySignLen (s : State) (m : Mailbox) : Nat :=
  if m.arg 1 1 = 0 then fixedLen 0x134 s m else rangeLen 0x104 0x2000 s m

/-- The context string of a request, zero-padded to 256 bytes. -/
def ctxStringOk (m : Mailbox) (lenAt off : Nat) : Bool :=
  m.zero (off + m.arg lenAt 1) (256 - m.arg lenAt 1)

/-- KEY_SIGN (R289, R290, R310). -/
def execKeySign (who : Requester) (run : RafterRun) (s : State) : Out :=
  runRafter s who { keyCmd (0x40B * 256) keySignLen with bulk := fun m => decide (m.arg 1 1 ≠ 0) } fun s m =>
    let i := slotArg m 0
    let alg := m.arg 1 1
    if 1 < alg ∨ !m.zero 3 1 ∨ !ctxStringOk m 2 4 then .done s stBadArg []
    else if alg = 1 ∧ !offersMldsa s then .done s stDenied []
    else
      let pre := fun k : KeySlot =>
        if !k.may uSign then stDenied else if k.ty = (if alg = 0 then 3 else 4) then 0 else stBadArg
      useSlot s (ownSlot who i.val || loftGrant who i.val uSign) i 0 pre fun s k =>
        let out :=
          if alg = 0 then signP384 s k (ofBytes 384 (m.bytes 0x104 48)) m.tag.toNat run
          else signMldsa s k (m.bytes 4 (m.arg 2 1)) (m.bytes 0x104 (m.length.toNat - 0x104)) m.tag.toNat run
        match out with
        | (s, .ok sig) => .done s stOk sig
        | (s, .error st) => .done s st []

/-- Bytes of keys, signatures and hash of a KEY_VERIFY request. -/
def verifyBase (alg : Nat) : Nat := if alg = 0 then 241 else if alg = 1 then 7219 else 7460

/-- Length KEY_VERIFY accepts. -/
def keyVerifyLen (_ : State) (m : Mailbox) : Nat :=
  let n := m.length.toNat
  if n < 0x108 then stShort
  else
    let l := 0x108 + verifyBase (m.arg 0 1) + m.arg 4 4
    if n < l then stShort else if l < n then stLong else 0

/-- KEY_VERIFY (R289, R291): bit 0 the ECDSA half, bit 1 the ML-DSA half. -/
def execKeyVerify (who : Requester) (run : RafterRun) (s : State) : Out :=
  runRafter s who { keyCmd (0x40C * 256) keyVerifyLen with ridge := false } fun s m =>
    let alg := m.arg 0 1
    if 2 < alg ∨ !m.zero 2 2 ∨ !ctxStringOk m 1 8 ∨ (alg ≠ 0 ∧ 0x100000 < m.arg 4 4) then .done s stBadArg []
    else if alg ≠ 0 ∧ !offersMldsa s then .done s stDenied []
    else
      let b := m.bytes 0x108 (m.length.toNat - 0x108)
      let kp := if alg = 1 then 0 else 97
      let km := if alg = 0 then 0 else 2592
      let sp := if alg = 1 then 0 else 96
      let sm := if alg = 0 then 0 else 4627
      let hl := if alg = 1 then 0 else 48
      let p := slice 0 kp b
      let rs := slice (kp + km) sp b
      let tp := Config.p384ValidPoint p && sigScalarOk (rs.take 48) && sigScalarOk (rs.drop 48) &&
        Config.ecdsaVerify p (slice (kp + km + sp + sm) hl b) rs
      let tm := Config.mldsaVerify (slice kp km b) (m.bytes 8 (m.arg 1 1)) (b.drop (kp + km + sp + sm + hl))
        (slice (kp + km + sp) sm b)
      let (s, ep, em) := verifySig s (alg + 1) run m.tag.toNat 0xFF tp tm
      .done s stOk [BitVec.ofNat 8 ((if alg = 1 then 0 else b01 ep) + 2 * (if alg = 0 then 0 else b01 em))]

/-- KEY_ECDH (R289, R290). -/
def execKeyEcdh (who : Requester) (run : RafterRun) (s : State) : Out :=
  runRafter s who (keyCmd (0x40D * 256) (fixedLen 0x65)) fun s m =>
    let i := slotArg m 0
    let peer := m.bytes 4 97
    if !m.zero 1 3 then .done s stBadArg []
    else
      let pre := fun k : KeySlot => if !k.may uEcdh then stDenied else if k.ty = 3 then 0 else stBadArg
      useSlot s (ownSlot who i.val || loftGrant who i.val uEcdh) i 0 pre fun s k =>
        if !Config.p384ValidPoint peer then .done s stBadArg []
        else .done (jointJob s 0 2 m.tag.toNat 0xFF run) stOk
          ((List.range 48).map (Config.p384Ecdh (bytesOf 48 k.material) peer))

/-- A Rafter job of another requester ends (R291): the units' faults are settled; `op` numbers the operations of R288. -/
def execRafterJobDone (op : Fin 6) (run : RafterRun) (tag : Word) (tile : Option TileId) (s : State) : Out :=
  let t := match tile with | some t => t.val | none => 0xFF
  let lattice := decide (3 ≤ op.val)
  if lattice ∧ !offersMldsa s then .next s
  else match op.val with
    | 0 => .next (verifyHalf s 0 run.eFirst run 0 tag.toNat t true).1
    | 1 | 2 => .next (jointJob s 0 op.val tag.toNat t run)
    | 3 => .next (verifyHalf s 2 run.lFirst run 3 tag.toNat t true).1
    | 4 => .next (jointJob s 2 4 tag.toNat t run)
    | _ => .next (verifySig s 3 run tag.toNat t true true).1

/-! ### Self-checks and idle contexts -/

/-- A lane runs its known-answer test (R277). -/
def execLaneKat (lane : Fin 32) (pass : Bool) (s : State) : Out :=
  inOneCycle s <|
  if !running s ∨ !laneOk s lane.val then .next s
  else .next (if pass then lanePasses s lane.val else retireLane s 2 0xFF (lane.val, 0xFF))

/-- No job has named a context for t_CTX_IDLE (R270). -/
def execCtxIdleExpiry (h : LdId) (spar : Bool) (ctx : Fin 12) (s : State) : Out :=
  if spar then
    match sparAt (.inl h) ctx.val with
    | some i => .next (s.setSpar i none)
    | none => .next s
  else
    match thatchAt (.inl h) ctx.val with
    | some i => .next (s.setThatch i none)
    | none => .next s

/-- In DOZE, 1 ms with no Spar job queued stops the SPAR PLL (R492). -/
def execSparPllIdleStop (s : State) : Out :=
  if s.gmode.mode = .doze then .next { s with attic := { s.attic with sparStopped := true } } else .next s

/-! ### Entropy (R293 to R295) -/

/-- The fabric has left reset, so the noise source runs. -/
def sourceRuns (s : State) : Bool :=
  running s && decide (s.boot.phase ≠ .attic ∧ s.boot.phase ≠ .por ∧ s.eng.source ≠ 3)

/-- EVD_DRBG_HEALTH (R297): CRITICAL with state FAILED (R459). -/
def healthEvent (s : State) (test rawBits : Nat) : State :=
  raiseSev s 491 (if s.eng.source = 3 then 4 else 2) 0xFF (payload [(0, 1, test), (1, 1, s.eng.source.toNat), (2, 1, min 0xFF s.eng.hourFailures),
    (4, 4, min 0xFFFFFFFF rawBits)])

/-- A continuous health test fails (R295): restart, or FAILED at the third failure of the hour. -/
def execHealthTestFail (apt : Bool) (rawBits : Nat) (s : State) : Out :=
  if !sourceRuns s then .next s
  else
    let e := s.eng
    let e := { e with
      hourFailures := e.hourFailures + 1, inst0Ready := false, inst1Ready := false
      rct := if apt then e.rct else satInc 0xFF e.rct, apt := if apt then satInc 0xFF e.apt else e.apt }
    let e := { e with source := if 3 ≤ e.hourFailures then 3 else 2 }
    .next (healthEvent { s with eng := e } (b01 apt) rawBits)

/-- The start-up test ends (R293 to R295): the instances are instantiated or reseeded, or the third failure in succession
marks the source FAILED. -/
def execStartupTestDone (pass : Bool) (rawBits : Nat) (s : State) : Out :=
  if !sourceRuns s ∨ s.eng.source = 1 then .next s
  else if pass then
    .next { s with eng := { s.eng with
      source := 1, startFails := 0, inst0Ready := true, inst1Ready := true, since0 := 0, since1 := 0 } }
  else
    let fails := s.eng.startFails + 1
    .next (healthEvent { s with eng := { s.eng with
      startFails := fails, source := if 3 ≤ fails then 3 else s.eng.source } } 2 rawBits)

/-- A DRBG unit reseeds (R294). -/
def execDrbgReseed (inst1 : Bool) (s : State) : Out :=
  if s.eng.source ≠ 1 then .next s
  else if inst1 then .next { s with eng := { s.eng with since1 := 0, inst1Ready := true } }
  else .next { s with eng := { s.eng with since0 := 0, inst0Ready := true } }

end Sys2Proof.Machine
end

