-- ==== Sys2Proof/Machine/Fw.lean ====
section
/-! DEFINITION. Firmware loading: the FW_ commands in LOAD and MAINTAIN (R50 to R58, R432, R534), the Purlin copy (R51,
R236), the release of the Loft into Imvon and its readiness (R55), and lockstep takeovers (R33, R34, R533). -/

namespace Sys2Proof.Machine

open Sys2Proof

/-! ### Firmware slots -/

/-- Firmware slot 0 with its second copy (R442). -/
def FwLoad.setSlot0 (f : FwLoad) (i : Option FwImage) : FwLoad := { f with slot0 := i, second0 := i }

/-- Firmware slot 1 with its second copy (R442). -/
def FwLoad.setSlot1 (f : FwLoad) (i : Option FwImage) : FwLoad := { f with slot1 := i, second1 := i }

/-! ### Ends of a load -/

/-- A MAINTAIN before FW_ACTIVATE ends: slot 1 is discarded and the device returns to the mode it came from (R58). -/
def abortMaintain (s : State) : State :=
  let s := { s with fw := { s.fw.setSlot1 none with phase := .idle, image := none, windowRun := none, rejected := 0 } }
  changeMode s s.boot.maintainFrom .maintainAbort

/-- A load ends without firmware: LOAD returns to AWAIT with the cause, MAINTAIN to its previous mode (R55, R58). -/
def endLoad (s : State) (cause : ModeCause) : State :=
  match s.gmode.mode with
  | .load => enterAwait s cause
  | .maintain => abortMaintain s
  | _ => s

/-- A load that FW_ commands feed: LOAD before the release of the Loft, or MAINTAIN before FW_ACTIVATE. -/
def loadOpen (s : State) : Bool :=
  (decide (s.gmode.mode = .load) && decide (s.loft.run = .bootRom)) ||
    (decide (s.gmode.mode = .maintain) && decide (s.fw.phase ≠ .reload))

/-- Every block of the image has verified, the Loft is released into Imvon (R55): register 4, firmware slot 0, the system
slots of the firmware. -/
def releaseLoft (s : State) (img : FwImage) : State :=
  let s := extendReg s 4 2 0 0 img.digest
  let s := { s with
    fw := { s.fw.setSlot0 (some img) with phase := .verified, running := some img }
    loft := { s.loft with run := .released } }
  requestFirmware s

/-! ### Sender rules (R423, R424) -/

def fwPre (s : State) (h : LdId) : Nat := if bootRomMode s.gmode.mode && !isLoader s h then stDenied else 0
def fwRole (s : State) (h : LdId) : Bool := bootRomMode s.gmode.mode || isOwner s h

/-- An FW_ command of the loader in LOAD or the owner in MAINTAIN. -/
def fwCmd (row : Nat) (len : State → Mailbox → Nat) : Cmd :=
  { row := row * 256, pre := fwPre, modes := [.maintain], len := len, role := fwRole }

/-- The manifest being loaded, empty before one is accepted. -/
def fwManifest (s : State) : List Byte := match s.fw.image with | some i => i.manifest | none => []

/-- Blocks of the image being loaded; none before an accepted manifest (R54). -/
def fwBlocks (s : State) : Nat := match s.fw.image with | some i => blockCount i.manifest | none => 0

/-! ### FW_ commands -/

/-- FW_CLAIM (R50, R57). -/
def execFwClaim (h : LdId) (s : State) : Out :=
  runCmd s h { row := 0x800 * 256, modes := [.serve, .barren, .trial], len := fixedLen 0, role := fwRole } fun s _ _ =>
    match s.gmode.mode with
    | .gate =>
      if s.boot.heldClaim.isSome then .done s stBusy []
      else .wait { s with boot := { s.boot with heldClaim := some h } }
    | .await =>
      let s := beginLoad s h
      .done s stOk []
    | .load => .done s stBusy []
    | _ =>
      let s := { s with
        boot := { s.boot with maintainFrom := s.gmode.mode }
        fw := { s.fw.setSlot1 none with
          phase := .claimed, claimMb := h, fromPurlin := false, image := none, windowRun := none, rejected := 0 } }
      .done (changeMode s .maintain .maintainBegin) stOk []

/-- Status of a rejected firmware manifest (R534). -/
def rejectStatus (cause : Nat) : Nat :=
  match cause with
  | 0x03 | 0x04 | 0x05 => stDenied
  | 0x06 => stRevoked
  | 0x07 => stRollback
  | _ => stBadArg

/-- The manifest checks of a firmware image with the signature run where check 5 is reached (R52, R120). -/
def checkFirmware (s : State) (m : List Byte) (run : RafterRun) : State × Nat :=
  let first := checkManifest s .firmware m none
  if 0 < first ∧ first < 5 then (s, first)
  else
    let (s, ok) := manifestSig s m run 0xFF
    (s, checkManifest s .firmware m (some ok))

/-- Length FW_MANIFEST accepts (R53). -/
def fwManifestLen (_ : State) (m : Mailbox) : Nat :=
  let n := m.length.toNat
  let l := m.arg 8 4
  if n < 256 then stShort
  else if l < 0x100 ∨ 0x2000 < l then 0
  else if n < l then stShort else if l < n then stLong else 0

/-- FW_MANIFEST (R53, R55, R534). -/
def execFwManifest (h : LdId) (sig : RafterRun) (s : State) : Out :=
  runCmd s h (fwCmd 0x801 fwManifestLen) fun s mb _ =>
    if s.fw.image.isSome then .done s stBadArg []
    else if s.fw.windowRun.isSome then .done s stBusy []
    else
      let m := mb.bytes 0 mb.length.toNat
      let (s, cause) := if mfLen m = m.length then checkFirmware s m sig else (s, 1)
      if cause ≠ 0 then .done (endLoad s .loadReject) (rejectStatus cause) []
      else
        .done { s with fw := { s.fw with
          phase := .manifest
          image := some { manifest := m, digest := manifestDigest m, nodes := [], blocks := [] } } } stOk []

/-- Length FW_TREE accepts: its count of nodes. -/
def fwTreeLen (_ : State) (m : Mailbox) : Nat :=
  let n := m.length.toNat
  let k := m.arg 1 1
  if n < 8 then stShort else if n < 8 + 1536 * k then stShort else if 8 + 1536 * k < n then stLong else 0

/-- Nodes of one message in order, each verified against its verified parent (R53). -/
def takeNodes (s : State) (level : Nat) : List (Nat × List Byte × CmpRuns) → State × Nat
  | [] => (s, stOk)
  | (idx, node, run) :: rest =>
    match s.fw.image with
    | none => (s, stBadArg)
    | some img =>
      match parentEntry img.manifest img.nodes level idx with
      | none => (s, stBusy)
      | some p =>
        let (s, ok) := settleCmp s 0xFF (Config.sha384 node) p run
        if !ok then (s, stFault)
        else
          takeNodes { s with fw := { s.fw with
            image := some { img with nodes := assocSet img.nodes (nodeKey level idx) node } } } level rest

/-- FW_TREE (R53). -/
def execFwTree (h : LdId) (runs : List CmpRuns) (s : State) : Out :=
  runCmd s h (fwCmd 0x802 fwTreeLen) fun s mb _ =>
    match s.fw.image with
    | none => .done s stBadArg []
    | some img =>
      let level := mb.arg 0 1
      let count := mb.arg 1 1
      let first := mb.arg 4 4
      let n := blockCount img.manifest
      if !mb.zero 2 2 ∨ count = 0 ∨ 5 < count ∨ level = 0 ∨ treeDepth n < level ∨ nodesAt n level < first + count then .done s stBadArg []
      else
        let (s, st) := takeNodes s level ((List.range count).map fun k =>
          (first + k, mb.bytes (8 + 1536 * k) 1536, runs[k]?.getD { runs := [], again := [], katFail := [] }))
        .done s st []

/-- Length FW_BLOCK accepts: its index is read first, at check 4 (R54). -/
def fwBlockLen (s : State) (m : Mailbox) : Nat :=
  let n := m.length.toNat
  let i := m.arg 0 4
  if n < 4 then stShort
  else if fwBlocks s ≤ i then stBadArg
  else
    let l := 8 + blockLen (fwManifest s) i
    if n < l then stShort else if l < n then stLong else 0

/-- FW_BLOCK (R54, R55). -/
def execFwBlock (h : LdId) (run : CmpRuns) (s : State) : Out :=
  runCmd s h (fwCmd 0x803 fwBlockLen) fun s mb _ =>
    match s.fw.image with
    | none => .done s stBadArg []
    | some img =>
      let i := mb.arg 0 4
      if !mb.zero 4 4 then .done s stBadArg []
      else match leafEntry img.nodes i with
      | none => .done s stBusy []
      | some leaf =>
        if (assocGet img.blocks i).isSome then .done s stOk []
        else
          let data := mb.bytes 8 (blockLen img.manifest i)
          let (s, ok) := settleCmp s 0xFF (Config.sha384 data) leaf run
          if !ok then
            let s := { s with fw := { s.fw with rejected := s.fw.rejected + 1 } }
            .done (if s.fw.rejected = 16 then endLoad s .loadReject else s) stFault []
          else
            let img := { img with blocks := assocSet img.blocks i data }
            let s := { s with fw := { s.fw with image := some img, phase := .blocks } }
            if img.blocks.length < blockCount img.manifest then .done s stOk []
            else if s.gmode.mode = .load then .done (releaseLoft s img) stOk []
            else .done { s with fw := { s.fw.setSlot1 (some img) with phase := .verified } } stOk []

/-- FW_STATUS.phase (R432). -/
def FwPhase.code : FwPhase → Nat
  | .idle => 0 | .claimed => 1 | .manifest => 2 | .blocks => 3 | .verified => 4 | .reload => 5

/-- FW_STATUS (R432). -/
def execFwStatus (h : LdId) (s : State) : Out :=
  runCmd s h { row := 0x804 * 256, modes := servedModes, len := fixedLen 0 } fun s _ _ =>
    let (blocks, nodes) := match s.fw.image with
      | some i => (i.blocks.length, i.nodes.length)
      | none => (0, 0)
    .done s stOk (packBytes 0x14 [(0, 1, s.fw.phase.code), (1, 1, s.fw.claimMb.val), (2, 2, min 0xFFFF s.fw.rejected),
      (4, 4, fwBlocks s), (8, 4, blocks), (0x0C, 4, nodes), (0x10, 4, mfSvn (fwManifest s))] ++ bytesOf 48 (fwDigest s))

/-- FW_ABORT (R55, R58). -/
def execFwAbort (h : LdId) (s : State) : Out :=
  runCmd s h (fwCmd 0x805 (fixedLen 0)) fun s _ _ =>
    let s := endLoad s .loadAbort
    .done s stOk []

/-- Commands in flight when the Loft stops are finished (R34): a bank commit that waits for its switch switches and
completes, a re-sense that runs completes its command with ST_BUSY, and what is queued completes with ST_BUSY. -/
def finishInFlight (s : State) : State :=
  let s := (List.finRange 32).foldl switchBanks s
  let s := match s.otp.senser with
    | some h => complete { s with otp := { s.otp with senser := none } } h stBusy []
    | none => s
  s.responder.foldl (fun s h => complete s h stBusy []) s

/-- FW_ACTIVATE (R58, R448): the reload starts as the command completes. Its Modes column asks for every block verified (R424, R432). -/
def execFwActivate (h : LdId) (s : State) : Out :=
  runCmd s h { row := 0x806 * 256, modes := [.maintain], len := fixedLen 0, role := ownerOnly } fun s _ _ =>
    if s.fw.phase ≠ .verified then .done s stDenied []
    else if s.fw.slot0.isNone then .done s stFault []
    else
      let s := complete s h stOk []
      let s := releaseOwner (finishInFlight s) (.inr .loft)
      .wait { s with
        fw := { s.fw with phase := .reload, running := none }
        loft := { s.loft with run := .reload } }

/-- Bytes of the owner push buffer, 512 MiB (R431, R443). -/
def pushSize : Nat := 0x20000000

/-- FW_WINDOW (R432); its Modes column asks for no manifest accepted (R424). -/
def execFwWindow (h : LdId) (s : State) : Out :=
  runCmd s h { row := 0x807 * 256, modes := [.maintain], len := fixedLen 8, role := ownerOnly } fun s mb _ =>
    if s.fw.image.isSome then .done s stDenied []
    else if pushSize < mb.arg 0 4 + mb.arg 4 4 then .done s stBadArg []
    else if s.fw.windowRun.isSome then .done s stBusy []
    else .done { s with fw := { s.fw with windowRun := some (mb.arg 0 4, mb.arg 4 4) } } stOk []

/-! ### Push format content (R225) -/

/-- A manifest at the start of content in push format: its manifest_len bytes, at most 64 KiB. -/
def pushManifest (read : Nat → Nat → List Byte) : List Byte :=
  let hd := read 0 256
  read 0 (if 256 ≤ mfLen hd ∧ mfLen hd ≤ 0x10000 then mfLen hd else 256)

/-- The nodes of the tree part, levels from 1 up. -/
def pushNodes (read : Nat → Nat → List Byte) (m : List Byte) : List (Nat × List Byte) :=
  let n := blockCount m
  (List.range (treeDepth n)).flatMap fun l => (List.range (nodesAt n (l + 1))).map fun j =>
    (nodeKey (l + 1) j, read (0x10000 + nodeOffset n (l + 1) j) 1536)

/-- The blocks of the image part. -/
def pushBlocks (read : Nat → Nat → List Byte) (m : List Byte) : List (Nat × List Byte) :=
  (List.range (blockCount m)).map fun b => (b, read (0x10000 + pushTreeLen m + 4096 * b) (blockLen m b))

/-- Content in push format as a firmware image. -/
def pushImage (read : Nat → Nat → List Byte) : FwImage :=
  let m := pushManifest read
  { manifest := m, digest := manifestDigest m, nodes := pushNodes read m, blocks := pushBlocks read m }

/-- Tree and blocks of an image all verify, each comparison settled by R278; the firmware pseudo-tile is no tile. -/
def imageOk (s : State) (i : FwImage) (runs : List CmpRuns) : State × Bool :=
  let (c, found) := checkBulk { st := s, runs := runs } 0xFF i.manifest i.nodes i.blocks false
  (c.st, found.fail.isNone)

/-- FW_WINDOW's content is verified into slot 1 (R228, R432); any failure ends the MAINTAIN. -/
def execFwWindowVerified (sig : RafterRun) (runs : List CmpRuns) (s : State) : Out :=
  inOneCycle s <|
  match s.fw.windowRun with
  | none => .next s
  | some (off, count) =>
    if s.gmode.mode ≠ .maintain ∨ s.fw.phase ≠ .claimed then .next s
    else
      let read := fun a n => Memory.read 0xFF s.memctl.push (off + a) n
      let m := pushManifest read
      if !formatOk m ∨ count ≠ mfImageLen m ∨ pushSize < off + pushLen m ∨ poisonIn s 32 off (pushLen m) then
        .next (abortMaintain s)
      else
        let (s, cause) := checkFirmware s m sig
        let img := pushImage read
        let (s, ok) := if cause ≠ 0 then (s, false) else imageOk s img runs
        if !ok then .next (abortMaintain s)
        else .next { s with fw := { s.fw.setSlot1 (some img) with phase := .verified, image := some img, windowRun := none } }

/-- SVN increments burned until counter c equals v (R235, R322): each change of the count is a fuse move. -/
def burnSvn (c : Nat) (burns : List Burn) : Nat → Nat → State → Nat → State × Nat
  | 0, _, s, _ => (s, stOk)
  | fuel + 1, v, s, k =>
    let n := svnCount s c
    if v ≤ n then (s, stOk)
    else
      let row := 256 + 2 * c + n / 32
      let want := effNormal s row ||| (1#32 <<< (n % 32))
      let (s, out) := programWord s row want (burnAt burns k)
      let after := svnCount s c
      let s := if after ≠ n then fuseMove s 1 c after n else s
      if out.st ≠ stOk then (otpFault s row 7 6 want.toNat out.strict.toNat 0 out.pulses, stFault)
      else burnSvn c burns fuel v s (k + 1)

/-- FW_SVN_COMMIT (R235, R236). -/
def execFwSvnCommit (h : LdId) (burns : List Burn) (s : State) : Out :=
  runCmd s h { row := 0x808 * 256, modes := [.serve, .doze, .maintain, .barren], len := fixedLen 4,
               role := fun s h => ownerOnly s h && !s.otp.overrides } fun s mb _ =>
    let v := mb.arg 0 4
    match s.fw.running with
    | none => .done s stBadArg []
    | some img =>
      if 64 < v ∨ mfSvn img.manifest < v then .done s stBadArg []
      else if s.gmode.mode = .maintain ∨ otpBusy s h then .done s stBusy []
      else if v ≤ svnCount s 32 then .done s stOk []
      else
        let (s, st) := burnSvn 32 burns 64 v (otpRuns s) 0
        .done s st []

/-! ### The Purlin copy (R223, R236) -/

def fwSlotBase (f1 : Bool) : Nat := if f1 then 0x1800000 else 0x1000000

/-- The image in Purlin slot F0 or F1. -/
def purlinImage (s : State) (f1 : Bool) : FwImage :=
  pushImage fun a n => Memory.read 0xFF s.purlin.contents (fwSlotBase f1 + a) n

/-- The slot the boot ROM loads (R236): the higher svn of those whose manifest passes checks 1 to 9, F0 on a tie; F0 where
neither passes. -/
def chooseSlot (ok0 ok1 : Bool) (m0 m1 : List Byte) : Bool := ok1 && (!ok0 || decide (mfSvn m0 < mfSvn m1))

/-- Checks 1 to 9 hold: the cause is none or that of a later check. -/
def passes9 (cause : Nat) : Bool := decide (cause = 0 ∨ cause = 0x0A ∨ cause = 0x0B)

/-- The slot the boot ROM would load at this moment. -/
def bootSlot (s : State) : Bool :=
  let m := fun f1 => (purlinImage s f1).manifest
  let ok := fun f1 => passes9 (checkManifest s .firmware (m f1) (some (sigTrue (m f1))))
  chooseSlot (ok false) (ok true) (m false) (m true)

/-- A store into the Purlin flash that failed its read-back (R360). -/
def storeFailed (s : State) (who addr : Nat) : State :=
  purlinFault (setPurlin s 2) 4 s.purlinCode who addr 0

/-- Content in push format written from an address, the area erased first; the manifest is the last part written, and
absent where the store failed before it (R229, R236). -/
def pushWrite (c : List Host.Cell) (base size : Nat) (i : FwImage) (withManifest : Bool) : List Host.Cell :=
  let n := blockCount i.manifest
  let c := Memory.erase c base size
  let c := i.nodes.foldl (fun c x =>
    Memory.write 0xFF c (base + 0x10000 + nodeOffset n (x.1 / 65536) (x.1 % 65536)) x.2) c
  let c := i.blocks.foldl (fun c x => Memory.write 0xFF c (base + 0x10000 + pushTreeLen i.manifest + 4096 * x.1) x.2) c
  if withManifest then Memory.write 0xFF c base i.manifest else c

/-- FW_PURLIN_STORE (R236). -/
def execFwPurlinStore (h : LdId) (readBackOk : Bool) (s : State) : Out :=
  runCmd s h { row := 0x809 * 256, modes := [.serve, .doze, .maintain, .barren], len := fixedLen 0, role := ownerOnly }
    fun s _ _ =>
    match s.fw.slot0 with
    | none => .done (purlinFault s 4 s.purlinCode 0 (fwSlotBase (!bootSlot s)) 0) stFault []
    | some img =>
      if s.purlin.state ≠ 1 then
        .done (purlinFault s 4 s.purlinCode 0 (fwSlotBase (!bootSlot s)) 0) stFault []
      else
        let f1 := !bootSlot s
        let s := { s with purlin := { s.purlin with
          contents := pushWrite s.purlin.contents (fwSlotBase f1) 0x800000 img readBackOk } }
        if readBackOk then .done s stOk [] else .done (storeFailed s 0 (fwSlotBase f1)) stFault []

/-- GATE ends when t_GATE_MAX expires (R48). -/
def execGateMaxExpiry (s : State) : Out := inOneCycle s <| if s.gmode.mode = .gate then .next (enterAwait s .gateDone) else .next s

/-- The AWAIT window expires (R51): the Purlin copy is loaded. -/
def execAwaitWindowExpiry (s : State) : Out :=
  inOneCycle s <|
  if s.gmode.mode = .await ∧ s.boot.windowRunning then
    let s := { s with
      boot := { s.boot with windowRunning := false }
      fw := { s.fw with phase := .claimed, claimMb := 0, fromPurlin := true, image := none, rejected := 0 } }
    .next (changeMode s .load .window)
  else .next s

/-- The Purlin copy has loaded or failed (R51, R55, R236): `readOk` is whether it could be read. -/
def execPurlinFwLoadDone (readOk : Bool) (sig : RafterRun) (runs : List CmpRuns) (s : State) : Out :=
  inOneCycle s <|
  if s.gmode.mode ≠ .load ∨ !s.fw.fromPurlin ∨ s.loft.run ≠ .bootRom then .next s
  else
    let i0 := purlinImage s false
    let i1 := purlinImage s true
    let (s, c0) := checkFirmware s i0.manifest sig
    let (s, c1) := checkFirmware s i1.manifest sig
    let f1 := chooseSlot (passes9 c0) (passes9 c1) i0.manifest i1.manifest
    let img := if f1 then i1 else i0
    let (s, ok) := if readOk ∧ s.purlin.state = 1 ∧ (if f1 then c1 else c0) = 0 then imageOk s img runs else (s, false)
    if ok then
      let s := releaseLoft { s with fw := { s.fw with image := some img } } img
      .next (advance 16 s)
    else
      let s := { s with boot := { s.boot with purlinBlocked := true } }
      let s := enterAwait s .purlinBad
      .next (purlinFault s 1 s.purlinCode 3 (fwSlotBase f1) 0)

/-! ### Imvon ready, watchdog, idle (R55, R58) -/

/-- The device after a reload that succeeded: slot 1 becomes slot 0, and the image that ran is kept as slot 1. -/
def swapSlots (f : FwLoad) : FwLoad :=
  { f with phase := .idle, slot0 := f.slot1, second0 := f.second1, slot1 := f.slot0, second1 := f.second0, image := none }

/-- Logical devices whose head is up, as a mask (R408). -/
def upLds (s : State) : BitVec 16 :=
  (List.finRange 16).foldl (fun m f => putBit m f.val ((s.ld f).enabled && s.host.heads[headOf s f].up)) 0

/-- Imvon signals ready (R55, R58): after a reload that succeeded G_MODE names the owner's mailbox as the one the running firmware
came from (R35), and a LOCKDOWN cause that arose meanwhile is acted on (R37, R58). A reload that fell back leaves slot 1 empty,
the rejected image being of no further use (DESIGN CHOICE, log entry 62). -/
def execImvonReady (s : State) : Out :=
  inOneCycle s <|
  match s.loft.run with
  | .released =>
    if s.gmode.mode ≠ .load then .next { s with loft := { s.loft with run := .imvon } }
    else
      let mode : DevMode :=
        if s.otp.lifecycle = .blank then .provision else if s.gmode.barren then .barren else .serve
      let purlin := s.fw.fromPurlin
      let s := { s with
        gmode := { s.gmode with fwFromPurlin := purlin, loaderMb := if purlin then 0 else s.fw.claimMb }
        host := { s.host with
          loaderAlive := !purlin && (upLds s).getLsbD s.fw.claimMb.val, stayed := upLds s }
        loft := { s.loft with run := .imvon }
        fw := { s.fw with phase := .idle, image := none } }
      .next (changeMode s mode .loadDone)
  | .reload =>
    if s.fw.running.isNone then .next s
    else
      let ok := s.fw.image.isSome
      let s := { s with
        loft := { s.loft with run := .imvon, onPairB := false }
        fw := if ok then swapSlots s.fw else { s.fw.setSlot1 none with phase := .idle, image := none } }
      let s := if ok then { s with
          gmode := { s.gmode with fwFromPurlin := false, loaderMb := s.fw.claimMb }
          host := { s.host with loaderAlive := s.host.loaderAlive && s.host.stayed.getLsbD s.fw.claimMb.val } } else s
      let s :=
        if s.gmode.mode = .maintain then
          changeMode s s.boot.maintainFrom (if ok then .maintainDone else .maintainFallback)
        else s
      .next (heldLockdownNow s)
  | _ => .next s

/-- EVD_LOFT_WATCHDOG (R460): context 0 LOAD, 1 MAINTAIN; t_FWREADY is 2,000 ms. -/
def watchdog (s : State) (context : Nat) : State := raise s 504 0xFF (payload [(0, 1, context), (4, 4, 2000)])

/-- t_FWREADY expires (R55, R58). -/
def execFwReadyTimeout (s : State) : Out :=
  inOneCycle s <|
  match s.loft.run with
  | .released =>
    let s := { s with loft := { s.loft with run := .bootRom }, fw := { s.fw with running := none } }
    if s.gmode.mode = .load then .next (watchdog (enterAwait s .fwNotReady) 0) else .next (watchdog s 0)
  | .reload =>
    if s.fw.running.isNone then .next s
    else .next (watchdog { s with fw := { s.fw with image := none, running := none } } 1)
  | _ => .next s

/-- Every block of an image is hashed again as it is copied, in order, up to the first that fails its leaf (R58), each comparison settled by
R278: `now` gives the blocks that no longer read as they were verified. -/
def recheckImage (s : State) (img : FwImage) (now : List (Nat × List Byte)) (runs : List CmpRuns) : State × Bool :=
  let (c, ok) := (List.range (blockCount img.manifest)).foldl (fun (acc : Checker × Bool) b =>
    match acc.2, (assocGet now b).orElse fun _ => assocGet img.blocks b, leafEntry img.nodes b with
    | true, some d, some l => acc.1.cmp 0xFF (Config.sha384 (d.take (blockLen img.manifest b))) l
    | _, _, _ => (acc.1, false)) ({ st := s, runs := runs }, true)
  (c.st, ok)

/-- The copy of a reload into Loft SRAM ends (R58): every block is hashed again and compared with its leaf (R278). The image copied is slot
1's, or slot 0's in a fallback. -/
def execReloadCopyDone (blocks : List (Nat × List Byte)) (runs : List CmpRuns) (s : State) : Out :=
  inOneCycle s <|
  if s.loft.run ≠ .reload ∨ s.fw.running.isSome then .next s
  else
    match (if s.fw.image.isSome then s.fw.slot1 else s.fw.slot0) with
    | none => .next { s with fw := { s.fw with image := none } }
    | some img =>
      let (s, ok) := recheckImage s img blocks runs
      if !ok then .next { s with fw := { s.fw with image := none } }
      else
      let s := extendReg s 4 1 0 0 img.digest
      let s := requestFirmware { s with fw := { s.fw with running := some img } }
      match s.boot.heldLockdown with
      | some c => .next (changeMode { s with boot := { s.boot with heldLockdown := none } } .lockdown c)
      | none => .next s

/-- t_LOADIDLE expires (R55, R58). -/
def execLoadIdleExpiry (s : State) : Out :=
  inOneCycle s <|
  if loadOpen s && !s.fw.fromPurlin then .next (endLoad s .loadIdle) else .next s

/-- The logical device h loses its link or is reset: a loader's claim ends, a held claim lapses, a MAINTAIN is aborted
(R50, R55, R58, R410). -/
def fwLinkLost (s : State) (h : LdId) : State :=
  if s.boot.heldClaim = some h then { s with boot := { s.boot with heldClaim := none } }
  else if s.fw.fromPurlin ∨ s.fw.claimMb ≠ h then s
  else if loadOpen s then endLoad s .loadLink
  else if s.gmode.mode = .load ∧ s.loft.run = .released then
    endLoad { s with loft := { s.loft with run := .bootRom }, fw := { s.fw with running := none } } .loadLink
  else s

/-! ### Lockstep (R33, R34, R533) -/

/-- EVD_LOCKSTEP_TAKEOVER (R460). -/
def takeoverEvent (s : State) (outcome : Nat) (k : Takeover) (us : Nat) : State :=
  raise s 505 0xFF (payload [(0, 1, outcome), (1, 1, k.mode.code), (2, 2, k.okCount), (4, 2, k.busyCount), (8, 4, us)])

/-- Pair A mismatches and pair B takes over; a mismatch of pair B stops the Loft. -/
def lockstepMismatch (s : State) : State :=
  match s.loft.run with
  | .off | .stopped | .reload => s
  | run =>
    if s.loft.onPairB then
      let k := s.loft.takeover.getD { mode := s.gmode.mode, okCount := 0, busyCount := 0, bootRom := false }
      let s := { s with loft := { s.loft with run := .stopped, takeover := none } }
      let s := if s.gmode.mode = .depot then s else lockdownLoft s
      takeoverEvent (s.fresh 1) 1 k (Config.freeNat s.freeCtr)
    else
      let rom := decide (run = .bootRom)
      let s := releaseOwner s (.inr .loft)
      let s := { s with loft := { s.loft with
        onPairB := true, takeover := some { mode := s.gmode.mode, okCount := 0, busyCount := 0, bootRom := rom } } }
      if s.gmode.mode = .cold ∧ s.boot.phase ≠ .ended then s
      else
        let s := finishInFlight s
        if s.gmode.mode = .load ∧ rom then enterAwait s .loadTakeover
        else if s.gmode.mode = .maintain then abortMaintain s
        else s

/-- LOCKSTEP_MISMATCH (R33, R34). -/
def execLockstepMismatch (s : State) : Out := inOneCycle s <| .next (lockstepMismatch s)

/-- A takeover ends: the mailboxes accept commands again (R34). -/
def execTakeoverEnd (us : Nat) (s : State) : Out :=
  inOneCycle s <|
  match s.loft.takeover with
  | none => .next s
  | some k =>
    let s := { s with loft := { s.loft with takeover := none } }
    .next (advance 16 (takeoverEvent s (if k.bootRom then 2 else 0) k us))

end Sys2Proof.Machine
end

