-- ==== Sys2Proof/Machine/Sweep.lean ====
section
/-! DEFINITION. The background sweep, the refill of copy blocks, repairs and resyncs (R175 to R186). -/

namespace Sys2Proof.Machine

open Sys2Proof

/-- A sweep may run: RUN, phase DONE, enabled, in a mode that permits sweeps (R39, R176). -/
def sweepAllowed (s : State) (t : TileId) : Bool :=
  let x := s.tile t
  decide (x.ctl.state = .run ∧ x.verify.phase = 8) && x.active.sweepOn && fetchAllowed s t

/-! ### The start of a pass (R176, R183) -/

/-- The probe of a down flash (R183): the answer is entered, a new density other than the fetch's is reported; the
answer says whether a resync follows. -/
def probeDown (s : State) (t : TileId) (twin : Bool) (answer : FlashAnswer) : State × Bool :=
  let x := s.tile t
  let down := if twin then x.sweep.twinDown else x.sweep.mainDown
  if !down then (s, false)
  else
    let old := flashDisc x twin
    let fetched := if twin then x.sweep.densityTwin else x.sweep.densityMain
    let d := discoverOn s t.val old answer
    let ok := decide (d.result.val = 0)
    let s := s.modTile t fun x =>
      { x with eave := { x.eave with
          mainShown := x.eave.mainShown || !twin, twinShown := x.eave.twinShown || twin
          main := if twin then x.eave.main else some d
          twin := if twin then some d else x.eave.twin
          mainId := if !twin && ok then d.id else x.eave.mainId
          twinId := if twin && ok then d.id else x.eave.twinId } }
    if !ok then (s, false)
    else if d.density.toNat = fetched then (s, true)
    else
      let changed := match old with
        | some o => decide (o.result.val ≠ 0 ∨ o.density ≠ d.density)
        | none => true
      (if changed then flashFault s t 5 twin 0 6 0xFFFFFFFF 0 1 0 0 else s, false)

/-- A pass begins: down flashes are probed, and the pass becomes a resync where one answers as before (R176, R183); a sweep
falling due wakes the device from DOZE (R60). With both flashes down and both answering the spec gives one resync in a pass and no
order: main is brought back in this one, the twin in a later one (DESIGN CHOICE, log entry 68). -/
def execSweepPassStart (t : TileId) (main twin : FlashAnswer) (s : State) : Out :=
  inOneCycle s <|
  if !sweepAllowed s t ∨ (s.tile t).sweep.phase ≠ 0 then .next s
  else
    let s := wake s
    let (s, syncMain) := probeDown s t false main
    let (s, syncTwin) := if (s.tile t).eave.twinFitted then probeDown s t true twin else (s, false)
    .next (s.modTile t fun x =>
      let x := { x with sweep := { x.sweep with mismatches := 0, passTick := s.attic.tick, pos := 0 } }
      if syncMain then { x with sweep := { x.sweep with phase := 5, target := false } }
      else if syncTwin then { x with sweep := { x.sweep with phase := 5, target := true } }
      else if sweepCovers x false then { x with sweep := { x.sweep with phase := 1, target := false } }
      else if sweepCovers x true then { x with sweep := { x.sweep with phase := 1, target := true } }
      else sweepFlashDone { x with sweep := { x.sweep with target := true } })

/-! ### Findings (R179 to R181) -/

/-- EVT_SCRUB_MISMATCH, counted for the pass (R179, R186). -/
def scrubEvent (s : State) (t : TileId) (target area action level region index mask : Nat) : State :=
  let x := s.tile t
  let s := s.modTile t fun x => { x with sweep := { x.sweep with mismatches := satInc 0xFF x.sweep.mismatches } }
  raiseT s t 13 (payload [(0, 1, target), (1, 1, area), (2, 1, action), (3, 1, b01 x.verify.partition), (4, 1, level),
    (5, 1, region), (8, 4, index), (0x0C, 4, mask), (0x10, 4, x.sweep.passes),
    (0x14, 12, x.verify.digest.toNat % 2 ^ 96)])

/-- The verified copy is lost, at a block or a node of it (R180, R448): in RUN the tile goes to RESTORE with cause COPY_LOST,
where the mode permits it (R102). -/
def copyLost (s : State) (t : TileId) (place : FailAt) : State :=
  let s := s.modTile t fun x => { x with force := { x.force with copyValid := false } }
  if (s.tile t).ctl.state = .run ∧ fetchAllowed s t then failFetch s t 0x14 place .copyLost else s

/-- The copy is lost at a block. -/
def blockLost (s : State) (t : TileId) (b : Nat) : State :=
  copyLost s t { level := 0, region := (regionOfBlock (s.tile t).verify.manifest b).getD 0xFF, index := b }

/-- A copy block is suspect until its replacement is written (R180). -/
def suspectBlock (s : State) (t : TileId) (b : Nat) : State :=
  s.modTile t fun x => { x with sweep := { x.sweep with suspect := insertNat x.sweep.suspect b } }

/-- The copy's block as stored. -/
def copyBlock (x : Tile) (b : Nat) : List Byte :=
  Memory.read 0xFF x.mem.copy (4096 * b) (blockLen x.verify.manifest b)

/-- Prefetched lines that hold bytes of a block are invalid (R170, R180). -/
def dropBlockSlots (x : Tile) (b : Nat) : Tile :=
  let m := x.verify.manifest
  x.dropLines fun a =>
    match regionAt m a with
    | some i => let r := mfRegion m i; !r.isOpen && decide ((r.src + (a - r.base)) / 4096 = b)
    | none => false

/-! ### Image groups (R178) -/

/-- What the comparison of a group found so far: the copy's bad blocks with whether the other flash holds the replacement, the
flash's bad blocks, and the copy block for which neither flash has a replacement. -/
structure GroupFound where
  copyBad  : List (Nat × Bool)
  flashBad : List Nat
  lost     : Option Nat
  deriving DecidableEq, Repr

/-- The flash named is fitted and not down. -/
def flashUp (x : Tile) (twin : Bool) : Bool := if twin then twinUp x else mainUp x

/-- The flash other than the one named is fitted and not down. -/
def otherUp (x : Tile) (twin : Bool) : Bool := flashUp x (!twin)

/-- One block of a group: the copy's leaf, the flash's, and the other flash's where the copy needs a replacement that the flash
does not hold; each failing comparison runs again on a second lane (R143, R178). -/
def findBlock (t : TileId) (twin : Bool) (node : List Byte) (r : GroupRead) (copyRuns : List CmpRuns)
    (acc : State × GroupFound) (b : Nat) : State × GroupFound :=
  if acc.2.lost.isSome then acc
  else
    let (s, f) := acc
    let m := (s.tile t).verify.manifest
    let k := b % 32
    let want := nodeEntry node k
    let (s, copyOk) :=
      if rangeDown s (4096 * b) (blockLen m b) then (downEvents s t.val 0 2 (4096 * b) (blockLen m b), false)
      else settleCmp s t.val (Config.sha384 (copyBlock (s.tile t) b)) want (copyRuns.getD k noRuns)
    let data := (r.blocks.getD k []).take (blockLen m b)
    let (s, flashOk) := settleCmp s t.val (Config.sha384 data) want (r.leafRuns.getD k noRuns)
    let bad := if flashOk then f.flashBad else f.flashBad ++ [b]
    if copyOk then (s, { f with flashBad := bad })
    else if flashOk then (suspectBlock s t b, { f with copyBad := f.copyBad ++ [(b, false)] })
    else match (if otherUp (s.tile t) twin then assocGet r.others b else none) with
    | none => (suspectBlock s t b, { f with lost := some b })
    | some x =>
      let (s, ok) := settleCmp s t.val (Config.sha384 (x.take (blockLen m b))) want (r.otherLeafRuns.getD k noRuns)
      if ok then (suspectBlock s t b, { f with copyBad := f.copyBad ++ [(b, true)], flashBad := bad })
      else (suspectBlock s t b, { f with lost := some b })

/-- Bit mask of blocks of a group. -/
def groupMask (bs : List Nat) : Nat := (bs.map fun b => 2 ^ (b % 32)).sum

/-- The event of a group for one target, where some block of it differs (R179). -/
def groupEvent (s : State) (t : TileId) (target action g : Nat) (bs : List Nat) : State :=
  match bs with
  | [] => s
  | b :: _ =>
    scrubEvent s t target 2 action 0 ((regionOfBlock (s.tile t).verify.manifest b).getD 0xFF) (32 * g) (groupMask bs)

/-- Every block of a group is compared with its leaf: the copy's bad blocks are suspect until their replacement is written, the
flash's are queued for repair, with one event for each target; the procedure ends at a block that neither flash can replace, and
the copy is lost (R178 to R180). Blocks of a held WATCHED region were never verified, so there is nothing to compare them with
(DESIGN CHOICE, log entry 69). -/
def compareGroup (s : State) (t : TileId) (g : Nat) (twin : Bool) (node : List Byte) (r : GroupRead)
    (copyRuns : List CmpRuns) : State :=
  let m := (s.tile t).verify.manifest
  let blocks := (groupBlocks (blockCount m) g).filter (· ∉ (s.tile t).verify.held)
  let (s, f) := blocks.foldl (findBlock t twin node r copyRuns)
    (s, { copyBad := [], flashBad := [], lost := none })
  let s := f.flashBad.foldl (fun s b => queueRepair s t twin (blockAddr m (s.tile t).verify.partition b)) s
  let copies := f.copyBad.map (·.1)
  let fromTwin := (f.copyBad.head?.map fun c => if c.2 then !twin else twin).getD twin
  let s := match f.lost with
    | some b => groupEvent s t 2 3 g (copies ++ [b])
    | none => groupEvent s t 2 (1 + b01 fromTwin) g copies
  let s := groupEvent s t (b01 twin) 0 g f.flashBad
  match f.lost with
  | some b => blockLost s t b
  | none => s

/-! ### The order of a pass (R177) -/

/-- The area a pass compares next: 0 manifest, 1 tree, 2 image, 3 OPEN. -/
def sweepArea (x : Tile) : Nat := x.sweep.phase.toNat - 1

/-- Items of an area in a pass. -/
def areaItems (x : Tile) (area : Nat) : Nat :=
  let m := x.verify.manifest
  match area with
  | 0 => 1
  | 1 => (treePlaces (blockCount m)).length
  | 2 => nodesAt (blockCount m) 1
  | _ => if x.active.sweepOpen then mfOpenSize m / 4096 else 0

/-- The pass goes on after an item: to the next one of the area, to the next area that has any, or past this flash (R177). -/
def sweepGoOn (x : Tile) : Tile :=
  if x.sweep.pos + 1 < areaItems x (sweepArea x) then { x with sweep := { x.sweep with pos := x.sweep.pos + 1 } }
  else if x.sweep.phase = 4 ∨ (x.sweep.phase = 3 ∧ areaItems x 3 = 0) then sweepFlashDone x
  else { x with sweep := { x.sweep with phase := x.sweep.phase + 1, pos := 0 } }

/-- An item of an area may be decided now: its pass compares it next on that flash, and no work of a higher kind is queued, a
repair among them, and no channel of the Underlay is being retrained (R177, R181, R203, R452). -/
def sweepItem (s : State) (t : TileId) (twin : Bool) (area pos : Nat) : Bool :=
  let x := s.tile t
  sweepAllowed s t && sweeping x && decide (x.sweep.target = twin ∧ sweepArea x = area ∧ x.sweep.pos = pos) &&
    !higherQueued s t 5 && !anyWaits s

/-- After an item, in a pass that goes on. -/
def sweepNext (s : State) (t : TileId) : State := s.modTile t fun x => if sweeping x then sweepGoOn x else x

/-- The copy is hashed alongside the first flash a pass covers (R177). -/
def checksCopy (x : Tile) (twin : Bool) : Bool := x.active.sweepCopy && (!twin || !sweepCovers x false)

/-- A node held for the copy is hashed again and matched against its parent, and replaced from a flash where it does not match, the
swept one first (R175, R178): the node that stands then, or none where neither flash has it. One on a channel marked down cannot be read
(R452). The lane runs are those of the held node and of the two flashes'. -/
def trustedNode (s : State) (t : TileId) (level idx : Nat) (p : Digest) (first second : Option (List Byte))
    (runs : CmpRuns × CmpRuns × CmpRuns) : State × Option (List Byte) :=
  let keep := fun (s : State) (nd : List Byte) =>
    let s :=
      if level = 1 then storeNode1 s t idx nd
      else s.modVer t fun v => { v with nodes := assocSet v.nodes (nodeKey level idx) nd }
    scrubEvent s t 2 1 4 level 0xFF idx 0
  let try_ := fun (s : State) (nd : Option (List Byte)) (r : CmpRuns) => match nd with
    | some nd => settleCmp s t.val (Config.sha384 nd) p r
    | none => (s, false)
  let down := level = 1 ∧ rangeDown s (1536 * idx) 1536
  let s := if down then downEvents s t.val 1 1 (1536 * idx) 1536 else s
  let held := if down then none else heldNode (s.tile t) level idx
  let (s, ok) := try_ s held runs.1
  if ok then (s, held)
  else
    let (s, ok) := try_ s first runs.2.1
    if ok then (keep s (first.getD []), first)
    else
      let (s, ok) := try_ s second runs.2.2
      if ok then (keep s (second.getD []), second) else (s, none)

/-- A node of the copy that no flash can replace: the copy is lost (R448), with the event of the node (DEDUCED, log entry 69). -/
def nodeLost (s : State) (t : TileId) (level idx : Nat) : State :=
  copyLost (scrubEvent s t 2 1 3 level 0xFF idx 0) t { level := level, region := 0xFF, index := idx }

/-- A swept group is decided (R178); the device wakes from DOZE first (R60). -/
def execSweepGroup (t : TileId) (g : Nat) (twin : Bool) (read : GroupRead) (copyRuns : CmpRuns) (copyLeafRuns : List CmpRuns)
    (heldRuns : CmpRuns) (s : State) : Out :=
  inOneCycle s <|
  let v := (s.tile t).verify
  if !sweepItem s t twin 2 g then .next s
  else match parentEntry v.manifest v.nodes 1 g with
  | none => .next s
  | some p =>
    let s := wake s
    let check := checksCopy (s.tile t) twin
    let cand := candidateNode ((landedBlocks v.manifest g read).map Config.sha384)
    let (s, flashOk) := settleCmp s t.val (Config.sha384 cand) p read.candRuns
    let own := candidateNode ((groupBlocks (blockCount v.manifest) g).map fun b => Config.sha384 (copyBlock (s.tile t) b))
    let (s, copyOk) :=
      if !check then (s, true)
      else if rangeDown s (0x20000 * g) (min 0x20000 (mfImageLen v.manifest - 0x20000 * g)) then (s, false)
      else settleCmp s t.val (Config.sha384 own) p copyRuns
    if flashOk && copyOk then .next (sweepNext s t)
    else match trustedNode s t 1 g p (some read.node) (if otherUp (s.tile t) twin then read.nodeOther else none)
        (heldRuns, read.nodeRuns, read.otherRuns) with
      | (s, some nd) => .next (sweepNext (compareGroup s t g twin nd read copyLeafRuns) t)
      | (s, none) => .next (sweepNext (nodeLost s t 1 g) t)

/-! ### Manifest slot, tree and OPEN area (R177) -/

/-- An OPEN unit with a write queued, in progress or waiting for a commit is skipped (R177). -/
def unitPending (x : Tile) (u : Nat) : Bool :=
  decide (u ∈ x.filter.changed) || x.filter.committing.any (fun c => decide (c.unit = u)) ||
    (x.filter.queue ++ (x.filter.going.map (·.1)).toList).any fun w =>
      w.parts.any fun p => decide (p.1 < 4096 * (u + 1) ∧ 4096 * u < p.1 + p.2)

/-- An OPEN unit that lies on a channel marked down is reloaded from main, or from the twin with main down (R448, R452), where that is the
flash being swept. -/
def openUnitDown (s : State) (t : TileId) (twin : Bool) (u : Nat) (data : List Byte) : State :=
  let s := downEvents s t.val 2 2 (4096 * u) 4096
  if twin = !mainUp (s.tile t) then
    s.modTile t fun x => { x with mem := { x.mem with opens := Memory.write 0xFF x.mem.opens (4096 * u) (padTo 4096 0xFF (data.take 4096)) } }
  else s

/-- A swept manifest slot, tree node or OPEN unit is compared byte for byte (R177): `area` 0, 1 or 3, and the node's level and
index or the OPEN unit's number. `other` is the node on the other flash, and `runs` those of the node held, of this one and of the
other. -/
def execSweepAreaCompare (t : TileId) (twin : Bool) (area level idx : Nat) (data : List Byte) (other : Option (List Byte))
    (runs : List CmpRuns) (s : State) : Out :=
  inOneCycle s <|
  let x := s.tile t
  let v := x.verify
  let m := v.manifest
  match area with
  | 0 =>
    if !sweepItem s t twin 0 0 then .next s
    else if data = m then .next (sweepNext (wake s) t)
    else .next (sweepNext (scrubEvent (queueRepair (wake s) t twin (0x10000 * b01 v.partition)) t (b01 twin) 0 0 0 0xFF 0 0) t)
  | 1 =>
    if !sweepItem s t twin 1 x.sweep.pos ∨ (treePlaces (blockCount m))[x.sweep.pos]? ≠ some (level, idx) then .next s
    else match parentEntry m v.nodes level idx with
    | none => .next s
    | some p =>
      match trustedNode (wake s) t level idx p (some data) (if otherUp x twin then other else none)
          (runs.getD 0 noRuns, runs.getD 1 noRuns, runs.getD 2 noRuns) with
      | (s, none) => .next (sweepNext (nodeLost s t level idx) t)
      | (s, some nd) =>
        if data = nd then .next (sweepNext s t)
        else
          .next (sweepNext (scrubEvent (queueRepair s t twin (nodeAddr m v.partition level idx)) t (b01 twin) 1 0 level 0xFF
            idx 0) t)
  | 3 =>
    if !sweepItem s t twin 3 idx then .next s
    else if !unitPending x idx ∧ rangeDown s (4096 * idx) 4096 then .next (sweepNext (openUnitDown (wake s) t twin idx data) t)
    else if unitPending x idx ∨ data = Memory.read 0xFF x.mem.opens (4096 * idx) 4096 then .next (sweepNext (wake s) t)
    else
      .next (sweepNext (scrubEvent (queueRepair (wake s) t twin (flashOpen (mfLayout m) + 4096 * idx)) t (b01 twin) 3 0 0 0xFF
        (4096 * idx) 0) t)
  | _ => .next s

/-! ### Repairs, resyncs and refills -/

/-- Repairs run outside FETCH, while the tile is powered and its mode permits them (R145, R184). -/
def repairAllowed (s : State) (t : TileId) : Bool :=
  let x := s.tile t
  powered x && decide (x.ctl.state ≠ .fetch) && fetchAllowed s t

/-- A ruled write of the front of the queue touches a range of flash addresses. -/
def writeTouches (x : Tile) (a n : Nat) : Bool :=
  let base := flashOpen (mfLayout x.force.manifest)
  match x.filter.queue with
  | [] => false
  | w :: _ => w.parts.any fun p => decide (base + p.1 < a + n ∧ a < base + p.1 + p.2)

/-- A repair under way completes before a ruled write to its unit (R181, R203). -/
def repairFirst (x : Tile) (r : Repair) : Bool :=
  r.begun && writeTouches x r.addr (eraseUnitOf (flashDisc x r.twin))

/-- The held level-1 nodes of a range are hashed again and matched against their parents, and replaced from a flash where they do not
match (R175): the first one, if any, that no flash can replace. -/
def trustNodes (s : State) (t : TileId) (twin : Bool) (reads : List NodeRead) (a n : Nat) : State × Option Nat :=
  (unitNodes (s.tile t) a n).foldl (fun (acc : State × Option Nat) g =>
    match acc with
    | (s, some k) => (s, some k)
    | (s, none) =>
      let v := (s.tile t).verify
      let r := (reads.find? fun r => decide (r.idx = g)).getD { idx := g, first := none, second := none, runs := (noRuns, noRuns, noRuns) }
      match parentEntry v.manifest v.nodes 1 g with
      | none => (s, none)
      | some p =>
        match trustedNode s t 1 g p (if flashUp (s.tile t) twin then r.first else none)
            (if otherUp (s.tile t) twin then r.second else none) r.runs with
        | (s, some _) => (s, none)
        | (s, none) => (s, some g)) (s, none)

/-- The Underlay sources of a unit cannot be read: a channel is marked down, which every 4 KiB of an area touches (R439, R452). The manifest
slots are taken from the SRAM. -/
def sourceDown (s : State) (a : Nat) : Bool := decide (0x20000 ≤ a) && rangeDown s 0 4096

/-- The repair at the front of a flash's queue ends (R181, R182): the unit is erased, programmed with its bytes from verified
sources, which are driven to the flash, and read back; none where the erase or a program failed (R353). A repair waits until its sources
are verified (R145). A read-back that differs is tried again, up to three attempts in all. The device wakes from DOZE first. -/
def execRepairDone (t : TileId) (twin : Bool) (nodes : List NodeRead) (readBack : Option (List Byte)) (s : State) : Out :=
  inOneCycle s <|
  let x := s.tile t
  let n := eraseUnitOf (flashDisc x twin)
  match x.sweep.repairs.find? fun r => decide (r.twin = twin) && unitVerified x r.addr n with
  | none => .next s
  | some r =>
    if !repairAllowed s t ∨ !(portFree s t twin .repair || repairFirst x r) ∨ sourceDown s r.addr then .next s
    else
      match trustNodes (wake s) t twin nodes r.addr n with
      | (s, some g) => .next (nodeLost s t 1 g)
      | (s, none) =>
        let bytes := unitBytes (s.tile t) r.addr n
        let s := readBackCounted (s.respond bytes r.addr) t twin readBack bytes
        let rest := (s.tile t).sweep.repairs.filter fun q => decide (q ≠ r)
        let put := fun q : List Repair => s.modTile t fun x => { x with sweep := { x.sweep with repairs := q } }
        if readBack = some bytes then .next (put rest)
        else if r.tries < 2 then .next (put ({ r with tries := r.tries + 1, begun := true } :: rest))
        else .next (markFailed s t twin 4 4 r.addr 3)

/-- The areas of a flash in R124 order: addresses and sizes. -/
def flashAreas (l : Nat × Nat × Nat × Nat) : List (Nat × Nat) :=
  [(0, 0x10000), (0x10000, 0x10000), (0x20000, 0x10000), (flashPartA, l.1), (flashTreeA l, l.2.1), (flashPartB l, l.1),
    (flashTreeB l, l.2.1), (flashOpen l, l.2.2.1), (flashStaging l, l.2.2.2)].filter fun a => decide (a.2 ≠ 0)

/-- What a resync writes to an area (R183): the active manifest slot, tree and partition and the OPEN area from verified sources,
any other area as the other flash returned it; none where that could not be read. -/
def resyncArea (x : Tile) (other : List (Nat × List Byte)) (a : Nat × Nat) : Option (List Byte) :=
  if (verifiedByte x a.1).isSome then some (unitBytes x a.1 a.2)
  else (assocGet other a.1).bind fun d => if d.length = a.2 then some d else none

/-- The address of the first byte of a read-back that differs, of bytes that start at an address. -/
def firstDiffer (a : Nat) : List Byte → List Byte → Option Nat
  | [], [] => none
  | b :: bs, c :: cs => if b = c then firstDiffer (a + 1) bs cs else some a
  | _, _ => some a

/-- The address of the first erase unit of a resync that differs; 0xFFFF_FFFF none. -/
def resyncDiffers (x : Tile) (twin : Bool) (bytes : List (List Byte)) (readBack : Option (List (List Byte))) : Nat :=
  match readBack with
  | none => 0xFFFFFFFF
  | some got =>
    let areas := flashAreas (mfLayout x.verify.manifest)
    match (areas.zipIdx).findSome? fun a => firstDiffer a.1.1 (bytes.getD a.2 []) (got.getD a.2 []) with
    | some a => (eraseUnitAt x twin a).1
    | none => 0xFFFFFFFF

/-- Everything a resync writes, in R124 order. -/
def resyncBytes (x : Tile) (other : List (Nat × List Byte)) : Option (List (List Byte)) :=
  (flashAreas (mfLayout x.verify.manifest)).mapM (resyncArea x other)

/-- A resync ends (R183): every area was written, the bytes driven to the flash, and read back; `other` is what the other flash
returned by area address, and no read-back says that a write failed. It is made from verified sources only: the level-1 nodes are matched
first (R175), and it waits for a suspect block. One that completes clears down; one that fails leaves the flash
down, with reason READ where a read failed and REPAIR otherwise (R182). The device wakes from DOZE first. -/
def execResyncDone (t : TileId) (twin : Bool) (other : List (Nat × List Byte)) (nodes : List NodeRead)
    (readBack : Option (List (List Byte))) (s : State) : Out :=
  inOneCycle s <|
  let x := s.tile t
  if x.sweep.phase ≠ 5 ∨ x.sweep.target ≠ twin ∨ !sweepAllowed s t ∨ !portFree s t twin .repair ∨ x.sweep.suspect ≠ [] ∨
      sourceDown s 0x20000 then .next s
  else
    let m := x.verify.manifest
    let tree := nodeAddr m x.verify.partition 1 0
    match trustNodes (wake s) t twin nodes tree (1536 * nodesAt (blockCount m) 1) with
    | (s, some g) => .next (nodeLost s t 1 g)
    | (s, none) =>
      let failed := fun (s : State) (reason unit : Nat) =>
        let s := s.modTile t fun x => { x with sweep := { x.sweep with phase := 0 } }
        let e := failedEntry (s.tile t) twin unit
        (flashFault s t reason twin e.1 4 e.2.1 e.2.2 1 0 0).modTile t fun x => x.clearFailed twin
      match resyncBytes (s.tile t) other with
      | none => .next (failed s 1 0xFFFFFFFF)
      | some bytes =>
        let s := readBackCounted (s.respond bytes.flatten 0) t twin readBack bytes
        if readBack = some bytes then
          let s := s.modTile t fun x =>
            { x with sweep := { x.sweep with
                mainDown := x.sweep.mainDown && twin, twinDown := x.sweep.twinDown && !twin
                phase := 0, passes := (x.sweep.passes + 1) % 65536, lastMism := x.sweep.mismatches, mismatches := 0 } }
          .next (flashFault s t 6 twin 0 5 0xFFFFFFFF 0 1 0 0)
        else .next (failed s 4 (resyncDiffers (s.tile t) twin bytes readBack))

/-- The replacement of a suspect block has been read from the flashes (R180): the copy is refilled from the first block that
matches its leaf, or lost. The leaf is taken from the held node once that is matched against its parent (R175), and a failing
comparison runs again on a second lane (R33, R143): `runs` are those of the node, of main's block and of the twin's. With a channel marked
down the replacement cannot be written and the block stays suspect (R452). The mode must
permit it (R64); the device wakes from DOZE first. -/
def execRefillDone (t : TileId) (block : Nat) (main twin : Option (List Byte)) (runs : List CmpRuns) (s : State) : Out :=
  inOneCycle s <|
  let x := s.tile t
  let v := x.verify
  if block ∉ x.sweep.suspect ∨ !fetchAllowed s t ∨ anyWaits s then .next s
  else if rangeDown s (4096 * block) 4096 then .next (downEvents s t.val 0 2 (4096 * block) 4096)
  else match heldNode x 1 (block / 32), parentEntry v.manifest v.nodes 1 (block / 32) with
  | some nd, some p =>
    let (s, ok) := settleCmp (wake s) t.val (Config.sha384 nd) p (runs.getD 0 noRuns)
    if !ok then .next s
    else
      let want := nodeEntry nd (block % 32)
      let try_ := fun (s : State) (up : Bool) (d : Option (List Byte)) (k : Nat) =>
        match (if up then d else none) with
        | some d => settleCmp s t.val (Config.sha384 (d.take (blockLen v.manifest block))) want (runs.getD k noRuns)
        | none => (s, false)
      let put := fun (s : State) (d : Option (List Byte)) =>
        (storeBlock s t block ((d.getD []).take (blockLen v.manifest block))).modTile t fun x =>
          dropBlockSlots { x with sweep := { x.sweep with suspect := x.sweep.suspect.filter (· ≠ block) } } block
      let (s, ok) := try_ s (mainUp x) main 1
      if ok then .next (put s main)
      else
        let (s, ok) := try_ s (twinUp x) twin 2
        if ok then .next (put s twin) else .next (blockLost s t block)
  | _, _ => .next s

end Sys2Proof.Machine
end

