-- ==== Sys2Proof/Machine/Update.lean ====
section
/-! DEFINITION. Staging and updates of a tile's image: the staging area and its pool granules (R73, R208, R226, R403, R443,
R444), commits, the checks of pushed content (R218, R228), the write sequence (R229), abandoning (R230), switch records
(R233) and trials (R234). -/

namespace Sys2Proof.Machine

open Sys2Proof

/-- Granules for content of a number of bytes (R443). -/
def granulesFor (n : Nat) : Nat := (n + 0x1FFFFF) / 0x200000

/-! ### Lines that are poisoned (R448) -/

/-- A write of whole lines makes them good again. -/
def healLines (s : State) (area off n : Nat) : State :=
  { s with memctl := { s.memctl with
      poisoned := s.memctl.poisoned.filter fun p => !decide (p.1 = area ∧ off ≤ 64 * p.2 ∧ 64 * (p.2 + 1) ≤ off + n) } }

/-- Bytes are written to a place of a staging area or of the push buffer: self-refresh ends (R453), whole lines are good again, and
lines on a channel marked down are lost (R448, R452). -/
def writeLines (s : State) (area off n : Nat) : State :=
  let s := healLines { s with memctl := { s.memctl with selfRefresh := false } } area off n
  downEvents { s with memctl := { s.memctl with
    poisoned := (downLines s off n).map (fun l => (area, l)) ++ s.memctl.poisoned } } area 3 3 off n

/-- A check of delivered content met a line that does not decode: the first one on a channel marked down is counted and raised (R448,
R452). -/
def firstDown (s : State) (tile contents action off n : Nat) : State :=
  match downLines s off n with
  | [] => s
  | l :: _ => lostEvent (s.fresh 1) (downLine s tile contents (64 * l)) action

/-! ### Staging (R73, R226, R230) -/

/-- The tile's layout (R226): that of the last manifest accepted since COLD, else of the last well-formed header read. -/
def tileLayout (x : Tile) : Option (Nat × Nat × Nat × Nat) := x.force.layout.orElse fun _ => x.force.headLayout

/-- Staging begins (R73, R226): owner 1 PLATFORM, 2 HOST; STAGE is set. -/
def stageBegin (s : State) (t : TileId) (owner : BitVec 2) (mb : LdId) : State :=
  let s := s.modTile t fun x =>
    { x with update := { x.update with owner := owner, mailbox := mb, phase := 1, step := 0, content := [] } }
  changeTile s t (s.tile t).ctl.state .stageSet fun c => { c with stage := true }

/-- A mirrored write is queued to the flash staging area (R231). -/
def mirrorWrite (x : Tile) (erase : Bool) (off n : Nat) : Tile :=
  if x.active.stageMirror && (mainUp x || twinUp x) then
    { x with update := { x.update with
        mirror := x.update.mirror ++ [newWrite x.mem.staging (if erase then n else 0) [(off, n)]] } }
  else x

/-- The staging and update areas are emptied (R228): their granules return to the pool, and under stage_mirror the erase
of the flash staging area is queued (R231). -/
def emptyAreas (s : State) (t : TileId) : State :=
  let s := { s with memctl := { s.memctl with poisoned := s.memctl.poisoned.filter fun p => decide (p.1 ≠ t.val) } }
  s.modTile t fun x =>
    let size := match tileLayout x with | some l => l.2.2.2 | none => 0
    let x := if size = 0 then x else mirrorWrite x true 0 size
    { x with
      mem := { x.mem with staging := [], granules := [], updGranules := 0 }
      update := { x.update with staged := [], stagedBad := [], content := [], count := 0, step := 0 } }

/-- An update ends (R228 to R230): the areas are emptied and STAGE is cleared in one change. -/
def closeUpdate (s : State) (t : TileId) : State :=
  let s := emptyAreas s t
  let s := s.modTile t fun x => ({ x with update := { x.update with owner := 0 } } : Tile).rest
  if (s.tile t).ctl.stage then
    changeTile s t (s.tile t).ctl.state .stageClear fun c => { c with stage := false }
  else s

/-- Bytes land in the staging area: programmed with AND by a platform, stored by a host (R208, R403). -/
def storeStaging (s : State) (t : TileId) (off : Nat) (data : List Byte) (program : Bool) : State :=
  let s := writeLines s t.val off data.length
  s.modTile t fun x =>
    { x with mem := { x.mem with
        staging := if program then Memory.program 0xFF x.mem.staging off data else Memory.write 0xFF x.mem.staging off data } }

/-- A write of the platform into its STAGING region at an offset of the staging area (R208, R226, R227, R444): the data of
a program, or the length of an erase. The answer is false where the write is discarded with reason REGION. -/
def platformStage (s : State) (t : TileId) (off : Nat) (data : Except Nat (List Byte)) : State × Bool :=
  let x := s.tile t
  let n := match data with | .ok d => d.length | .error n => n
  if x.owned ∧ (x.update.owner ≠ 1 ∨ x.update.phase ≠ 1) then (s, false)
  else
    let s := if x.owned then s else stageBegin s t 1 0
    match backStaging s t off n with
    | (s, false) => (s.modTile t fun x => { x with filter := { x.filter with progErr := true } }, true)
    | (s, true) =>
      match data with
      | .ok d => ((storeStaging s t off d true).modTile t fun x => mirrorWrite x false off n, true)
      | .error n =>
        ((writeLines s t.val off n).modTile t fun x =>
          mirrorWrite { x with mem := { x.mem with staging := Memory.erase x.mem.staging off n } } true off n, true)

/-- A host's bytes for a tile's staging area (R227, R403, R444): stored while a host owns staging, else discarded. The
answer is 0, or 1 where an access rule discards the write, or 2 where the pool cannot supply it. -/
def hostStage (s : State) (t : TileId) (off : Nat) (data : List Byte) : State × Nat :=
  let x := s.tile t
  if !x.owned ∨ x.update.owner ≠ 2 ∨ stagingSize < off + data.length then (s, 1)
  else match backStaging s t off data.length with
    | (s, false) => (s, 2)
    | (s, true) => (storeStaging s t off data false, 0)

/-! ### Content in push format (R225, R228) -/

/-- Where content in push format is read: `read off n`, and whether a line of the range is poisoned. -/
structure Push where
  read   : Nat → Nat → List Byte
  poison : Nat → Nat → Bool

/-- Its manifest: the header alone where that is not well formed. -/
def Push.manifest (p : Push) : List Byte :=
  let h := p.read 0 256
  if headerOk h then p.read 0 (mfLen h) else h

/-- The header is well formed and readable (R105). -/
def Push.headerOk (p : Push) : Bool := Machine.headerOk (p.read 0 256) && !p.poison 0 256

/-- Bytes that its checks read: all of it, or the header alone where that is not well formed. -/
def Push.length (p : Push) : Nat := if p.headerOk then pushLen p.manifest else 256

/-- Every node of the tree part; one on a poisoned line is left out and so fails. -/
def Push.nodes (p : Push) (m : List Byte) : List (Nat × List Byte) :=
  let n := blockCount m
  (List.range (treeDepth n)).flatMap fun l => (List.range (nodesAt n (l + 1))).filterMap fun j =>
    let off := 0x10000 + nodeOffset n (l + 1) j
    if p.poison off 1536 then none else some (nodeKey (l + 1) j, p.read off 1536)

/-- Every block of the image. -/
def Push.blocks (p : Push) (m : List Byte) : List (Nat × List Byte) :=
  (List.range (blockCount m)).filterMap fun b =>
    let off := 0x10000 + pushTreeLen m + 4096 * b
    if p.poison off (blockLen m b) then none else some (b, p.read off (blockLen m b))

/-- The checks of pushed content before its tree (R218, R220, R228): header, byte count, then checks 2 to 11 with layout
equality, the signature only where the checks before it pass (R139), and the room it must fit; 0 where all pass. -/
def checkPush (s : State) (t : TileId) (p : Push) (count room : Option Nat) (sig : RafterRun) : State × Nat :=
  let m := p.manifest
  if !p.headerOk then (s, 0x01)
  else if (match count with | some c => decide (c ≠ mfImageLen m) | none => false) then (s, 0x16)
  else if p.poison 0 (mfLen m) then (s, 0x01)
  else
    let consumer := Consumer.tile t (tileLayout (s.tile t))
    let c := checkManifest s consumer m none
    if 0 < c ∧ c < 5 then (s, c)
    else
      let (s, ok) := manifestSig s m sig t.val
      let c := checkManifest s consumer m (some ok)
      if c ≠ 0 then (s, c)
      else if (match room with | some r => decide (r < pushLen m) | none => false) then (s, 0x16)
      else (s, 0)

/-! ### Commit (R227, R384, R443, R444) -/

/-- The content of a tile's staging area as a commit found it (R227): what a host writes later is no part of it, and a line that
was poisoned then or is now fails (R448). -/
def stagingPush (s : State) (t : TileId) : Push where
  read := fun off n => Memory.read 0xFF (s.tile t).update.staged off n
  poison := fun off n =>
    poisonIn s t.val off n || (s.tile t).update.stagedBad.any fun l => decide (64 * l < off + n ∧ off < 64 * (l + 1))

/-- The staging area is taken as it stands for the verification of a commit. -/
def stageSnapshot (s : State) (t : TileId) : State :=
  s.modTile t fun x =>
    { x with update := { x.update with
        staged := x.mem.staging
        stagedBad := (s.memctl.poisoned.filter fun p => decide (p.1 = t.val)).map (·.2) } }

/-- A commit is refused: result REFUSED, STAGE stays set (R227). -/
def refuseCommit (s : State) (t : TileId) : State :=
  s.modTile t fun x => { x with update := { x.update with result := 7 } }

/-- The tile refuses commits (R227): a switch is pending, an update is past VERIFY or a trial runs, or LOCKDOWN. -/
def commitBlocked (s : State) (t : TileId) : Bool :=
  let x := s.tile t
  x.ctl.switchPending || x.update.trial.isSome || decide (s.gmode.mode = .lockdown)

/-- Granules that the update area of a commit of the staging area as it stands takes (R443). -/
def commitNeed (s : State) (t : TileId) : Nat :=
  let s := stageSnapshot s t
  let p := stagingPush s t
  let m := p.manifest
  if p.headerOk then granulesFor (0x10000 + mfTreeSize m + mfImageLen m) else 0

/-- A commit of staged content by its owner is taken, or refused (R227); the update area's granules are taken at once
(R443). The answer is whether it was taken. -/
def commitStaged (s : State) (t : TileId) (count : Nat) : State × Bool :=
  let x := s.tile t
  if x.update.phase ≠ 1 ∨ commitBlocked s t then (refuseCommit s t, false)
  else
    let need := commitNeed s t
    if poolFree s < need then (refuseCommit (poolEvent s t need) t, false)
    else
      ((stageSnapshot s t).modTile t fun x =>
        { x with
          mem := { x.mem with updGranules := need }
          update := { x.update with
            count := count, content := [], step := 0, target := !x.update.selected
            phase := if x.ctl.state = .fetch ∨ x.ctl.state = .restore then 3 else 2 } }, true)

/-! ### Verification of a committed update (R228) -/

/-- Source code of an update in EVT_VERIFY_FAIL (R226). -/
def updateSource (x : Tile) : Nat := if x.update.owner = 2 then 0x03 else 0xFF

/-- EVT_VERIFY_FAIL of an update, with the target partition. -/
def updateFailEvent (s : State) (t : TileId) (cause : Nat) (place : FailAt) (m : List Byte) (source : Nat) : State :=
  let x := s.tile t
  raiseT s t 2 (failPayload cause x.verify.phase.toNat source (b01 x.update.target) place.level place.region place.index
    (failDetail m cause) (readDigest m))

/-- An update is rejected, or fails: its result and cause, the areas emptied, the event; the tile keeps its state. -/
def endUpdate (s : State) (t : TileId) (result : BitVec 3) (cause : Nat) (place : FailAt) (m : List Byte) : State :=
  let source := updateSource (s.tile t)
  let s := s.modTile t fun x =>
    { x with
      update := { x.update with result := result, cause := BitVec.ofNat 8 cause }
      verify := { x.verify with cause := BitVec.ofNat 8 cause } }
  updateFailEvent (closeUpdate s t) t cause place m source

/-- Room the route gives the content (R228): the end of the STAGING region in force, or the whole staging area. -/
def routeRoom (x : Tile) : Nat :=
  if x.update.owner = 1 then
    match (mfRegions x.force.manifest).find? Region.staging with
    | some r => r.src + r.len
    | none => stagingSize
  else stagingSize

/-- The write sequence starts where the tile's state and mode let it (R229). -/
def startWrite (s : State) (t : TileId) : State :=
  s.modTile t fun x =>
    let u := { x.update with phase := if x.ctl.state.writable then 4 else 3, step := 0 }
    { x with update := u.onFlashes (mainUp x) (twinUp x) }

/-- A committed update's verification ends (R228); the device wakes from DOZE first (R60). -/
def execUpdateVerified (t : TileId) (sig : RafterRun) (runs : List CmpRuns) (s : State) : Out :=
  inOneCycle s <|
  let x := s.tile t
  if x.update.phase ≠ 2 ∨ !fetchAllowed s t then .next s
  else
    let s := wake s
    let p := stagingPush s t
    let m := p.manifest
    let (s, c) := checkPush (firstDown s t.val 3 3 0 p.length) t p (some x.update.count) (some (routeRoom x)) sig
    if c ≠ 0 then .next (endUpdate s t 3 c .none (if p.headerOk then m else []))
    else
      let (c, found) := checkBulk { st := s, runs := runs } t.val m (p.nodes m) (p.blocks m) false
      match found.fail with
      | some (cause, place) => .next (endUpdate c.st t 3 cause place m)
      | none =>
        .next (startWrite (c.st.modTile t fun x =>
          { x with update := { x.update with content := p.read 0 (pushLen m) } }) t)

/-! ### The write sequence (R229) -/

/-- Update writes ended on a flash that takes part in them: read-backs that differed are counted (R353), and one that failed its attempts
or its read-back is marked down (R182, R229). -/
def updateWrote (s : State) (t : TileId) (twin live : Bool) (r : WriteResult) : State :=
  if !live then s
  else
    let s := resultCounted s t twin r
    if r.ok then s else markFailed s t twin 3 3 r.unit 3

/-- What a step of the sequence came to on a flash: one that failed is dropped from the rest of it (R229). -/
def dropFlash (s : State) (t : TileId) (twin : Bool) (r : WriteResult) : State :=
  let live := fun x : Tile => if twin then x.update.twinOk else x.update.mainOk
  (updateWrote s t twin (live (s.tile t)) r).modTile t fun x =>
    { x with update := { x.update with mainOk := x.update.mainOk && (twin || r.ok), twinOk := x.update.twinOk && (!twin || r.ok) } }

/-- Manifest of the update in the update area. -/
def updateManifest (x : Tile) : List Byte := x.update.content.take (mfLen x.update.content)

/-- The sequence goes on after a step on at least one flash, or the update fails with cause READBACK. -/
def afterStep (s : State) (t : TileId) (main twin : WriteResult) (f : TileUpdate → TileUpdate) : State :=
  let s := dropFlash (dropFlash s t false main) t true twin
  let x := s.tile t
  if x.update.mainOk || x.update.twinOk then s.modTile t fun x => { x with update := f x.update }
  else endUpdate s t 4 0x17 .none (updateManifest x)

/-- Update writes run in the tile's state and mode (R229). -/
def writesRun (s : State) (t : TileId) : Bool := (s.tile t).ctl.state.writable && fetchAllowed s t

/-- A step of the sequence completes on the flashes (R229): the slot erase, the erase and programming of tree and image,
the manifest, or an attempt at the ARMED record. -/
def execUpdateWriteStepDone (t : TileId) (main twin : WriteResult) (s : State) : Out :=
  inOneCycle s <|
  let u := (s.tile t).update
  if !writesRun s t ∨ !(portFree s t false .update && portFree s t true .update) then .next s
  else if u.phase = 4 then
    .next (afterStep s t main twin fun u =>
      if u.step = 0 then { u with step := 1 } else { u with phase := 5, step := 2 })
  else if u.phase = 5 ∧ u.step = 3 then
    .next (afterStep s t main twin fun u => { u with phase := 6, step := 4 })
  else if u.phase = 6 then .next (afterStep s t main twin id)
  else .next s

/-- The tree and image have been read back (R229, step 3). -/
def execUpdateReadbackDone (t : TileId) (main twin : WriteResult) (s : State) : Out :=
  inOneCycle s <|
  let u := (s.tile t).update
  if u.phase = 5 ∧ u.step = 2 ∧ writesRun s t ∧ portFree s t false .update ∧ portFree s t true .update
  then .next (afterStep s t main twin fun u => { u with step := 3 })
  else .next s

/-! ### Switch records (R128, R233) -/

/-- A switch record as it is written (R128). -/
def switchRecord (seq : Nat) (partition : Bool) (state : BitVec 8) (digest : Digest) : List Byte :=
  let body := packBytes 0x1C [(0, 4, 0x52575342), (4, 4, seq % 2 ^ 32), (8, 1, b01 partition), (9, 1, state.toNat),
    (0x0C, 16, digest.toNat % 2 ^ 128)]
  body ++ bytesOf 4 (crc32 body)

/-- The slot after the last one used in the half that holds the newest record (R128); the first slot of an empty area. -/
def nextSlot (records : List (Nat × List Byte)) : Nat :=
  let newest := records.foldl (fun best r => match best with
    | none => some r
    | some b => if switchOk r.2 && (!switchOk b.2 || decide (leAt 4 4 b.2 < leAt 4 4 r.2)) then some r else best) none
  match newest with
  | none => 0
  | some n =>
    let half := n.1 / 1024
    ((records.filter fun r => decide (r.1 / 1024 = half)).foldl (fun k r => max k r.1) 0 + 1) % 2048

/-- A record joins the area at its slot; at the start of a half, that half has been erased first (R128). -/
def putRecord (records : List (Nat × List Byte)) (slot : Nat) (r : List Byte) : List (Nat × List Byte) :=
  (if slot % 1024 = 0 then records.filter fun x => decide (x.1 / 1024 ≠ slot / 1024) else records) ++ [(slot, r)]

/-- A switch record is written, the bytes driven to the flashes with their address. Its seq is one more than that of the record
before, the highest read at SELECT for the first one; of a second record between two reads the spec does not say (DESIGN CHOICE,
log entry 67). -/
def writeRecord (s : State) (t : TileId) (partition : Bool) (state : BitVec 8) (digest : Digest) : State :=
  let u := (s.tile t).update
  let slot := nextSlot u.records
  let r := switchRecord (u.switchSeq + 1) partition state digest
  (s.modTile t fun x =>
    { x with update := { x.update with switchSeq := u.switchSeq + 1, records := putRecord u.records slot r } }).respond r
      (0x20000 + 32 * slot)

/-- The ARMED record naming the target is written (R75, R229, R233): STAGE cleared and switch_pending set in one change; a held or
quarantined tile goes to FETCH. -/
def execUpdateArmed (t : TileId) (s : State) : Out :=
  inOneCycle s <|
  let x := s.tile t
  if x.update.phase ≠ 6 ∨ !writesRun s t ∨ !(portFree s t false .update && portFree s t true .update) then .next s
  else
    let s := writeRecord s t x.update.target 1 (manifestDigest (updateManifest x))
    let s := emptyAreas s t
    let s := s.modTile t fun x => { x with update := { x.update with phase := 7, result := 1 } }
    let s := changeTile s t x.ctl.state .stageClear fun c => { c with stage := false, switchPending := true }
    .next (if x.ctl.state = .held ∨ x.ctl.state = .quarantine then enterFetch s t .switch else s)

/-! ### Abandoning (R230) -/

/-- An update may be abandoned: one is owned or armed, and no trial is pending. -/
def abandonable (x : Tile) : Bool := (x.owned || x.ctl.switchPending) && x.update.trial.isNone

/-- An update ends in any phase before the trial (R230). -/
def abandonUpdate (s : State) (t : TileId) : State :=
  let x := s.tile t
  let s :=
    if x.ctl.switchPending ∧ !x.owned then
      let s := emptyAreas s t
      let s := s.modTile t fun x =>
        queueSwitch { x with update := { x.update with owner := 0 } } x.update.selected 2 x.force.digest
      changeTile s t x.ctl.state .stageClear fun c => { c with stage := false, switchPending := false }
    else closeUpdate s t
  s.modTile t fun x => ({ x with update := { x.update with result := 5 } } : Tile).rest

/-- The switch record at the front of its queue has been written to main and then to the twin, as an update write (R229, R233). -/
def execSwitchRecordWrite (t : TileId) (main twin : WriteResult) (s : State) : Out :=
  inOneCycle s <|
  match (s.tile t).update.switches with
  | [] => .next s
  | w :: rest =>
    if !writesRun s t ∨ !(portFree s t false .update && portFree s t true .update) then .next s
    else
      let x := s.tile t
      let s := if (mainUp x && main.ok) || (twinUp x && twin.ok) then writeRecord s t w.partition w.state w.digest else s
      let s := s.modTile t fun x => { x with update := { x.update with switches := rest } }
      .next (updateWrote (updateWrote s t false (mainUp x) main) t true (twinUp x) twin)

/-! ### Trials (R234) -/

/-- T_TRIAL reaches the boot_ok_timeout of the image on trial (R102, R234): RUN goes to RESTORE with cause FALLBACK, but not in
LOCKDOWN. -/
def execTrialExpiry (t : TileId) (s : State) : Out :=
  inOneCycle s <|
  let x := s.tile t
  if x.ctl.state ≠ .run ∨ x.update.trial.isNone ∨ s.gmode.mode = .lockdown ∨
      x.update.runMs < mfBootOkTimeout x.force.manifest then .next s
  else
    let s := enterRestore s t .fallback
    .next (s.modTile t fun x => x.endTrial 6)

/-- A confirmation by BOOT_OK or IMAGE_CONFIRM (R234): recorded, and outside LOCKDOWN it confirms a pending trial. -/
def confirmBoot (s : State) (t : TileId) : State :=
  let s := s.modTile t fun x => { x with update := { x.update with bootOk := true } }
  if (s.tile t).update.trial.isSome ∧ s.gmode.mode ≠ .lockdown then confirmTrial s t else s

end Sys2Proof.Machine
end

