-- ==== Sys2Proof/Machine/Recover.lean ====
section
/-! DEFINITION. Recovery sources (R216 to R221), the release of a fetched or restored image (R80, R85, R221), and the flash
writes that follow a restore. -/

namespace Sys2Proof.Machine

open Sys2Proof

/-! ### A failed source (R218) -/

/-- A recovery source fails: EVT_VERIFY_FAIL, its tried bit and cause, and the next source. Content of sources 3 to 5 comes
from no partition. -/
def sourceFailed (s : State) (t : TileId) (cause phase : Nat) (place : FailAt) (m : List Byte) : State :=
  let x := s.tile t
  let k := x.restore.source.toNat
  let s := raiseT s t 2 (failPayload cause phase x.verify.source.toNat (if k ≤ 2 then b01 x.verify.partition else 0xFF)
    place.level place.region place.index (failDetail m cause) (readDigest m))
  let s := s.modTile t fun x =>
    { x with
      verify := { x.verify with
        cause := BitVec.ofNat 8 cause
        region := if cause = 0x11 ∨ cause = 0x13 then BitVec.ofNat 5 place.region else x.verify.region }
      restore := { x.restore with
        tried := putBit x.restore.tried (k - 1) true, lastCause := BitVec.ofNat 8 cause, waiting := false } }
  nextSource s t (5 - k) k

/-- A source is passed over without an event (R217, R219). -/
def sourcePassed (s : State) (t : TileId) : State :=
  let k := (s.tile t).restore.source.toNat
  let s := s.modTile t fun x =>
    { x with restore := { x.restore with tried := putBit x.restore.tried (k - 1) true, waiting := false } }
  nextSource s t (5 - k) k

/-- The failed trial's digest excludes a manifest (R219). -/
def excluded (x : Tile) (m : List Byte) : Bool :=
  x.restore.fallback && x.restore.failedTrial.any (sameTrial · (manifestDigest m))

/-! ### A source that yields a verified copy (R218, R221) -/

/-- The rules of a fallback apply to the target and the record (R219, R232, R234): after a trial's expiry, or where a source
from the second on yields another image than that of a failed trial fetch. -/
def fallbackRules (x : Tile) (digest : Digest) (k : Nat) : Bool :=
  x.restore.fallback ||
    match x.restore.failedTrial with
    | some d => !sameTrial d digest && decide (2 ≤ k)
    | none => false

/-- A WATCHED region is held in the copy (R153, R248). -/
def holdRegion (s : State) (t : TileId) (region b : Nat) : State :=
  let v := (s.tile t).verify
  let s := raiseT s t 2 (failPayload 0x13 6 v.source.toNat (b01 v.partition) 0 region b 0 v.digest)
  let s := s.modVer t fun v =>
    { v with
      held := ((List.range (blockCount v.manifest)).filter fun k => decide (regionOfBlock v.manifest k = some region)) ++ v.held
      watchedHeld := true, region := BitVec.ofNat 5 region, cause := 0x13 }
  lifeRecord s t 0x03 region (s.tile t).verify.digest

/-- The image of a source is the tile's verified copy: nodes, good blocks, held regions with their first bad blocks, the OPEN copy.
EVT_VERIFY_DONE with kind IMAGE follows (R152, R248); the release waits until the tile is settled. -/
def adopt (s : State) (t : TileId) (m : List Byte) (nodes blocks : List (Nat × List Byte)) (held : List (Nat × Nat))
    (opens : List Host.Cell) : State :=
  let digest := manifestDigest m
  let s := s.modTile t fun x =>
    let k := x.restore.source.toNat
    let fb := fallbackRules x digest k
    let bad := fun b => decide (regionOfBlock m b ∈ held.map fun h => some h.1)
    { x with
      verify := { x.verify with
        phase := 8, accepted := true, manifest := m, digest := digest, sigPending := false, openDone := true
        partition := if k ≤ 2 then x.verify.partition else if fb then !x.restore.selected else x.restore.selected
        nodes := nodes.filter fun n => decide (2 ≤ n.1 / 65536)
        verified := (List.range (blockCount m)).filter fun b => !bad b
        prefixLen := blockCount m, watermark := watermarkOf m
        trialFetch := !fb && x.restore.failedTrial.any (sameTrial · digest) }
      mem := { x.mem with
        copy := blocks.foldl (fun c b => Memory.write 0xFF c (4096 * b.1) (padTo 4096 0xFF (b.2.take 4096))) []
        tree := (nodes.filter fun n => decide (n.1 / 65536 = 1)).map fun n => (n.1 % 65536, n.2)
        opens := opens }
      sweep := { x.sweep with passTick := s.attic.tick }
      restore := { x.restore with ready := true, waiting := false } }
  let s := held.foldl (fun s h => holdRegion s t h.1 h.2) s
  let s := raiseT s t 1 (donePayload s t 1)
  lifeRecord s t 0x02 0xFF digest

/-! ### Sources 1 and 2: the fetch pipeline over one flash (R132 to R144, R217) -/

/-- What the pipeline has found so far: the comparisons, verified nodes, good blocks, held regions with their first bad blocks,
addresses and kinds of what came from the other flash, and the first failure with its phase. -/
structure Walk where
  chk    : Checker
  nodes  : List (Nat × List Byte)
  blocks : List (Nat × List Byte)
  held   : List (Nat × Nat)
  repl   : List (Nat × Bool)
  fail   : Option (Nat × Nat × FailAt)

/-- What a walk reads: the tile, the manifest, the content, whether the other flash may be read too, the partition, and whether a
bad WATCHED block holds its region. -/
structure WalkFrom where
  tile      : Nat
  manifest  : List Byte
  flash     : FlashImage
  other     : Bool
  partition : Bool
  hold      : Bool

/-- Blocks replaced so far. -/
def Walk.replaced (w : Walk) : Nat := (w.repl.filter (·.2)).length

/-- The other flash may be read: once eight blocks were replaced it is the read source, and the first flash is given up (R136). -/
def Walk.other (w : Walk) (f : WalkFrom) : Bool := f.other && decide (w.replaced < 8)

/-- The first failure of a walk. -/
def Walk.failed (w : Walk) (cause phase level region index : Nat) : Walk :=
  { w with fail := some (cause, phase, { level := level, region := region, index := index }) }

/-- Content against its digest, from the read flash and then from the other one (R143, R144); content that is not listed could not
be read. The answer is the content with whether the other flash gave it, or nothing with whether a read failed. -/
def Walk.pick (w : Walk) (f : WalkFrom) (first second : Option (List Byte)) (want : Digest) :
    Walk × Option (List Byte × Bool) × Bool :=
  match first with
  | none => (w, none, true)
  | some d =>
    let (c, ok) := w.chk.cmp f.tile (Config.sha384 d) want
    let w := { w with chk := c }
    if ok then (w, some (d, false), false)
    else match second with
    | none => (w, none, false)
    | some d =>
      let (c, ok) := w.chk.cmp f.tile (Config.sha384 d) want
      ({ w with chk := c }, if ok then some (d, true) else none, false)

/-- A node is held, and what the other flash gave is noted for repair. -/
def Walk.keepNode (w : Walk) (f : WalkFrom) (level idx : Nat) (nd : List Byte) (other : Bool) : Walk :=
  { w with
    nodes := (nodeKey level idx, nd) :: w.nodes
    repl := if other then w.repl ++ [(nodeAddr f.manifest f.partition level idx, false)] else w.repl }

/-- What the flashes hold of a node: the read flash first. -/
def WalkFrom.node (f : WalkFrom) (level idx : Nat) : List (List Byte) :=
  (f.flash.nodes.filter fun n => decide (n.1 = nodeKey level idx)).map (·.2)

/-- An upper node (R140). -/
def walkUpper (f : WalkFrom) (w : Walk) (p : Nat × Nat) : Walk :=
  if w.fail.isSome then w
  else match parentEntry f.manifest w.nodes p.1 p.2 with
  | none => w.failed 0x10 5 p.1 0xFF p.2
  | some want =>
    let read := f.node p.1 p.2
    match w.pick f read.head? (if w.other f then read[1]? else none) want with
    | (w, some (nd, o), _) => w.keepNode f p.1 p.2 nd o
    | (w, none, gone) => if gone then w.failed 0x12 5 0xFF 0xFF 0xFFFFFFFF else w.failed 0x10 5 p.1 0xFF p.2

/-- One block on the per-leaf path (R144, R146, R153). -/
def walkBlock (f : WalkFrom) (other : Bool) (node : List Byte) (w : Walk) (b : Nat) : Walk :=
  if w.fail.isSome then w
  else
    let m := f.manifest
    let read := fun l : List (Nat × List Byte) => (assocGet l b).map fun d => d.take (blockLen m b)
    match w.pick f (read f.flash.blocks) (if other then read f.flash.others else none) (nodeEntry node (b % 32)) with
    | (w, some (d, o), _) =>
      { w with blocks := (b, d) :: w.blocks, repl := if o then w.repl ++ [(blockAddr m f.partition b, true)] else w.repl }
    | (w, none, gone) =>
      let r := (regionOfBlock m b).getD 0xFF
      if gone then w.failed 0x12 6 0xFF 0xFF 0xFFFFFFFF
      else if blockWatched m b ∧ f.hold then
        { w with held := if w.held.any (fun h => decide (h.1 = r)) then w.held else w.held ++ [(r, b)] }
      else w.failed (if blockWatched m b then 0x13 else 0x11) 6 0 r b

/-- One group (R142, R144): the node rebuilt from the blocks read, which then are verified, else the stored level-1 node and the
per-leaf path. -/
def walkGroup (f : WalkFrom) (w : Walk) (g : Nat) : Walk :=
  if w.fail.isSome then w
  else match parentEntry f.manifest w.nodes 1 g with
  | none => w.failed 0x10 6 1 0xFF g
  | some want =>
    let m := f.manifest
    let bs := groupBlocks (blockCount m) g
    let read := bs.filterMap fun b => (assocGet f.flash.blocks b).map fun d => (b, d.take (blockLen m b))
    let cand := candidateNode (read.map fun x => Config.sha384 x.2)
    let (c, ok) := if read.length = bs.length then w.chk.cmp f.tile (Config.sha384 cand) want else (w.chk, false)
    let w := { w with chk := c }
    if ok then { w.keepNode f 1 g cand false with blocks := read.reverse ++ w.blocks }
    else
      let other := w.other f
      let nodes := f.node 1 g
      match w.pick f nodes.head? (if other then nodes[1]? else none) want with
      | (w, some (nd, o), _) => bs.foldl (walkBlock f other nd) (w.keepNode f 1 g nd o)
      | (w, none, gone) => if gone then w.failed 0x12 6 0xFF 0xFF 0xFFFFFFFF else w.failed 0x10 6 1 0xFF g

/-- The pipeline from TREE to STREAM. -/
def walkFlash (f : WalkFrom) (c : Checker) : Walk :=
  let n := blockCount f.manifest
  let w := ((treePlaces n).filter fun p => decide (2 ≤ p.1)).foldl (walkUpper f)
    { chk := c, nodes := [], blocks := [], held := [], repl := [], fail := none }
  (List.range (nodesAt n 1)).foldl (walkGroup f) w

/-- Source 1 reads one flash alone; source 2 takes content from the other flash too, where it may be read (R136, R217). -/
def sourceOther (x : Tile) : Bool := decide (x.restore.source = 2) && otherUsable x

/-- What the flashes returned to source 1 or 2 is checked (R218). -/
def restoreFlash (s : State) (t : TileId) (flash : FlashImage) (sig : RafterRun) (runs : List CmpRuns) : State :=
  let x := s.tile t
  if flash.manifest = [] then sourceFailed s t 0x12 3 .none []
  else
    let m := if headerOk flash.manifest then flash.manifest.take (mfLen flash.manifest) else flash.manifest.take 256
    if excluded x m then sourcePassed s t
    else
      let s := headerRead s t m
      let c := checkManifest s (.tile t none) m none
      if 0 < c ∧ c < 5 then sourceFailed s t c 4 .none m
      else
        let (s, ok) := manifestSig s m sig t.val
        let c := checkManifest s (.tile t none) m (some ok)
        if c ≠ 0 then sourceFailed s t c 4 .none m
        else
          let s := s.modTile t fun x => x.accept m
          let w := walkFlash
            { tile := t.val, manifest := m, flash := flash, other := sourceOther x, partition := x.verify.partition
              hold := !x.active.watchedRestore } { st := s, runs := runs }
          let s := w.chk.st.modVer t fun v => { v with manifest := m, digest := manifestDigest m }
          let s := w.repl.foldl (fun s r => replaced s t x.verify.readTwin r.1 r.2) s
          match w.fail with
          | some (c, phase, place) => sourceFailed s t c phase place m
          | none =>
            match openCopy m flash.opens with
            | some opens => adopt s t m w.nodes w.blocks w.held opens
            | none => sourceFailed s t 0x12 10 .none m

/-! ### Sources 3 to 5: content in push format (R218, R220) -/

/-- Content in push format is checked; the OPEN copy needs a flash that can be read (R141). -/
def restorePush (s : State) (t : TileId) (p : Push) (count : Option Nat) (opens : List (Nat × List Byte)) (sig : RafterRun)
    (runs : List CmpRuns) : State :=
  let x := s.tile t
  let m := p.manifest
  if p.headerOk && excluded x m then sourcePassed s t
  else
    let (s, c) := checkPush s t p count none sig
    if c ≠ 0 then sourceFailed s t c 4 .none (if p.headerOk then m else [])
    else
      let s := s.modTile t fun x => x.accept m
      let nodes := p.nodes m
      let blocks := p.blocks m
      let (c, found) := checkBulk { st := s, runs := runs } t.val m nodes blocks (!x.active.watchedRestore)
      match found.fail with
      | some (cause, place) => sourceFailed c.st t cause (if place.level = 0 then 6 else 5) place m
      | none =>
        let open_ := if !mainUp x ∧ !twinUp x then openCopy m [] else openCopy m opens
        match open_ with
        | none => sourceFailed c.st t 0x12 10 .none m
        | some opens => adopt c.st t m nodes (blocks.filter fun b => decide (b.1 ∉ found.bad)) found.held opens

/-- A golden copy in the Underlay. -/
def goldenPush (s : State) (t : TileId) : Push where
  read := fun off n => padTo n 0xFF (slice off n (s.tile t).restore.golden)
  poison := fun off n => rangeDown s off n

/-- A golden copy in the Purlin flash, from its base. -/
def purlinPush (s : State) (base : Nat) : Push where
  read := fun off n => Memory.read 0xFF s.purlin.contents (base + off) n
  poison := fun _ _ => false

/-- Restoring goes on in the tile's state and mode. -/
def restoring (s : State) (t : TileId) : Bool :=
  decide ((s.tile t).ctl.state = .restore) && fetchAllowed s t && !(s.tile t).restore.ready

/-- A recovery source finishes its checks (R218): sources 1 and 2 with what the flashes returned, 3 and 5 with the golden
copies and the OPEN bytes the flash returned. -/
def execRestoreSourceDone (t : TileId) (flash : FlashImage) (sig : RafterRun) (runs : List CmpRuns) (s : State) : Out :=
  inOneCycle s <|
  if !restoring s t then .next s
  else match (s.tile t).restore.source.toNat with
  | 1 => .next (restoreFlash s t flash sig runs)
  | 2 => .next (restoreFlash s t flash sig runs)
  | 3 => .next (restorePush s t (goldenPush s t) none flash.opens sig runs)
  | 5 =>
    match goldenEntry s t with
    | some (base, _) => .next (restorePush s t (purlinPush s base) none flash.opens sig runs)
    | none => .next (sourcePassed s t)
  | _ => .next s

/-- push_wait passes without IMAGE_RECOVER (R217, R220). -/
def execPushWaitExpiry (t : TileId) (s : State) : Out :=
  inOneCycle s <|
  if restoring s t ∧ (s.tile t).restore.waiting then .next (sourcePassed s t) else .next s

/-! ### Releases (R80, R85, R221, R234) -/

/-- The flash writes that follow a restore's release (R217, R221, R232): repairs after
source 1 of what was found failing on the flash read before (R145), a switch record after
source 2, the image into the target partition after sources 3 to 5. Under the fallback rules the partition restored is the
selected one from then on (DEDUCED from R234, log entry 7). -/
def afterRestore (s : State) (t : TileId) : State :=
  let x := s.tile t
  let k := x.restore.source.toNat
  let fb := fallbackRules x x.verify.digest k
  let state : BitVec 8 := if fb then 3 else 2
  let s := s.modTile t fun x => if fb then { x with update := x.update.select x.verify.partition } else x
  match k with
  | 1 => x.restore.badAddrs.foldl (fun s a => queueRepair s t x.restore.readTwin a) s
  | 2 => s.modTile t fun x => queueSwitch x x.verify.partition state x.verify.digest
  | _ => s.modTile t fun x => { x with restore := { x.restore with writing := some (x.verify.partition, state) } }

/-- A trial ends where a restore releases another image (R234). -/
def restoreTrial (x : Tile) : Tile :=
  let other := match x.update.trial with | some d => decide (d ≠ x.verify.digest) | none => false
  if other || (fallbackRules x x.verify.digest x.restore.source.toNat && !x.restore.fallback) then x.endTrial 6 else x

/-- The release conditions hold and PLT_RST_N is released into RUN (R80, R85, R148, R221). -/
def execRelease (t : TileId) (mirror : List (Nat × List Byte)) (s : State) : Out :=
  inOneCycle s <|
  let x := s.tile t
  if !settled s t ∨ s.boot.ridgeHeld then .next s
  else if releaseReady x then
    let s := releaseImage s t .run .release 1 mirror
    let s := s.modVer t fun v => { v with phase := if v.phase = 6 then 7 else v.phase }
    .next (gateCheck (raiseT s t 1 (donePayload s t 0)))
  else if x.ctl.state = .restore ∧ x.restore.ready then
    let s := s.modTile t restoreTrial
    let s := releaseImage s t .run .restoreOk 4 mirror
    let s := s.modTile t fun x =>
      { x with restore := { x.restore with ready := false, waiting := false, restores := satInc 0xFF x.restore.restores } }
    let s := afterRestore s t
    .next (gateCheck (raiseT s t 1 (donePayload s t 0)))
  else .next s

/-- The flash writes after a restore's release finish (R221, R229): a flash whose write failed is marked down, and the
switch record naming the target partition follows where one flash was written. -/
def execRestoreFlashWriteDone (t : TileId) (main twin : WriteResult) (s : State) : Out :=
  inOneCycle s <|
  let x := s.tile t
  match x.restore.writing with
  | none => .next s
  | some (partition, state) =>
    if !writesRun s t ∨ !(portFree s t false .update && portFree s t true .update) then .next s
    else
      let wrote := (mainUp x && main.ok) || (twinUp x && twin.ok)
      let s := updateWrote (updateWrote s t false (mainUp x) main) t true (twinUp x) twin
      .next (s.modTile t fun x =>
        let x := { x with restore := { x.restore with writing := none } }
        if wrote then queueSwitch x partition state x.force.digest else x)

end Sys2Proof.Machine
end

