-- ==== Sys2Proof/Machine/Images.lean ====
section
/-! DEFINITION. The IMAGE_ commands (R222 to R236, R431): host staging, commits, pushes, golden copies, SVN commits, formats
and erases of OPEN regions. -/

namespace Sys2Proof.Machine

open Sys2Proof

/-! ### Host staging (R226, R227, R230, R431) -/

/-- IMAGE_STAGE (R74, R226, R431). -/
def execImageStage (h : LdId) (s : State) : Out :=
  runCmd s h (tileCmd (0x300 * 256) 4) fun s _ t =>
    let x := s.tile t
    if x.ctl.state = .fetch ∨ x.ctl.state = .restore ∨ (x.owned ∧ x.update.owner = 1) then tileDone s t stBusy
    else if x.owned then
      if x.update.phase = 1 then
        let s := s.modTile t fun x => { x with update := { x.update with mailbox := h } }
        tileDone s t stOk
      else tileDone s t stBusy
    else if x.ctl.state = .absent ∨ (tileLayout x).isNone then tileDone s t stBadArg
    else
      let s := stageBegin s t 2 h
      tileDone s t stOk

/-- Bytes land in the owner push buffer. -/
def storePush (s : State) (off : Nat) (data : List Byte) : State :=
  let s := writeLines s 32 off data.length
  { s with memctl := { s.memctl with push := Memory.write 0xFF s.memctl.push off data } }

/-- IMAGE_WRITE (R403, R431, R444). -/
def execImageWrite (h : LdId) (s : State) : Out :=
  runCmd s h { row := 0x301 * 256, modes := servedModes, len := rangeLen 13 0x2000, role := ownerOnly, tile := true }
    fun s m t =>
      let off := m.arg 8 4
      let data := m.bytes 12 (m.length.toNat - 12)
      if 1 < m.arg 4 1 ∨ !m.zero 5 3 then .done s stBadArg []
      else if m.arg 4 1 = 1 then
        if pushSize < off + data.length then .done s stBadArg [] else .done (storePush s off data) stOk []
      else match hostStage (wakeNow s) t off data with
        | (s, 0) => .done s stOk []
        | (s, 1) => .done s stDenied []
        | (s, _) => .done s stExhausted []

/-- IMAGE_COMMIT (R227, R431); one that is taken enters the sender's mailbox in T_UPDATE (R412). -/
def execImageCommit (h : LdId) (s : State) : Out :=
  runCmd s h (tileCmd (0x302 * 256) 8) fun s m t =>
    let x := s.tile t
    if !x.owned then tileDone s t stBadArg
    else if x.update.owner = 1 then tileDone s t stBusy
    else match commitStaged s t (m.arg 4 4) with
      | (s, true) => tileDone (s.modTile t fun x => { x with update := { x.update with mailbox := h } }) t stOk
      | (s, false) => tileDone s t stBusy

/-- IMAGE_ABANDON (R230, R431). -/
def execImageAbandon (h : LdId) (s : State) : Out :=
  runCmd s h (tileCmd (0x303 * 256) 4) fun s _ t =>
    if abandonable (s.tile t) then
      let s := abandonUpdate s t
      tileDone s t stOk
    else tileDone s t stBadArg

/-- The tile whose trial an IMAGE_CONFIRM confirms: its request passes every check of R421 and R431. -/
def confirmedTile (s : State) (h : LdId) (m : Mailbox) : Option TileId :=
  match argTile m with
  | none => none
  | some t =>
    if fixedLen 4 s m = 0 ∧ ownerOnly s h ∧ !fusedOff s t ∧ m.gen = (s.tile t).ctl.gen ∧ (s.tile t).update.trial.isSome ∧
        (s.tile t).ctl.state.released then some t
    else none

/-- IMAGE_CONFIRM (R234, R431). In LOCKDOWN it completes with ST_DENIED (R64), and a confirmation that would be taken is recorded in
T_UPDATE.boot_ok and does nothing else (R234). -/
def execImageConfirm (h : LdId) (s : State) : Out :=
  if s.gmode.mode = .lockdown then
    runCmd s h { row := 0x304 * 256, modes := [.lockdown], len := fun _ _ => 0 } fun s m _ =>
      match confirmedTile s h m with
      | some t => .done (confirmBoot s t) stDenied []
      | none => .done s stDenied []
  else
    runCmd s h (tileCmd (0x304 * 256) 4) fun s _ t =>
      if (s.tile t).update.trial.isSome ∧ (s.tile t).ctl.state.released then
        let s := confirmBoot s t
        tileDone s t stOk
      else tileDone s t stBadArg

/-- t_ORPHAN passes with no logical device holding the owner role (R410): host staging not yet committed is abandoned. In DEPOT no tile
changes again (R102). -/
def execOrphanExpiry (s : State) : Out :=
  inOneCycle s <|
  if ownerLds s ≠ 0 ∨ s.gmode.mode = .depot then .next s
  else
    .next ((List.finRange 32).foldl (fun s t =>
      if (s.tile t).update.owner = 2 ∧ (s.tile t).update.phase = 1 then abandonUpdate s t else s) s)

/-! ### Host push (R220, R431) -/

/-- Content of the owner push buffer from an offset. -/
def windowPush (s : State) (base : Nat) : Push where
  read := fun off n => Memory.read 0xFF s.memctl.push (base + off) n
  poison := fun off n => poisonIn s 32 (base + off) n

/-- IMAGE_RECOVER (R220, R431): the push is checked and the restore goes on. -/
def execImageRecover (h : LdId) (opens : List (Nat × List Byte)) (sig : RafterRun) (runs : List CmpRuns) (s : State) : Out :=
  runCmd s h (tileCmd (0x305 * 256) 12) fun s m t =>
    let base := m.arg 4 4
    if (s.tile t).ctl.state ≠ .restore then tileDone s t stBadArg
    else if !(s.tile t).restore.waiting then tileDone s t stBusy
    else
      let p := windowPush s base
      if base % 0x1000 ≠ 0 ∨ pushSize ≤ base ∨ (p.headerOk ∧ pushSize < base + pushLen p.manifest) then
        tileDone s t stBadArg
      else
        let s := restorePush (firstDown s 32 3 3 base p.length) t p (some (m.arg 8 4)) opens sig runs
        tileDone s t stOk

/-! ### Golden copies (R222 to R224) -/

/-- A running image in push format: the manifest in force, the full tree, the verified copy (R222, R225). -/
def goldenContent (x : Tile) : List Byte :=
  let m := x.force.manifest
  let n := blockCount m
  let tree := x.verify.nodes.foldl (fun c d =>
    Memory.write 0xFF c (nodeOffset n (d.1 / 65536) (d.1 % 65536)) d.2) []
  let tree := x.mem.tree.foldl (fun c d => Memory.write 0xFF c (nodeOffset n 1 d.1) d.2) tree
  padTo 0x10000 0xFF m ++ Memory.read 0xFF tree 0 (mfTreeSize m) ++ Memory.read 0xFF x.mem.copy 0 (mfImageLen m)

/-- Purlin address of a tile's golden directory sector (R223). -/
def goldenSector (t : TileId) : Nat := 0x2000000 + 0x1000 * t.val

/-- A base may hold a tile's Purlin slot of some length (R224). -/
def goldenBaseOk (s : State) (t : TileId) (base len : Nat) : Bool :=
  decide (base % 0x10000 = 0 ∧ 0x2020000 ≤ base ∧ base + len ≤ densityOf s.purlin.disc) &&
    (List.finRange 32).all fun q =>
      decide (q = t) || match goldenEntry s q with
        | some (b, n) => decide (b + n ≤ base ∨ base + len ≤ b)
        | none => true

/-- The Underlay capture replaces the tile's previous copy (R222, R443). -/
def captureGolden (s : State) (t : TileId) (content : List Byte) : State :=
  s.modTile t fun x =>
    { x with
      restore := { x.restore with golden := content, goldenU := true }
      mem := { x.mem with goldGranules := granulesFor content.length } }

/-- The Purlin write begins (R224): the directory sector is erased. -/
def beginGolden (s : State) (t : TileId) (base : Nat) (content : List Byte) : State :=
  let s := { s with purlin := { s.purlin with contents := Memory.erase s.purlin.contents (goldenSector t) 0x1000 } }
  s.modTile t fun x =>
    { x with restore := { x.restore with goldenPend := content, goldenBase := base, goldenBusy := true } }

/-- IMAGE_GOLDEN (R222, R224, R431). A copy that cannot be read, a channel being marked down, fails at its first block (R448, R452). -/
def execImageGolden (h : LdId) (s : State) : Out :=
  runCmd s h (tileCmd (0x306 * 256) 12) fun s m t =>
    let x := s.tile t
    let target := m.arg 4 4
    let underlay := target % 2 = 1
    let purlin := 2 ≤ target
    let len := pushLen x.force.manifest
    let need := granulesFor len
    if target = 0 ∨ 4 ≤ target then tileDone s t stBadArg
    else if x.ctl.state ≠ .run ∨ x.verify.phase ≠ 8 ∨ x.update.trial.isSome ∨ (purlin ∧ x.restore.goldenBusy) then
      tileDone s t stBusy
    else if purlin ∧ !goldenBaseOk s t (m.arg 8 4) len then tileDone s t stBadArg
    else if underlay ∧ poolFree s + x.mem.goldGranules < need then tileDone (poolEvent s t need) t stBadArg
    else if purlin ∧ s.purlin.state ≠ 1 then tileDone s t stFault
    else if rangeDown s 0 (mfImageLen x.force.manifest) then
      tileDone (suspectBlock (downEvents s t.val 0 2 0 (min 0x1000 (mfImageLen x.force.manifest))) t 0) t stFault
    else
      let content := goldenContent x
      let s := if underlay then captureGolden s t content else s
      let s := if purlin then beginGolden s t (m.arg 8 4) content else s
      tileDone s t stOk

/-- A golden directory entry (R224). -/
def goldenRecord (base : Nat) (content : List Byte) : List Byte :=
  let e := packBytes 0x1C [(0, 4, 0x444C4742), (4, 4, base), (8, 4, content.length),
    (0x0C, 16, (manifestDigest content).toNat % 2 ^ 128)]
  e ++ bytesOf 4 (crc32 e)

/-- The Purlin golden write ends (R224): slot and entry stand, or there is no valid entry and EVD_PURLIN_FAULT. -/
def execGoldenPurlinWriteDone (t : TileId) (ok : Bool) (s : State) : Out :=
  let r := (s.tile t).restore
  if !r.goldenBusy then .next s
  else
    let s := s.modTile t fun x => { x with restore := { x.restore with goldenBusy := false, goldenPend := [] } }
    if ok ∧ s.purlin.state = 1 then
      let c := Memory.write 0xFF s.purlin.contents r.goldenBase r.goldenPend
      .next { s with purlin := { s.purlin with
        contents := Memory.write 0xFF c (goldenSector t) (goldenRecord r.goldenBase r.goldenPend) } }
    else .next (storeFailed s 1 r.goldenBase)

/-! ### Anti-rollback (R235) -/

/-- IMAGE_SVN_COMMIT (R235). -/
def execImageSvnCommit (h : LdId) (burns : List Burn) (s : State) : Out :=
  runCmd s h { row := 0x307 * 256, modes := [.serve, .doze, .maintain, .barren], len := fixedLen 8, tile := true, gen := true
               role := fun s h => ownerOnly s h && !s.otp.overrides } fun s m t =>
    let x := s.tile t
    let v := m.arg 4 4
    if 64 < v ∨ x.force.manifest = [] ∨ mfSvn x.force.manifest < v then tileDone s t stBadArg
    else if x.ctl.switchPending ∨ x.update.trial.isSome ∨ otpBusy s h then tileDone s t stBusy
    else if v ≤ svnCount s t.val then tileDone s t stOk
    else
      let (s, st) := burnSvn t.val burns 64 v (otpRuns s) 0
      tileDone s t st

/-! ### Formatting (R431) -/

/-- IMAGE_FORMAT (R431). -/
def execImageFormat (h : LdId) (s : State) : Out :=
  runCmd s h (tileCmd (0x308 * 256) 12) fun s m t =>
    let x := s.tile t
    let base := m.arg 4 4
    let len := m.arg 8 4
    let hd := Memory.read 0xFF s.memctl.push base 256
    if x.ctl.state ≠ .off ∨ x.ctl.stage ∨ pushSize < base + len then tileDone s t stBadArg
    else if x.eave.format.isSome then tileDone s t stBusy
    else if poisonIn s 32 base 256 ∨ !headerOk hd ∨ flashEnd (mfLayout hd) ≠ len ∨ !fitsFlash x len then tileDone s t stBadArg
    else
      let s := s.modTile t fun x => { x with eave := { x.eave with format := some (base, len) } }
      tileDone s t stOk

/-- What the attempts at a write on one flash came to (R204, R353), from what each read back, none where its entries failed: the last
attempt is the first that reads the bytes, or the third. -/
def attemptsResult (bytes : List Byte) (attempts : List (Option (List Byte))) : WriteResult :=
  let tried := attempts.take 3
  let wrong := tried.takeWhile fun a => decide (a ≠ some bytes)
  { ok := decide (wrong.length < tried.length)
    differed := (wrong.filter Option.isSome).length
    unit := match wrong.getLast? with
      | some (some got) => (firstDiffer 0 bytes got).getD 0 / 0x1000 * 0x1000
      | _ => 0 }

/-- The format write finishes on the flashes (R127, R204, R431): every area is erased and programmed from the push buffer's image,
whose bytes are driven, and read back; a flash whose read-back differs three times, or whose writes failed, is handled as R204 gives. -/
def execImageFormatDone (t : TileId) (main twin : List (Option (List Byte))) (s : State) : Out :=
  inOneCycle s <|
  let x := s.tile t
  match x.eave.format with
  | none => .next s
  | some (base, len) =>
    let bytes := Memory.read 0xFF s.memctl.push base len
    let rm := attemptsResult bytes main
    let rt := attemptsResult bytes twin
    let flashes := b01 (mainUp x && rm.ok) + 2 * b01 (twinUp x && rt.ok)
    let s := (s.modTile t fun x => { x with eave := { x.eave with format := none } }).respond bytes 0
    .next (writeDoneEvent (updateWrote (updateWrote s t false (mainUp x) rm) t true (twinUp x) rt) t 0 0 flashes)

/-! ### Erasing part of an OPEN region (R201, R202, R431) -/

/-- An erase of OPEN bytes is not aligned to a flash of the tile (R201), one that is down included: offset in the OPEN area, length,
in a region. -/
def alignDenied (x : Tile) (r : Region) (off len : Nat) : Bool :=
  let bad := fun e : Nat =>
    decide (0x1000 < e ∧ (r.base % e ≠ 0 ∨ r.src % e ≠ 0 ∨ r.len % e ≠ 0 ∨ off % e ≠ 0 ∨ len % e ≠ 0))
  (present x.eave.main && bad (eraseUnitOf x.eave.main)) ||
    (x.eave.twinFitted && present x.eave.twin && bad (eraseUnitOf x.eave.twin))

/-- A write joins the tile's write queue and WIP is set (R202): the size of the view erase, 0 for a program, and its ranges of the
OPEN area, whose copy holds the resulting bytes. -/
def queueWrite (x : Tile) (size : Nat) (parts : List (Nat × Nat)) : Tile :=
  { x with filter := { x.filter with wip := true, queue := x.filter.queue ++ [newWrite x.mem.opens size parts] } }

/-- A view address lies in a range of the OPEN area. -/
def openHit (m : List Byte) (off len a : Nat) : Bool :=
  match regionAt m a with
  | some i => let r := mfRegion m i; r.isOpen && decide (off ≤ r.src + (a - r.base) ∧ r.src + (a - r.base) < off + len)
  | none => false

/-- A write into the OPEN copy makes the prefetched lines that hold its bytes invalid (R170). -/
def dropOpenSlots (x : Tile) (off len : Nat) : Tile :=
  x.dropLines (openHit x.force.manifest off len)

/-- IMAGE_OPEN_ERASE (R431). -/
def execImageOpenErase (h : LdId) (s : State) : Out :=
  runCmd s h (tileCmd (0x309 * 256) 16) fun s m t =>
    let x := s.tile t
    let mf := x.force.manifest
    let off := m.arg 8 4
    let len := m.arg 12 4
    let r := mfRegion mf (m.arg 4 1)
    if !m.zero 5 3 ∨ !x.ctl.state.released ∨ mfRegionCount mf ≤ m.arg 4 1 ∨ !r.isOpen ∨ off % 0x1000 ≠ 0 ∨ len % 0x1000 ≠ 0 ∨
        r.len < off + len then tileDone s t stBadArg
    else if !mainUp x ∧ !twinUp x then tileDone s t stFault
    else if alignDenied x r (r.src + off) len then tileDone s t stBadArg
    else if 64 ≤ x.filter.queue.length then tileDone s t stBusy
    else
      let s := s.modTile t fun x =>
        if len = 0 then x
        else
          dropOpenSlots (queueWrite { x with mem := { x.mem with opens := Memory.erase x.mem.opens (r.src + off) len } } len
            [(r.src + off, len)]) (r.src + off) len
      tileDone s t stOk

end Sys2Proof.Machine
end

