-- ==== Sys2Proof/Machine/Filter.lean ====
section
/-! DEFINITION. Command filtering on the flash-emulation select (R72, R187 to R213, R363): the checks every select passes, the
emulated functions, platform writes and the write queue, STAGE-rule commits. -/

namespace Sys2Proof.Machine

open Sys2Proof

/-- OPI-S or OPI-D is in force (R187). -/
def octal (x : Tile) : Bool := decide (2 ≤ x.filter.protocol.toNat)

/-- The command bytes as received, first in [7:0] (R213). -/
def commandBytes (x : Tile) (sel : Sel) : Nat := sel.op.toNat + (if octal x then 256 * sel.op2.toNat else 0)

/-- A denial advances T_FILTER_STAT, and EVT_FILTER_DENY is raised where its reason may be now (R212, R213): the answer is whether it
was. -/
def denyRaise (s : State) (t : TileId) (sel : Sel) (reason region addr len : Nat) : State × Bool :=
  let s := s.modFilter t fun f => { f with denyCount := satInc 0xFF f.denyCount }
  let x := s.tile t
  match holdGate s t reason with
  | (s, none) => (s, false)
  | (s, some held) =>
    (raiseT s t 4 (payload [(0, 1, reason), (1, 1, x.filter.protocol.toNat), (2, 1, region), (4, 4, commandBytes x sel),
      (8, 4, addr), (0x0C, 4, len), (0x10, 4, held)]), true)

/-- EVT_FILTER_DENY (R212, R213). -/
def denyEvent (s : State) (t : TileId) (sel : Sel) (reason region addr len : Nat) : State :=
  (denyRaise s t sel reason region addr len).1

/-- EVT_FRAME_BAD (R209, R212, R388): select 0 FLASH, 1 SIDEBAND, 2 OVERLAP. -/
def frameBadEvent (s : State) (t : TileId) (select reason mode edges first words crc : Nat) : State :=
  match holdGate s t (0x100 * (1 + select) + reason) with
  | (s, none) => s
  | (s, some held) =>
    raiseT s t 7 (payload [(0, 1, select), (1, 1, reason), (2, 1, mode), (4, 4, min 0xFFFFFFFF edges), (8, 4, first),
      (0x0C, 4, words), (0x10, 4, crc), (0x14, 4, held)])

/-- A select is discarded whole (R209, R211). -/
def discardSelect (s : State) (t : TileId) (sel : Sel) (reason : Nat) : State :=
  let s := s.modFilter t fun f => { f with frameBad := satInc 0xFF f.frameBad }
  let x := s.tile t
  (frameBadEvent s t 0 reason x.filter.protocol.toNat sel.edges (commandBytes x sel) 0 0).respond [] 1

/-! ### Every select (R72, R188 to R190) -/

/-- The entry of a select's first command byte (R189). -/
def selEntry (x : Tile) (sel : Sel) : Word := x.active.optab[sel.op.toFin]

/-- One more occurrence of a reason is suppressed (R212). -/
def suppress (s : State) (t : TileId) (key : Nat) : State :=
  s.modFilter t fun f =>
    { f with
      denyCount := satInc 0xFF f.denyCount
      holdoffs := f.holdoffs.map fun h => if h.key = key then { h with held := h.held + 1 } else h }

/-- A select in a state that does not answer (R72): one event for each entry to such a state, the others being suppressed
occurrences of the reason STATE (R212). R72 and R212 do not say what becomes of a first event that evt_holdoff holds back: a later select of
the same entry raises it (DESIGN CHOICE, log entry 85). -/
def unanswered (s : State) (t : TileId) (sel : Sel) : State :=
  let s := s.respond [] 1
  if (s.tile t).power.stateDenied then suppress s t 0x08
  else
    let (s, raised) := denyRaise s t sel 0x08 0xFF 0xFFFFFFFF 0
    s.modTile t fun x => { x with power := { x.power with stateDenied := raised } }

/-- A select handled as DENY (R190): an entry with wel clears WEL. -/
def denySelect (s : State) (t : TileId) (sel : Sel) (reason : Nat) : State :=
  let wel := optWel (selEntry (s.tile t) sel)
  let s := denyEvent s t sel reason 0xFF 0xFFFFFFFF 0
  (s.modFilter t fun f => { f with wel := f.wel && !wel }).respond [] 1

/-- What a select comes to before its own meaning: a fused-off tile's port does not respond (R3), a state that answers
nothing, a malformed command, a denial, an ignored command, or the entry it is carried out by. -/
inductive SelCase where
  | silent
  | unanswered
  | discarded
  | denied (reason : Nat)
  | noWel
  | busy
  | carried (e : Word)
  deriving DecidableEq, Repr

/-- A write is suspended (R192, R199). -/
def TileFilter.suspended (f : TileFilter) : Bool := f.eraseSus || f.progSus

/-- A write entry while WIP is 1 is ignored unless a write is suspended (R199); any other entry goes by its busy_ok (R190). -/
def selBusy (x : Tile) (e : Word) : Bool :=
  if optWrites e then x.filter.wip && !x.filter.suspended else !optBusyOk e && x.filter.wip

/-- An entry of DENY denies with OPCODE in every protocol (DEDUCED, log entry 45), any other one with PROTOCOL where its proto bit is
clear (R190). R190 gives no order of its points: a denial comes before the checks of WEL and of WIP (DESIGN CHOICE, log entry 85). -/
def selCase (s : State) (t : TileId) (sel : Sel) : SelCase :=
  let x := s.tile t
  let e := selEntry x sel
  if fusedOff s t then .silent
  else if !x.ctl.state.released then .unanswered
  else if octal x ∧ sel.op2 ≠ ~~~sel.op then .discarded
  else if optAction e = 0 ∨ 4 < optAction e then .denied 0x00
  else if !optProto e x.filter.protocol.toNat then .denied 0x01
  else if (optWel e ∨ optWrites e) ∧ !x.filter.wel then .noWel
  else if selBusy x e then .busy
  else .carried e

/-- A select of CS_FLASH_N: its common handling, then `body` where its entry is of the row's kind. Every select but
RESET_ENABLE disarms RESET (R192). -/
def onSelect (s : State) (t : TileId) (sel : Sel) (kind : Word → Bool) (body : State → Word → Bool → State) : Out :=
  let armed := (s.tile t).filter.resetArmed
  let off := fun s : State => s.modFilter t fun f => { f with resetArmed := false }
  inOneCycle s <| match selCase s t sel with
  | .silent => .next (s.respond [] 1)
  | .unanswered => .next (unanswered s t sel)
  | .discarded => .next (discardSelect (off s) t sel 4)
  | .denied r => .next (denySelect (off s) t sel r)
  | .noWel => .next (((off s).modFilter t fun f => { f with noWel := satInc 0xFF f.noWel }).respond [] 1)
  | .busy => .next (((off s).modFilter t fun f => { f with busyIgn := satInc 0xFF f.busyIgn }).respond [] 1)
  | .carried e => if kind e then .next (body (off s) e armed) else .next s

/-- The row of a select whose entry denies it (R190); a select of another kind is not this row's. -/
def execOpcodeDeny (t : TileId) (sel : Sel) (s : State) : Out := onSelect s t sel (fun _ => false) fun s _ _ => s

/-- A select in a state that does not answer (R72). -/
def execSelectUnanswered (t : TileId) (sel : Sel) (s : State) : Out :=
  if fusedOff s t then .next (s.respond [] 1)
  else if (s.tile t).ctl.state.released then .next s
  else .next (unanswered s t sel)

/-- A select that broke off or carried too much (R209, R211): nothing changes, WEL included. -/
def execSelectMalformed (t : TileId) (sel : Sel) (reason : Fin 5) (s : State) : Out :=
  inOneCycle s <|
  if fusedOff s t then .next (s.respond [] 1)
  else if !(s.tile t).ctl.state.released then .next (unanswered s t sel)
  else .next (discardSelect (s.modFilter t fun f => { f with resetArmed := false }) t sel reason.val)

/-- Both selects asserted together (R363). -/
def execSelectOverlap (t : TileId) (edges : Nat) (s : State) : Out :=
  if fusedOff s t then .next (s.respond [] 1)
  else
    let s := s.modFilter t fun f => { f with resetArmed := false }
    .next ((frameBadEvent s t 2 0x20 (s.tile t).filter.protocol.toNat edges 0 0 0).respond [] 1)

/-! ### Emulated functions (R192 to R196) -/

/-- An entry of EMULATE with a function code. -/
def emuKind (func : Nat) (e : Word) : Bool := decide (optAction e = 2 ∧ optFunc e = func)

/-- An emulated command that drives nothing; an entry with wel clears WEL when accepted (R189). -/
def emulate (s : State) (t : TileId) (sel : Sel) (func : Nat) (f : Bool → TileFilter → TileFilter) : Out :=
  onSelect s t sel (emuKind func) fun s e armed =>
    (s.modFilter t fun x => f armed { x with wel := x.wel && !optWel e }).respond [] 0

/-- An emulated register read of n bytes. -/
def emuRead (s : State) (t : TileId) (sel : Sel) (func n : Nat) (byte : Tile → Nat → Byte) : Out :=
  onSelect s t sel (emuKind func) fun s e _ =>
    let x := s.tile t
    (s.modFilter t fun f => { f with wel := f.wel && !optWel e }).respond ((List.range n).map (byte x)) 0

/-- The identification bytes (R194). -/
def identByte (x : Tile) (i : Nat) : Byte :=
  if x.active.idSource then (if i < 3 then BitVec.ofNat 8 (fieldOf x.active.ident (8 * i + 7) (8 * i)) else 0)
  else
    let id := x.eave.readId
    match i with
    | 0 => id.setWidth 8
    | 1 => (id >>> 8).setWidth 8
    | 2 => BitVec.ofNat 8 (Nat.log2 (mfViewSize x.force.manifest))
    | _ => 0

/-- Configuration byte i, modulo 8 (R195). -/
def configByte (f : TileFilter) (i : Nat) : Byte :=
  match i % 8 with
  | 0 => f.protocol.setWidth 8
  | 1 => f.octalDummy
  | 2 => BitVec.ofNat 8 (b01 f.addr4)
  | 3 => f.wrap
  | k => (f.spare >>> (8 * (k - 4))).setWidth 8

/-- READ_ID (R194). -/
def execReadId (t : TileId) (sel : Sel) (n : Nat) (s : State) : Out := inOneCycle s <| emuRead s t sel 0 n identByte

/-- READ_STATUS (R193). -/
def execReadStatus (t : TileId) (sel : Sel) (n : Nat) (s : State) : Out :=
  inOneCycle s <|
  emuRead s t sel 1 n fun x _ => emuStatus x.filter

/-- READ_FLAG (R193). -/
def execReadFlag (t : TileId) (sel : Sel) (n : Nat) (s : State) : Out := inOneCycle s <| emuRead s t sel 2 n fun x _ => emuFlag x.filter

/-- READ_CONFIG (R195). -/
def execReadConfig (t : TileId) (sel : Sel) (n : Nat) (s : State) : Out :=
  inOneCycle s <|
  emuRead s t sel 7 n fun x i => configByte x.filter (sel.addr + i)

/-- CLEAR_FLAG (R192). -/
def execClearFlag (t : TileId) (sel : Sel) (s : State) : Out :=
  inOneCycle s <|
  emulate s t sel 3 fun _ f => { f with eraseErr := false, progErr := false, protErr := false }

/-- WRITE_ENABLE (R192). -/
def execWriteEnable (t : TileId) (sel : Sel) (s : State) : Out := inOneCycle s <| emulate s t sel 4 fun _ f => { f with wel := true }

/-- WRITE_DISABLE (R192). -/
def execWriteDisable (t : TileId) (sel : Sel) (s : State) : Out := inOneCycle s <| emulate s t sel 5 fun _ f => { f with wel := false }

/-- WRITE_STATUS (R192). Without a data byte it is accepted and stores nothing, which R192 does not say (DESIGN CHOICE, log entry 85). -/
def execWriteStatus (t : TileId) (sel : Sel) (data : List Byte) (s : State) : Out :=
  inOneCycle s <|
  emulate s t sel 6 fun _ f =>
    match data with
    | [] => f
    | b :: _ => { f with statusHi := (b >>> 2).setWidth 6 }

/-- ENTER_4B (R192). -/
def execEnter4b (t : TileId) (sel : Sel) (s : State) : Out := inOneCycle s <| emulate s t sel 9 fun _ f => { f with addr4 := true }

/-- EXIT_4B (R192). -/
def execExit4b (t : TileId) (sel : Sel) (s : State) : Out := inOneCycle s <| emulate s t sel 10 fun _ f => { f with addr4 := false }

/-- RESET_ENABLE (R192). -/
def execResetEnable (t : TileId) (sel : Sel) (s : State) : Out :=
  inOneCycle s <|
  emulate s t sel 11 fun _ f => { f with resetArmed := true }

/-- RESET (R192): writes already accepted continue and keep WIP. -/
def execReset (t : TileId) (sel : Sel) (s : State) : Out :=
  inOneCycle s <|
  emulate s t sel 12 fun armed f =>
    if armed then { f with wel := false, protocol := 0, octalDummy := 0, addr4 := false, wrap := 0, spare := 0 } else f

/-- SUSPEND (R192): the write continues on flash. -/
def execSuspend (t : TileId) (sel : Sel) (s : State) : Out :=
  inOneCycle s <|
  emulate s t sel 13 fun _ f =>
    match pendingWrite f with
    | none => f
    | some w => { f with wip := false, eraseSus := f.eraseSus || w.erase, progSus := f.progSus || !w.erase }

/-- RESUME (R192). -/
def execResume (t : TileId) (sel : Sel) (s : State) : Out :=
  inOneCycle s <|
  emulate s t sel 14 fun _ f => { f with eraseSus := false, progSus := false, wip := (pendingWrite f).isSome }

/-- NOP (R192). -/
def execNop (t : TileId) (sel : Sel) (s : State) : Out := inOneCycle s <| emulate s t sel 15 fun _ f => f

/-- A value is in the range of a configuration byte (R195). -/
def configOk (i : Nat) (b : Byte) : Bool :=
  let v := b.toNat
  match i % 8 with
  | 0 => decide (v ≤ 3) | 1 => decide (v = 0 ∨ (4 ≤ v ∧ v ≤ 31)) | 2 => decide (v ≤ 1) | 3 => decide (v ≤ 4) | _ => true

/-- A configuration byte written. -/
def setConfig (f : TileFilter) (i : Nat) (b : Byte) : TileFilter :=
  match i % 8 with
  | 0 => { f with protocol := b.setWidth 2 }
  | 1 => { f with octalDummy := b }
  | 2 => { f with addr4 := decide (b = 1) }
  | 3 => { f with wrap := b }
  | k =>
    let sh := 8 * (k - 4)
    { f with spare := (f.spare &&& ~~~((0xFF#32) <<< sh)) ||| (b.setWidth 32 <<< sh) }

/-- WRITE_CONFIG (R195): a value out of range is discarded for its byte alone, with reason CONFIG. -/
def execWriteConfig (t : TileId) (sel : Sel) (data : List Byte) (s : State) : Out :=
  onSelect s t sel (emuKind 8) fun s e _ =>
    let items := data.mapIdx fun i b => (sel.addr + i, b)
    let s := items.foldl (fun s x => if configOk x.1 x.2 then s else denyEvent s t sel 0x09 0xFF 0xFFFFFFFF 0) s
    (s.modFilter t fun f =>
      (items.filter fun x => configOk x.1 x.2).foldl (fun f x => setConfig f x.1 x.2) { f with wel := f.wel && !optWel e })
      |>.respond [] 0

/-! ### Addresses -/

/-- The view address of a select: three or four bytes by its entry, the address mode and the protocol (R162, R188). -/
def selAddr (x : Tile) (e : Word) (sel : Sel) : Nat :=
  match optAddr e with
  | 0 => if octal x then sel.addr % 2 ^ 32 else 0
  | 1 => sel.addr % (if octal x || x.filter.addr4 then 2 ^ 32 else 2 ^ 24)
  | 2 => sel.addr % (if octal x then 2 ^ 32 else 2 ^ 24)
  | _ => sel.addr % 2 ^ 32

/-! ### Write rules (R198, R199, R201) -/

/-- The append point of a region (R198). -/
def appendPoint (x : Tile) (r : Region) : Nat :=
  x.mem.opens.foldl (fun p c => if r.src ≤ c.1 ∧ c.1 < r.src + r.len then max p (c.1 - r.src + 1) else p) 0

/-- Tokens of a RATE bucket, scaled by its period in ticks (R198): a minute for programs, an hour for erases. -/
def ratePeriod (erase : Bool) : Nat := if erase then 3600 * 32768 else 60 * 32768

def rateCap (r : Region) (erase : Bool) : Nat := if erase then r.param % 0x10000 else r.param / 0x10000

/-- A bucket as it stands now: full until its first use after a release. -/
def bucketNow (s : State) (t : TileId) (idx : Nat) (r : Region) (erase : Bool) : Nat :=
  let x := s.tile t
  let full := rateCap r erase * ratePeriod erase
  match (if erase then x.filter.eraseTokens else x.filter.progTokens).find? fun b => decide (b.1 = idx) with
  | none => full
  | some (_, tok, tick) => min full (tok + since s tick * rateCap r erase)

/-- A bucket holds the tokens of a write; no limit where its field is 0. -/
def rateOk (s : State) (t : TileId) (idx : Nat) (r : Region) (erase : Bool) (units : Nat) : Bool :=
  decide (rateCap r erase = 0 ∨ units * ratePeriod erase ≤ bucketNow s t idx r erase)

/-- The tokens of an accepted write are taken. -/
def takeTokens (s : State) (t : TileId) (idx : Nat) (r : Region) (erase : Bool) (units : Nat) : State :=
  if r.rule ≠ 3 ∨ rateCap r erase = 0 then s
  else
    let e := (idx, bucketNow s t idx r erase - units * ratePeriod erase, s.attic.tick)
    s.modFilter t fun f =>
      if erase then { f with eraseTokens := e :: f.eraseTokens.filter fun b => decide (b.1 ≠ idx) }
      else { f with progTokens := e :: f.progTokens.filter fun b => decide (b.1 ≠ idx) }

/-- A region's rule permits a write, or the reason for which it does not (R198): `off` from the region's base. -/
def ruleReason (s : State) (t : TileId) (idx : Nat) (r : Region) (erase : Bool) (off units : Nat) : Option Nat :=
  match r.rule with
  | 1 | 4 => none
  | 2 => if erase ∨ off < appendPoint (s.tile t) r then some 0x03 else none
  | 3 => if rateOk s t idx r erase units then none else some 0x04
  | _ => some 0x02

/-- A denied write (R199): WEL cleared, PROT_ERR set. -/
def denyWrite (s : State) (t : TileId) (sel : Sel) (reason region addr len : Nat) : State :=
  let s := s.modFilter t fun f => { f with wel := false, protErr := true }
  (denyEvent s t sel reason region addr len).respond [] 1

/-- A write was accepted (R199). -/
def acceptWrite (s : State) (t : TileId) : State := (s.modFilter t fun f => { f with wel := false }).respond [] 0

/-- Units of a STAGE region changed by a write (R207): one already begun or not yet part of a commit is marked; one that a
commit has still to begin is carried by its rewrite. -/
def markChanged (x : Tile) (off len : Nat) : Tile :=
  let units := (List.range ((off + len - 1) / 4096 + 1 - off / 4096)).map (off / 4096 + ·)
  let later := (x.filter.committing.drop 1).map (·.unit)
  { x with filter := { x.filter with
      changed := (units.filter fun u => !later.contains u).foldl insertNat x.filter.changed } }

/-- An accepted write to the OPEN copy goes on to flash by its regions' rules (R202, R207): the units of the ranges under the rule
STAGE are marked changed, and the other ranges are one entry of the write queue. -/
def forwardWrite (x : Tile) (size : Nat) (parts : List (Region × Nat × Nat)) : Tile :=
  let staged := parts.filter fun p => decide (p.1.rule = 4)
  let ruled := parts.filter fun p => decide (p.1.rule ≠ 4)
  let x := parts.foldl (fun x p => dropOpenSlots x p.2.1 p.2.2) x
  let x := staged.foldl (fun x p => markChanged x p.2.1 p.2.2) x
  if ruled = [] then x else queueWrite x size (ruled.map (·.2))

/-- A write that needs an entry of the tile's write queue finds all 64 taken (R202). -/
def queueFull (x : Tile) (rules : List Nat) : Bool := rules.any (· ≠ 4) && decide (64 ≤ x.filter.queue.length)

/-- A write that R199 accepts, but for which the write queue has no entry, is ignored as one that arrives while WIP is 1 (DESIGN CHOICE, log
entry 70). -/
def ignoreFull (s : State) (t : TileId) : State :=
  (s.modFilter t fun f => { f with busyIgn := satInc 0xFF f.busyIgn }).respond [] 1

/-! ### PROGRAM (R199, R200, R208) -/

/-- The bytes of a program that are used, as runs within its page: address and bytes (R200). -/
def programRuns (a : Nat) (data : List Byte) : List (Nat × List Byte) :=
  let page := a / 256 * 256
  let d := data.drop (data.length - 256)
  let o := (a + (data.length - d.length)) % 256
  [(page + o, d.take (256 - o)), (page, d.drop (256 - o))].filter fun r => decide (r.2 ≠ [])

/-- Bytes ANDed into the OPEN copy of a region. -/
def programOpen (x : Tile) (r : Region) (runs : List (Nat × List Byte)) : Tile :=
  { x with mem := { x.mem with
      opens := runs.foldl (fun m c => Memory.program 0xFF m (r.src + (c.1 - r.base)) c.2) x.mem.opens } }

/-- The decision on a PROGRAM (R199). -/
def programWrite (s : State) (t : TileId) (sel : Sel) (a : Nat) (data : List Byte) : State :=
  let x := s.tile t
  let m := x.force.manifest
  let len := data.length
  if s.gmode.mode = .lockdown then denyWrite s t sel 0x07 0xFF a len
  else match regionAt m a with
  | none => denyWrite s t sel 0x02 0xFF a len
  | some i =>
    let r := mfRegion m i
    let runs := programRuns a data
    if r.staging then
      let (s, ok) := runs.foldl (fun (acc : State × Bool) c =>
        if acc.2 then platformStage acc.1 t (r.src + (c.1 - r.base)) (.ok c.2) else acc) (s, true)
      if ok then acceptWrite s t else denyWrite s t sel 0x02 i a len
    else if !r.isOpen then denyWrite s t sel 0x02 i a len
    else match ruleReason s t i r false (a - r.base) 1 with
    | some c => denyWrite s t sel c i a len
    | none =>
      if r.rule ≠ 4 ∧ !mainUp x ∧ !twinUp x then denyWrite s t sel 0x06 i a len
      else if queueFull x [r.rule] then ignoreFull s t
      else
        let parts := runs.map fun c => (r, r.src + (c.1 - r.base), c.2.length)
        let s := takeTokens s t i r false 1
        acceptWrite (s.modTile t fun x => forwardWrite (programOpen x r runs) 0 parts) t

/-- PROGRAM (R199, R200, R211). -/
def execProgram (t : TileId) (sel : Sel) (data : List Byte) (s : State) : Out :=
  onSelect s t sel (fun e => decide (optAction e = 3)) fun s e _ =>
    if data = [] then discardSelect s t sel 0
    else if (s.tile t).filter.protocol = 3 ∧ data.length % 2 = 1 then discardSelect s t sel 3
    else programWrite s t sel (selAddr (s.tile t) e sel) data

/-! ### ERASE (R199 to R201, R208) -/

/-- The regions that cover a range of the view, with their indices and the parts they cover: none where some byte has no
region (R110, R199). -/
def coverRegions (m : List Byte) (a len : Nat) : Option (List (Nat × Region × Nat × Nat)) :=
  let parts := (List.range (mfRegionCount m)).filterMap fun i =>
    let r := mfRegion m i
    let lo := max a r.base
    let hi := min (a + len) (r.base + r.len)
    if lo < hi then some (i, r, lo, hi - lo) else none
  if (parts.map fun p => p.2.2.2).sum = len then some parts else none

/-- The first region of a list for which a reason is found. -/
def firstReason (f : Nat × Region × Nat × Nat → Option Nat) : List (Nat × Region × Nat × Nat) → Option (Nat × Nat)
  | [] => none
  | p :: ps => match f p with
    | some c => some (c, p.1)
    | none => firstReason f ps

/-- One region's part of an accepted erase: its tokens are taken and its bytes of the OPEN copy set to 0xFF. -/
def erasePart (s : State) (t : TileId) (p : Nat × Region × Nat × Nat) : State :=
  let r := p.2.1
  let s := takeTokens s t p.1 r true (p.2.2.2 / 4096)
  s.modTile t fun x => { x with mem := { x.mem with opens := Memory.erase x.mem.opens (r.src + (p.2.2.1 - r.base)) p.2.2.2 } }

/-- An accepted erase: its parts in order, then their way to flash as one write (R202). -/
def eraseParts (s : State) (t : TileId) (size : Nat) (ps : List (Nat × Region × Nat × Nat)) : State :=
  (ps.foldl (fun s p => erasePart s t p) s).modTile t fun x =>
    forwardWrite x size (ps.map fun p => (p.2.1, p.2.1.src + (p.2.2.1 - p.2.1.base), p.2.2.2))

/-- The decision on an ERASE (R199 to R201). -/
def eraseWrite (s : State) (t : TileId) (sel : Sel) (addr size : Nat) : State :=
  let x := s.tile t
  let m := x.force.manifest
  let a := addr / size * size
  if s.gmode.mode = .lockdown then denyWrite s t sel 0x07 0xFF addr size
  else match coverRegions m a size with
  | none => denyWrite s t sel 0x02 0xFF addr size
  | some ps =>
    match firstReason (fun p => if p.2.1.isOpen || p.2.1.staging then none else some 0x02) ps with
    | some (c, i) => denyWrite s t sel c i addr size
    | none =>
      if ps.all (fun p => p.2.1.staging) then
        let (s, ok) := ps.foldl (fun (acc : State × Bool) p =>
          if acc.2 then platformStage acc.1 t (p.2.1.src + (p.2.2.1 - p.2.1.base)) (.error p.2.2.2) else acc) (s, true)
        if ok then acceptWrite s t else denyWrite s t sel 0x02 ((ps.map (·.1)).headD 0xFF) addr size
      else if ps.any (fun p => p.2.1.staging) then denyWrite s t sel 0x02 ((ps.map (·.1)).headD 0xFF) addr size
      else match firstReason (fun p => ruleReason s t p.1 p.2.1 true (p.2.2.1 - p.2.1.base) (p.2.2.2 / 4096)) ps with
      | some (c, i) => denyWrite s t sel c i addr size
      | none =>
        match firstReason (fun p => if alignDenied x p.2.1 a size then some 0x05 else none) ps with
        | some (c, i) => denyWrite s t sel c i addr size
        | none =>
          if ps.any (fun p => decide (p.2.1.rule ≠ 4)) ∧ !mainUp x ∧ !twinUp x then
            denyWrite s t sel 0x06 ((ps.map (·.1)).headD 0xFF) addr size
          else if queueFull x (ps.map (·.2.1.rule)) then ignoreFull s t
          else acceptWrite (eraseParts s t size ps) t

/-- ERASE (R199). -/
def execErase (t : TileId) (sel : Sel) (s : State) : Out :=
  onSelect s t sel (fun e => decide (optAction e = 4)) fun s e _ =>
    eraseWrite s t sel (selAddr (s.tile t) e sel)
      (match optFunc e with | 0 => 0x1000 | 1 => 0x8000 | _ => 0x10000)

/-! ### The write queue (R202 to R206) -/

/-- The write at the front of the queue has ended. -/
def popWrite (s : State) (t : TileId) : State :=
  let s := s.modFilter t fun f =>
    match f.queue with
    | [] => f
    | _ :: rest => followWip { f with queue := rest, writesDone := f.writesDone + 1 }
  writesEnd s t

/-- The front write is put back changed. -/
def setFront (s : State) (t : TileId) (w : RuledWrite) : State :=
  s.modFilter t fun f => followWip { f with queue := w :: f.queue.drop 1 }

/-- A flash fails the front write for the third time (R204). -/
def writeLost (s : State) (t : TileId) (twin : Bool) (w : RuledWrite) : State :=
  let addr := flashOpen (mfLayout (s.tile t).force.manifest) + (w.parts.head?.map (·.1)).getD 0
  let s := markFailed s t twin 3 2 addr 3
  s.modFilter t fun f => { f with eraseErr := f.eraseErr || w.erase, progErr := f.progErr || !w.erase }

/-- Not the turn of a flash: a write goes to main first and then to the twin, each where it is up (R202). -/
def notTurn (x : Tile) (twin mainDone : Bool) : Bool :=
  if twin then !twinUp x || (mainUp x && !mainDone) else !mainUp x || mainDone

/-- A mirrored write to the flash staging area has been carried out on one flash, as an update write (R204, R229, R231): in FETCH and
RESTORE it waits (R74). -/
def mirrorDone (s : State) (t : TileId) (twin : Bool) (readBack : Option (List Byte)) : State :=
  let x := s.tile t
  let base := match tileLayout x with | some l => flashStaging l | none => 0
  let put := fun (s : State) (q : List RuledWrite) => s.modTile t fun x => { x with update := { x.update with mirror := q } }
  match x.update.mirror with
  | [] => s
  | w :: rest =>
    if notTurn x twin w.mainDone ∨ !writesRun s t ∨ !portFree s t twin .update then s
    else
    let s := readBackCounted (s.respond (w.drives (flashDisc x twin) base) base) t twin readBack w.bytes
    if readBack = some w.bytes then put s (if !twin && twinUp x then { w with mainDone := true, tries := 0 } :: rest else rest)
    else if w.tries < 2 then put s ({ w with tries := w.tries + 1 } :: rest)
    else
      let s := markFailed s t twin 3 3 (base + (w.parts.head?.map (·.1)).getD 0) 3
      if !twin && twinUp (s.tile t) then put s ({ w with tries := 0 } :: rest) else s

/-- The front write waits for a repair under way on a unit it touches (R181, R203). -/
def waitsForRepair (s : State) (t : TileId) (twin : Bool) : Bool :=
  repairAllowed s t && (s.tile t).sweep.repairs.any fun r => decide (r.twin = twin) && repairFirst (s.tile t) r

/-- Ruled writes reach a flash: the mode permits them (R39, R64), or the flash has one in progress, which completes. -/
def ruledRuns (s : State) (t : TileId) (twin : Bool) : Bool :=
  fetchAllowed s t || decide ((if twin then (s.tile t).eave.twinWork else (s.tile t).eave.mainWork) = some .ruled)

/-- A queued write has been programmed or erased on one flash, the bytes or erases driven to it (R201, R202), and its ranges read
back; none where its entries failed (R353). A read-back that differs is tried again, up to three attempts in all (R204). A write
that was in progress when the queue was discarded only completes (R205); with no ruled write queued it is a mirrored one, whose kind
of work comes after (R203, R231). -/
def execFlashWriteDone (t : TileId) (twin : Bool) (readBack : Option (List Byte)) (s : State) : Out :=
  inOneCycle s <|
  let x := s.tile t
  if x.filter.going.any fun g => decide (g.2 = twin) then .next (s.modFilter t fun f => { f with going := none })
  else match x.filter.queue with
  | [] => .next (mirrorDone s t twin readBack)
  | w :: _ =>
    if notTurn x twin w.mainDone ∨ waitsForRepair s t twin ∨ !ruledRuns s t twin then .next s
    else
    let base := flashOpen (mfLayout x.force.manifest)
    let s := readBackCounted (s.respond (w.drives (flashDisc x twin) base) base) t twin readBack w.bytes
    if readBack = some w.bytes then
      let s := s.modFilter t fun f => { f with wroteMain := f.wroteMain || !twin, wroteTwin := f.wroteTwin || twin }
      .next (if !twin && twinUp x then setFront s t { w with mainDone := true, tries := 0 } else popWrite s t)
    else if w.tries < 2 then .next (setFront s t { w with tries := w.tries + 1 })
    else
      let s := writeLost s t twin w
      .next (if !twin && twinUp (s.tile t) then setFront s t { w with tries := 0 } else s)

/-! ### STAGE-rule commits (R207) -/

/-- Units of a region's part of the OPEN area. -/
def regionUnits (r : Region) (u : Nat) : Bool := decide (r.src / 4096 ≤ u ∧ u < (r.src + r.len) / 4096)

/-- A commit of changed units (R207); with both flashes down the units stay changed, PROG_ERR is set and the denial has
reason FLASH. In a mode that permits no ruled writes to flash they stay changed (R39, R64). -/
def commitOpen (s : State) (t : TileId) (units : List Nat) : State :=
  let x := s.tile t
  if units = [] ∨ !fetchAllowed s t then s
  else if !mainUp x ∧ !twinUp x then
    denyEvent (s.modFilter t fun f => { f with progErr := true }) t { op := 0, op2 := 0, addr := 0, edges := 0, sckNs := 0 } 0x06 0xFF 0xFFFFFFFF 0
  else
    let s := s.modFilter t fun f =>
      { f with
        changed := f.changed.filter fun u => !units.contains u
        committing := f.committing ++ units.mapIdx fun i u =>
          { unit := u, bytes := [], mainDone := false, tries := 0, last := decide (i + 1 = units.length) } }
    if x.filter.committing = [] then s.modTile t Tile.beginUnit else s

/-- stage_quiet passes with no write to a STAGE region (R207). -/
def execStageQuietExpiry (t : TileId) (region : Fin 32) (s : State) : Out :=
  let x := s.tile t
  let m := x.force.manifest
  let r := mfRegion m region.val
  if x.active.stageQuiet = 0 ∨ mfRegionCount m ≤ region.val ∨ !r.isOpen ∨ r.rule ≠ 4 then .next s
  else .next (commitOpen s t (x.filter.changed.filter (regionUnits r)))

/-- The commit goes on after the unit at its front. -/
def popUnit (s : State) (t : TileId) (c : CommitUnit) : State :=
  let s := s.modFilter t fun f => { f with committing := f.committing.drop 1, commitsDone := f.commitsDone + b01 c.last }
  writesEnd (s.modTile t Tile.beginUnit) t

/-- The unit rewrite at the front of a commit ends on one flash (R181, R207): its bytes are driven and read back; none where its
entries failed (R353). A read-back that differs is tried again, up to three attempts in all; the third failure marks the flash down
(R204). -/
def execStageUnitRewriteDone (t : TileId) (twin : Bool) (readBack : Option (List Byte)) (s : State) : Out :=
  inOneCycle s <|
  let x := s.tile t
  match x.filter.committing with
  | [] => .next s
  | c :: rest =>
    if notTurn x twin c.mainDone ∨ !ruledRuns s t twin then .next s
    else
      let addr := (commitUnitAt x twin c.unit).1
      let s := readBackCounted (s.respond c.bytes addr) t twin readBack c.bytes
      let again := fun (s : State) (c : CommitUnit) =>
        (s.modFilter t fun f => { f with committing := c :: rest }).modTile t Tile.beginUnit
      if readBack = some c.bytes then
        let s := s.modFilter t fun f => { f with wroteMain := f.wroteMain || !twin, wroteTwin := f.wroteTwin || twin }
        if !twin && twinUp x then .next (again s { c with mainDone := true, tries := 0 }) else .next (popUnit s t c)
      else if c.tries < 2 then .next (again s { c with tries := c.tries + 1 })
      else
        let s := (markFailed s t twin 3 2 addr 3).modFilter t fun f => { f with progErr := true }
        if !twin && twinUp (s.tile t) then .next (again s { c with tries := 0 }) else .next s

end Sys2Proof.Machine
end

