-- ==== Sys2Proof/Machine/Modes.lean ====
section
/-! DEFINITION. The DEVICE_ commands (R427, R428), DOZE (R59, R60), clocks, sensors and the hours counter (R20, R490 to
R497). -/

namespace Sys2Proof.Machine

open Sys2Proof

/-! ### DEVICE_ commands -/

/-- DEVICE_STATUS (R427). -/
def execDeviceStatus (h : LdId) (s : State) : Out :=
  runCmd s h { row := 0x100 * 256, modes := servedModes ++ [.provision, .lockdown, .depot], len := fixedLen 0 }
    fun s _ _ =>
    .done s stOk (packBytes 0x30 [(0, 4, (gMode s).toNat), (4, 4, (gFeature s).toNat), (8, 4, (gOtpRegion s).toNat),
      (0x0C, 4, (gHostStat s).toNat), (0x10, 1, roleCode s h), (0x14, 4, s.attic.cycles), (0x18, 4, s.attic.hours),
      (0x20, 8, fwVersion s), (0x28, 2, Config.ridgeIssue.toNat)])

/-- The confirmation field of a DEVICE_ command (R427). -/
def confirmed (m : Mailbox) (word : String) : Bool := decide (m.bytes 0 4 = ascii word)

/-- DEVICE_RESET (R69, R427): the completion and its message come before the first step of the reset, which clears the mailbox. -/
def execDeviceReset (h : LdId) (s : State) : Out :=
  runCmd s h { row := 0x101 * 256, modes := servedModes ++ [.provision, .lockdown], len := fixedLen 4, role := ownerOnly }
    fun s m _ => if confirmed m "RSET" then .wait (deviceResetNow (complete s h stOk [])) else .done s stBadArg []

/-- DEVICE_DOZE (R59). -/
def execDeviceDoze (h : LdId) (s : State) : Out :=
  runCmd s h { row := 0x102 * 256, modes := [.serve, .doze], len := fixedLen 8, role := ownerOnly } fun s m _ =>
    let arm := m.arg 0 1
    let hold := m.arg 4 4
    if !m.zero 1 3 ∨ 1 < arm ∨ (hold ≠ 0 ∧ (hold < 10 ∨ 10000 < hold)) then .done s stBadArg []
    else
      .done { s with
        gmode := { s.gmode with dozeArmed := decide (arm = 1) }
        boot := { s.boot with dozeHold := if hold = 0 then 100 else hold } } stOk []

/-- DEVICE_WAKE (R60). -/
def execDeviceWake (h : LdId) (s : State) : Out :=
  runCmd s h { row := 0x103 * 256, modes := [.serve, .doze], len := fixedLen 0, role := ownerOnly } fun s _ _ =>
    .done (wakeNow s) stOk []

/-- The override set keeps within the limits of R334 (R428). -/
def overridesOk (s : State) (m : Mailbox) : Bool :=
  let sel := fun i => decide (m.arg 0 4 / 2 ^ i % 2 = 1)
  let feature := BitVec.ofNat 32 (m.arg 4 4)
  let old := shadowRow s 4
  decide (m.arg 0 4 < 64) && m.zero 0x15 3 && m.zero 0x39 7 && decide (m.arg 0x14 1 ≤ 1) &&
    (!sel 0 || decide (feature.toNat < 64 ∧ feature &&& old = old)) &&
    (!sel 1 || (List.range 16).all fun i => decide (m.arg 0xA 2 / 2 ^ i % 2 = 0) || !keyringSet s i) &&
    (!sel 2 || (List.range 16).all fun i => decide (m.arg 8 2 / 2 ^ i % 2 = 1) || !revoked s i) &&
    (!sel 3 || (List.range 33).all fun c => decide (svnCount s c ≤ m.arg (0x18 + c) 1 ∧ m.arg (0x18 + c) 1 ≤ 64))

/-- Shadow rows set to the words given. -/
def setShadow (s : State) (rows : List (Nat × Word)) : State :=
  { s with otp := { s.otp with shadow := rows.foldl (fun r x => Sparse.set 0 r x.1 x.2) s.otp.shadow } }

/-- The words of a byte string from a row on. -/
def rowsOf (first : Nat) (bs : List Byte) : List (Nat × Word) :=
  (List.range (bs.length / 4)).map fun i => (first + i, BitVec.ofNat 32 (leAt (4 * i) 4 bs))

/-- The overrides take effect on the shadows (R63, R334, R406, R428); each change of the REVOKE, SVN or OWNER shadow raises
EVD_FUSE_MOVE and extends register 7 (R242, R459). -/
def applyOverrides (s : State) (m : Mailbox) : State :=
  let sel := fun i => decide (m.arg 0 4 / 2 ^ i % 2 = 1)
  let s := { s with otp := { s.otp with overrides := true }, gmode := { s.gmode with trial := true } }
  let s := if sel 0 then setShadow s [(4, BitVec.ofNat 32 (m.arg 4 4))] else s
  let s := if sel 1 then
      setShadow s (((List.range 16).filter fun i => m.arg 0xA 2 / 2 ^ i % 2 = 1).flatMap fun i =>
        rowsOf (16 + 12 * i) (m.bytes (0x70 + 48 * i) 48))
    else s
  let s := if sel 2 then
      ((List.range 16).filter fun i => m.arg 8 2 / 2 ^ i % 2 = 1 && !revoked s i).foldl (fun s i =>
        fuseMove (setShadow s [(208 + i, BitVec.allOnes 32)]) 0 i 1 0) s
    else s
  let s := if sel 3 then
      ((List.range 33).filter fun c => svnCount s c < m.arg (0x18 + c) 1).foldl (fun s c =>
        let after := m.arg (0x18 + c) 1
        let n := 2 ^ after - 1
        fuseMove (setShadow s [(256 + 2 * c, BitVec.ofNat 32 n), (257 + 2 * c, BitVec.ofNat 32 (n / 2 ^ 32))]) 1 c after
          (svnCount s c)) s
    else s
  let s := if sel 4 then
      let d := if m.arg 0x14 1 = 1 then m.bytes 0x40 48 else List.replicate 48 0
      let owner : Option Digest := if m.arg 0x14 1 = 1 then some (ofBytes 384 d) else none
      let n := { setShadow s (rowsOf 224 d) with host := { s.host with ownerSource := 3, ownerDigest := owner } }
      if shadowBytes s 224 12 = d then n else fuseMove n 2 0 (m.arg 0x14 1) (b01 (fusedOwner s).isSome)
    else s
  let s := if sel 5 then
      let s := setShadow s [(240, BitVec.ofNat 32 (m.arg 0xC 4)), (241, BitVec.ofNat 32 (m.arg 0x10 4))]
      { s with otp := { s.otp with policyOverridden := true } }
    else s
  s

/-- DEVICE_TRIAL (R63, R242, R334, R428). -/
def execDeviceTrial (h : LdId) (s : State) : Out :=
  runCmd s h { row := 0x104 * 256, modes := [.serve, .provision], len := fixedLen 0x370, role := ownerOnly } fun s m _ =>
    if !overridesOk s m then .done s stBadArg []
    else
      let before := ownerLds s
      let byLoader := loaderRule s
      let s := extendReg (applyOverrides s m) 6 1 0 0 (Config.sha384 (m.bytes 0 0x370))
      let s := changeMode s .trial .trialCmd
      .done (ownerEvents before byLoader s) stOk []

/-- DEVICE_LOCKDOWN (R64). -/
def execDeviceLockdown (h : LdId) (s : State) : Out :=
  runCmd s h { row := 0x105 * 256, modes := servedModes, len := fixedLen 4, role := ownerOnly } fun s m _ =>
    if confirmed m "LOCK" then .done (lockdown s .lockCmd) stOk [] else .done s stBadArg []

/-- The lifecycle follows its shadow rows after a burn, with EVD_FUSE_MOVE where it changed (R320, R326). -/
def updateLifecycle (s : State) : State :=
  let before := s.otp.lifecycle
  match decodeLifecycle (shadowRow s 0) (shadowRow s 1) (shadowRow s 2) (shadowRow s 3) with
  | some l =>
    let s := { s with otp := { s.otp with lifecycle := l } }
    if l = before then s else fuseMove s 3 0 l.code before.code
  | none => s

/-- Every tile is powered down with cause DEPOT (R67, R102). -/
def depotTiles (s : State) : State :=
  (List.finRange 32).foldl (fun s t =>
    let s := cancelPower s t
    if powered (s.tile t) then enterOff s t .depot else s) s

/-- DEVICE_DEPOT (R67, R68): it completes once step 3 is done, and steps 4 and 5 follow (R427). -/
def execDeviceDepot (h : LdId) (burns : List Burn) (s : State) : Out :=
  runCmd s h { row := 0x106 * 256, modes := [.serve, .barren, .trial, .lockdown], len := fixedLen 4, role := ownerOnly }
    fun s m _ =>
    if !confirmed m "DPOT" then .done s stBadArg []
    else if otpBusy s h then .done s stBusy []
    else
      let s := depotTiles (otpRuns s)
      let s := (List.finRange 256).foldl dropSlot s
      let s := complete (updateLifecycle (depotLifecycle s burns)) h stOk []
      let s := changeMode (depotRoot s burns) .depot .depotCmd
      .wait { s with loft := { s.loft with run := .bootRom }, fw := { s.fw with running := none } }

/-- Length DEVICE_OWNER_CFG accepts: 0x50 plus the block length of its scheme (R427); where the scheme byte names none, the length
of some scheme (R419), and the format check then refuses it. -/
def ownerCfgLen (_ : State) (m : Mailbox) : Nat :=
  let n := m.length.toNat
  let scheme := m.arg 0x54 1
  let accepted := (if 1 ≤ scheme ∧ scheme ≤ 3 then [scheme] else [1, 2, 3]).map fun k => 0x50 + sigLen k
  if n ∈ accepted then 0 else if accepted.all fun l => decide (n < l) then stShort else stLong

/-- Status of a failed check of the owner configuration (R427). -/
def ownerCfgStatus (bad : Nat) : Nat :=
  match bad with | 1 => stBadArg | 3 => stRevoked | 4 => stRollback | _ => stDenied

/-- DEVICE_OWNER_CFG (R407, R427). -/
def execDeviceOwnerCfg (h : LdId) (sig : RafterRun) (readBackOk : Bool) (s : State) : Out :=
  runCmd s h { row := 0x107 * 256, modes := [.serve, .doze, .barren], len := ownerCfgLen, role := ownerOnly } fun s m _ =>
    let c := m.bytes 0 m.length.toNat
    let (s, bad) := checkOwnerCfg s c sig
    if bad ≠ 0 then .done s (ownerCfgStatus bad) []
    else if s.purlin.state ≠ 1 then .done (purlinFault s 4 s.purlinCode 0 0xF00000 0) stFault []
    else
      let erased := Memory.erase s.purlin.contents 0xF00000 (0x50 + 7428)
      if readBackOk then
        .done { s with purlin := { s.purlin with contents := Memory.write 0xFF erased 0xF00000 c } } stOk []
      else
        let s := { s with purlin := { s.purlin with contents := erased } }
        .done (purlinFault s 4 s.purlinCode 0 0xF00000 0) stFault []

/-! ### DOZE (R59, R60) -/

/-- No Thatch job of a tile is queued or running (R59): its walker stands, no sweep or resync runs, no block waits for its
refill. -/
def thatchQuiet (x : Tile) : Bool :=
  decide ((x.verify.phase = 0 ∨ 8 ≤ x.verify.phase.toNat) ∧ x.sweep.phase = 0 ∧ x.sweep.suspect = [])

/-- Ticks between the starts of two sweep passes (R176, R185). -/
def sweepTicks (x : Tile) : Nat := max 1 (fieldOf x.active.sweep 31 16) * 60 * 32768

/-- A sweep of a tile falls due within a number of ticks (R59, R176). -/
def sweepDueIn (s : State) (x : Tile) (ticks : Nat) : Bool :=
  decide (x.ctl.state = .run ∧ x.verify.phase = 8) && x.active.sweepOn &&
    decide (x.sweep.passTick + sweepTicks x ≤ s.attic.tick + ticks)

/-- The conditions of R59. -/
def dozeReady (s : State) : Bool :=
  decide (s.gmode.mode = .serve) && s.gmode.dozeArmed && s.tiles.toList.all fun x =>
    decide (x.ctl.state ≠ .fetch ∧ x.ctl.state ≠ .early ∧ x.ctl.state ≠ .restore) && !x.ctl.stage && thatchQuiet x &&
      !sweepDueIn s x (msTicks s.boot.dozeHold)

/-- The conditions of R59 have held for doze_hold: DOZE is entered, unless a wake trigger falls at the same moment (R61), which
the model takes to be the same Attic tick (log entry 64). -/
def execDozeHoldExpiry (s : State) : Out :=
  inOneCycle s <|
  if dozeReady s ∧ s.boot.wakeTick ≠ some s.attic.tick then .next (changeMode s .doze .dozeEnter) else .next s

/-- A wake trigger of R60. -/
def execDozeWake (s : State) : Out := inOneCycle s <| .next (wakeNow s)

/-! ### Clocks (R20, R490, R493) -/

/-- The RIDGE PLL loses lock (R20): requests are held at the boundary. -/
def execRidgePllLoss (s : State) : Out :=
  if s.ridge.powered then
    .next { s with
      boot := { s.boot with ridgeHeld := true }, attic := { s.attic with locked := s.attic.locked &&& 0x0F#5 } }
  else .next s

/-- The relock of the RIDGE PLL ends (R20, R297): held requests run, or LOCKDOWN with cause RIDGE_CLOCK. -/
def execRidgeRelockResult (locked : Bool) (s : State) : Out :=
  inOneCycle s <|
  if !s.boot.ridgeHeld then .next s
  else if locked then
    let s := releaseRidge { s with attic := { s.attic with locked := s.attic.locked ||| 0x10#5 } }
    .next (advance 16 (raise s 490 0xFF (payload [(0, 1, 3), (1, 1, 0xFF), (8, 4, 0xFFFFFFFF)])))
  else .next (lockdown s .ridgeClock)

/-- A PLL other than RIDGE loses lock (R493): its clock is held and the work of its domain waits. -/
def execPllLockLoss (pll : Fin 4) (s : State) : Out :=
  if s.attic.locked.getLsbD pll.val then
    .next { s with attic := { s.attic with
      locked := putBit s.attic.locked pll.val false, clocksHeld := putBit s.attic.clocksHeld pll.val true } }
  else .next s

/-- EVD_CLOCK (R497). -/
def clockEvent (s : State) (clock outcome us : Nat) : State :=
  raise s 500 0xFF (payload [(0, 1, clock), (1, 1, outcome), (8, 4, us)])

/-- The relock of a PLL ends (R493): the clock resumes, or the supply action is taken. -/
def execPllRelockResult (pll : Fin 4) (locked : Bool) (us : Nat) (s : State) : Out :=
  inOneCycle s <|
  if !running s || s.attic.locked.getLsbD pll.val then .next s
  else if locked then
    let s := { s with attic := { s.attic with
      locked := putBit s.attic.locked pll.val true, clocksHeld := putBit s.attic.clocksHeld pll.val false
      relocks := satInc 0xFF s.attic.relocks } }
    .next (advance 16 (clockEvent s (1 + pll.val) 1 us))
  else .next (supplyStop (clockEvent s (1 + pll.val) 2 us))

/-- The crystal stops or leaves its range (R490): the Attic domain moves to the RC until the next COLD. -/
def execCrystalLoss (s : State) : Out :=
  if s.attic.crystal then
    .next (clockEvent { s with attic := { s.attic with crystal := false, xtalLost := true } } 0 0 0)
  else .next s

/-! ### Sensors (R494 to R497) -/

/-- Warning and critical thresholds of a site in 0.1 °C (R494). -/
def tempLimits (site : Fin 8) : Int × Int := if site.val < 6 then (1000, 1150) else (950, 1050)

/-- EVD_TEMP_WARN or EVD_TEMP_CRIT (R497). -/
def tempEvent (s : State) (src : Nat) (site : Fin 8) (limit deci : Int) : State :=
  raise s src 0xFF (payload [(0, 1, site.val), (1, 1, (limit / 10).toNat), (2, 2, (BitVec.ofInt 16 deci).toNat),
    (4, 2, hottest s), (6, 1, s.gmode.mode.code)])

/-- One reading of a site after trim (R494, R495). -/
def execTempSample (site : Fin 8) (deci : Int) (s : State) : Out :=
  inOneCycle s <|
  if !running s then .next s
  else
    let x := s.attic.sites[site]
    let (w, c) := tempLimits site
    let warn := decide (w ≤ deci) || (x.warn && decide (w - 50 < deci))
    let crit := decide (c ≤ deci) || (x.crit && decide (c - 50 < deci))
    let s := { s with attic := { s.attic with
      sites := s.attic.sites.set site.val { x with deci := deci, warn := warn, crit := crit } site.isLt } }
    let s := if crit && !x.crit then lockdown s .sensor else s
    let s := if warn && !x.warn then tempEvent s 496 site w deci else s
    .next (if crit && !x.crit then tempEvent s 497 site c deci else s)

/-- Monitors whose low warning takes the supply action (R496). -/
def supplyMonitor (mon : Nat) : Bool := decide (mon < 2 ∨ (5 ≤ mon ∧ mon ≤ 10))

/-- EVD_VOLT_WARN or EVD_VOLT_CRIT (R497). -/
def voltEvent (s : State) (src mon dir mv nominal action : Nat) : State :=
  raise s src 0xFF (payload [(0, 1, mon), (1, 1, dir), (2, 2, mv), (4, 2, nominal), (6, 1, action)])

/-- Nominal voltage of a monitor in mV (R496); a VIO_SOFFIT bank's by its class. -/
def vmonNominal (s : State) (mon : Fin 12) : Nat :=
  match mon.val with
  | 0 => 750 | 1 => 850 | 2 => 800 | 3 => 850 | 4 => 1200 | 11 => 2500
  | m => if 6 ≤ m ∧ m ≤ 9 ∧ s.attic.bank3v3.getLsbD (m - 6) then 3300 else 1800

/-- Warning and critical thresholds of a monitor, in percent of nominal (R496). -/
def vmonLimits (mon : Fin 12) : Nat × Nat := if mon.val < 5 then (3, 8) else if mon.val < 11 then (5, 10) else (4, 8)

/-- A reading stands within some percent of nominal. -/
def vmonWithin (nominal pct mv : Nat) : Bool := decide (nominal * (100 - pct) ≤ 100 * mv ∧ 100 * mv ≤ nominal * (100 + pct))

/-- Where a monitor stands at a reading (R496): beyond a threshold, else in its warning until it is back within 2 %. -/
def vmonLevel (nominal warn crit mv : Nat) (old : VmonLevel) : VmonLevel :=
  if nominal * (100 + crit) < 100 * mv then .critical
  else if 100 * mv < nominal * (100 - warn) then .warnLow
  else if nominal * (100 + warn) < 100 * mv then .warnHigh
  else if vmonWithin nominal 2 mv then .ok
  else match old with | .critical => .warnHigh | o => o

/-- A monitor crosses a threshold (R496), with its reading after trim in mV. -/
def execVmonCrossing (mon : Fin 12) (mv : Nat) (s : State) : Out :=
  inOneCycle s <|
  if !running s then .next s
  else
    let old := s.attic.vmon[mon]
    let nominal := vmonNominal s mon
    let (warn, crit) := vmonLimits mon
    let level := vmonLevel nominal warn crit mv old
    let s := { s with attic := { s.attic with
      vmon := s.attic.vmon.set mon.val level mon.isLt
      vppIn := if mon.val = 11 then vmonWithin nominal warn mv else s.attic.vppIn } }
    if old = level ∨ (mon.val = 11 ∧ s.gmode.mode ≠ .provision) then .next s
    else
      match level with
      | .ok => .next s
      | .warnLow =>
        if supplyMonitor mon.val then .next (supplyStop (voltEvent s 498 mon.val 0 mv nominal 1))
        else .next (voltEvent s 498 mon.val 0 mv nominal 0)
      | .warnHigh => if old = .critical then .next s else .next (voltEvent s 498 mon.val 1 mv nominal 0)
      | .critical =>
        let s := lockdown s .sensor
        let s := if old = .warnHigh then s else voltEvent s 498 mon.val 1 mv nominal 0
        .next (voltEvent s 499 mon.val 1 mv nominal 2)

/-- 1/256 hour passes (R491); the failure count of the entropy source starts afresh each hour (R295). -/
def execHoursTick (s : State) : Out :=
  if !s.boot.vddAon then .next s
  else
    let hours := (s.attic.hours + 1) % 2 ^ 32
    .next { s with
      attic := { s.attic with hours := hours }
      eng := { s.eng with hourFailures := if hours % 256 = 0 then 0 else s.eng.hourFailures } }

end Sys2Proof.Machine
end

