-- ==== Sys2Proof/Machine/MemCtl.lean ====
section
/-! DEFINITION. The Underlay and the on-die SRAM: initialisation (R445), corrected lines and spares (R446, R447), uncorrectable
lines by contents (R448, R449), the patrol scrub (R451), channel faults (R452) and self-refresh (R453). -/

namespace Sys2Proof.Machine

open Sys2Proof

/-! ### Corrected lines (R446, R447) -/

/-- A hard error moves its line to a spare, while the table of 4,096 has room (R446); the SRAM has no spares (R441). -/
def spareLine (s : State) (f : LineFault) : State :=
  if f.sram ∨ !f.hard ∨ 4096 ≤ s.memctl.spares.length then s
  else
    let spares := f.line :: s.memctl.spares
    let s := { s with memctl := { s.memctl with spares := spares, sparesOut := decide (spares.length = 4096) } }
    let s := memEvent s 483 f 4 0
    if spares.length = 4096 then memEvent s 484 f 0 0 else s

/-- One correction: EVD_MEM_CORRECTED at most once per millisecond per channel or SRAM owner, with the corrections since the
last (R447). -/
def correctedLine (s : State) (f : LineFault) : State :=
  let key := (linePlace f) + 8 * b01 f.sram
  let held := match s.memctl.corrTick.find? fun e => decide (e.1 = key) with
    | some e => some e.2
    | none => none
  let count := match held with | some (_, n) => n + 1 | none => 1
  let due := match held with | some (k, _) => decide (msTicks 1 ≤ since s k) | none => true
  let entry := if due then (key, s.attic.tick, 0) else (key, (match held with | some (k, _) => k | none => 0), count)
  let s := { s with memctl := { s.memctl with
    corrected := satInc 0xFFFF s.memctl.corrected
    corrTick := entry :: s.memctl.corrTick.filter fun e => decide (e.1 ≠ key) } }
  let s := if due then memEvent s 480 f 0 count else s
  spareLine s f

/-! ### Uncorrectable lines (R448, R449) -/

/-- A line of the verified copy (code 0): in FETCH the block is read again, for which a walker at DONE goes back to STREAM (R449; DEDUCED,
log entry 86), else it is suspect until refilled. -/
def lostCopyLine (s : State) (t : TileId) (b : Nat) : State :=
  let x := s.tile t
  if blockCount x.verify.manifest ≤ b then s
  else if x.ctl.state = .fetch then
    s.modVer t fun v => progress { v with
      verified := v.verified.filter (· ≠ b), phase := if v.phase = 8 ∧ b ∈ v.verified then 6 else v.phase }
  else suspectBlock s t b

/-- The first of some contents whose digest is the one expected, each comparison settled by R278. -/
def goodOf (s : State) (t : TileId) (want : Digest) : List (List Byte) → List CmpRuns → State × Option (List Byte)
  | [], _ => (s, none)
  | c :: cs, runs =>
    let (s, ok) := settleCmp s t.val (Config.sha384 c) want (runs.headD noRuns)
    if ok then (s, some c) else goodOf s t want cs (runs.drop 1)

/-- A line of the tree area (code 1): the node is rebuilt from the copy's leaves, else read from a flash, main first, and checked
against its parent (R178); with none that matches the copy is lost. The answer says whether it was repaired. -/
def lostTreeLine (s : State) (t : TileId) (f : LineFault) : State × Bool :=
  let x := s.tile t
  let v := x.verify
  let g := f.unit
  let cand := candidateNode ((groupBlocks (blockCount v.manifest) g).map fun b => Config.sha384 (copyBlock x b))
  match (match parentEntry v.manifest v.nodes 1 g with
    | some p => goodOf s t p [cand, f.data, f.other] f.runs
    | none => (s, none)) with
  | (s, some nd) => (storeNode1 s t g nd, true)
  | (s, none) =>
    let s := s.modTile t fun x => { x with mem := { x.mem with tree := x.mem.tree.filter fun n => decide (n.1 ≠ g) } }
    (copyLost s t { level := 1, region := 0xFF, index := g }, false)

/-- A line of the manifest copy or of the node cache (code 10): the manifest, `unit` 0, is read again from a flash and checked
against the accepted digest, a node of that key against its parent; with neither flash matching the copy is lost. -/
def lostCacheLine (s : State) (t : TileId) (f : LineFault) : State × Bool :=
  let v := (s.tile t).verify
  if f.unit = 0 then
    match goodOf s t v.digest [f.data.take (mfLen f.data), f.other.take (mfLen f.other)] f.runs with
    | (s, some m) => (s.modVer t fun v => { v with manifest := m }, true)
    | (s, none) => (copyLost s t .none, false)
  else
    let place : FailAt := { level := f.unit / 65536, region := 0xFF, index := f.unit % 65536 }
    match (match parentEntry v.manifest v.nodes place.level place.index with
      | some p => goodOf s t p [f.data, f.other] f.runs
      | none => (s, none)) with
    | (s, some nd) => (s.modVer t fun v => { v with nodes := assocSet v.nodes f.unit nd }, true)
    | (s, none) => (copyLost s t place, false)

/-- A queued write as it will stand in an area. -/
def layWrite (area : List Host.Cell) (w : RuledWrite) : List Host.Cell :=
  (w.parts.foldl (fun (acc : List Host.Cell × List Byte) p =>
    (Memory.write 0xFF acc.1 p.1 (acc.2.take p.2), acc.2.drop p.2)) (area, w.bytes)).1

/-- A line of the OPEN copy (code 2): its unit is reloaded from main, or from the twin with main down, as it stands there once the
writes queued for it are done (R448, R449); with both flashes down it reads 0xFF. Lines prefetched from it are invalid (R170). -/
def lostOpenLine (s : State) (t : TileId) (u : Nat) (data : List Byte) : State × Bool :=
  let up := mainUp (s.tile t) || twinUp (s.tile t)
  (s.modTile t fun x =>
    let loaded := x.filter.queue.foldl layWrite (Memory.write 0xFF [] (4096 * u) (padTo 4096 0xFF (data.take 4096)))
    dropOpenSlots { x with mem := { x.mem with
        opens := if up then Memory.write 0xFF x.mem.opens (4096 * u) (Memory.read 0xFF loaded (4096 * u) 4096)
          else Memory.erase x.mem.opens (4096 * u) 4096 } } (4096 * u) 4096, up)

/-- A line of a tile's port buffers (code 11): a prefetched line of the Soffit port, which then takes the miss path, or with `hard` a
line of an Eave read, which is a read failure (R353): of the walker while it runs, else of the sweep. -/
def lostPortLine (s : State) (t : TileId) (f : LineFault) : State :=
  let x := s.tile t
  if !f.hard then s.modTile t fun x => x.dropLines fun a => decide (a / 64 = f.unit)
  else
    let s := s.modTile t fun x => { x with eave := { x.eave with readErrors := satInc 0xFF x.eave.readErrors } }
    if walking s t then walkerReadFailed s t (BitVec.ofNat 128 (2 ^ 32 * f.unit + 2 ^ 85 * b01 x.verify.readTwin)) 0
    else if sweeping x then markDown s t x.sweep.target 1 0 5 0xFFFFFFFF 0 1
    else s

/-- A line of a firmware slot is repaired from the slot's second copy (code 6, R442): `copy` is which of the two copies of slots 0 and 1
it is of, first the slots', then the second copies'. -/
def repairFirmware (s : State) (copy : Nat) : State :=
  { s with fw := match copy with
    | 0 => { s.fw with slot0 := s.fw.second0 }
    | 1 => { s.fw with slot1 := s.fw.second1 }
    | 2 => { s.fw with second0 := s.fw.slot0 }
    | _ => { s.fw with second1 := s.fw.slot1 } }

/-- A firmware slot both of whose copies fail (code 6) is discarded; MAINTAIN loses its slot 1, and a reload with no
slot left stops the Loft. -/
def lostFirmware (s : State) (slot : Nat) : State :=
  let s := { s with fw := if slot = 0 then s.fw.setSlot0 none else s.fw.setSlot1 none }
  if s.gmode.mode ≠ .maintain then s
  else if s.loft.run = .reload then
    if s.fw.slot0.isNone ∧ s.fw.slot1.isNone then
      changeMode { s with loft := { s.loft with run := .stopped } } .lockdown .loft
    else if slot ≠ 0 then { s with fw := { s.fw with image := none } } else s
  else if slot ≠ 0 then abortMaintain s
  else s

/-- An engine context (code 12): its next job completes with ST_FAULT and it is closed; spar contexts follow the 512 thatch
contexts. -/
def lostContext (s : State) (i : Nat) : State :=
  if h : i < 512 then
    { s with eng := { s.eng with thatch := s.eng.thatch.set i ((s.eng.thatch[i]).map fun c => { c with failed := true }) h } }
  else if h : i - 512 < 128 then
    { s with eng := { s.eng with
        spar := s.eng.spar.set (i - 512) ((s.eng.spar[i - 512]).map fun c => { c with failed := true }) h } }
  else s

/-- A mailbox payload (code 13): the command there completes with ST_FAULT. The DOE buffers follow the 16 mailboxes: a request there,
which has no status, is discarded (DESIGN CHOICE, log entry 73). -/
def lostPayload (s : State) (i : Nat) : State :=
  if h : i < 16 then (if (⟨i, h⟩ : LdId) ∈ s.responder then finish s ⟨i, h⟩ stFault [] else s)
  else if i < 32 then
    s.modLd (Fin.ofNat 16 i) fun l =>
      { l with doeBusy := false, spdm := { l.spdm with request := none, locked := false, inSession := none } }
  else s

/-- A line of the Gutter ring (code 14): its record is dropped (R469). -/
def lostRecord (s : State) (i : Nat) : State :=
  match ringAt s.gutter i with
  | none => s
  | some r =>
    dropRecord { s with gutter := { s.gutter with ring := s.gutter.ring.filter fun x => decide (x.seq ≠ r.seq) } } 2 r.body

/-- A ridge register whose second copy fails too (code 15). -/
def lostRegister (s : State) (i : Nat) : State :=
  if h : i < 320 then
    let r : Fin 320 := ⟨i, h⟩
    s.setReg r { s.reg r with value := BitVec.allOnes 384, saturated := true }
  else s

/-- The tile of a line fault. -/
def faultTile (f : LineFault) : Option TileId := if h : f.tile < 32 then some ⟨f.tile, h⟩ else none

/-- What becomes of the contents of a tile's line, and the action named in the event (R448, R455). -/
def lostTileLine (s : State) (t : TileId) (f : LineFault) : State × Nat :=
  match f.contents with
  | 0 => (lostCopyLine s t f.block, 2)
  | 1 => match lostTreeLine s t f with | (s, true) => (s, 1) | (s, false) => (s, 3)
  | 2 => match lostOpenLine s t f.block f.data with | (s, true) => (s, 2) | (s, false) => (s, 3)
  | 3 => ({ s with memctl := { s.memctl with poisoned := (t.val, f.unit) :: s.memctl.poisoned } }, 3)
  | 4 =>
    let u := (s.tile t).update
    if (s.tile t).owned ∧ 2 ≤ u.phase.toNat ∧ u.phase.toNat ≤ 6 then (endUpdate s t 4 0x17 .none (updateManifest (s.tile t)), 3)
    else (s, 3)
  | 5 =>
    (s.modTile t fun x =>
      { x with
        restore := { x.restore with golden := [], goldenU := false }
        mem := { x.mem with goldGranules := 0 } }, 5)
  | 9 =>
    if f.hard then (s.modTile t fun x => { x with active := .defaults, inactive := .defaults }, 3)
    else (s, 1)
  | 10 => match lostCacheLine s t f with | (s, true) => (s, 1) | (s, false) => (s, 3)
  | 11 => (lostPortLine s t f, 5)
  | _ => (s, 3)

/-- The same for contents that belong to no tile. -/
def lostLine (s : State) (f : LineFault) : State × Nat :=
  match f.contents with
  | 3 => ({ s with memctl := { s.memctl with poisoned := (32, f.unit) :: s.memctl.poisoned } }, 3)
  | 6 => if f.hard then (lostFirmware s (f.unit % 2), 5) else (repairFirmware s f.unit, 1)
  | 7 => if s.fw.slot0.isSome ∧ !f.hard then (s, 1) else (lockstepMismatch s, 3)
  | 8 => (lockstepMismatch s, 3)
  | 11 => (s, 5)
  | 12 => (lostContext s f.unit, 3)
  | 13 => (lostPayload s f.unit, 3)
  | 14 => (lostRecord s f.unit, 5)
  | 15 => if f.hard then (lostRegister s f.unit, 3) else (s, 1)
  | 16 => (badSlot s (Fin.ofNat 256 f.unit) 1, 3)
  | _ => (s, 3)

/-- An uncorrectable line (R448): its contents are repaired or lost, it is counted and its event raised. -/
def uncorrectableLine (s : State) (f : LineFault) : State :=
  let (s, action) := match faultTile f with
    | some t => if fusedOff s t then (s, 3) else lostTileLine s t f
    | none => lostLine s f
  lostEvent s f action

/-- The 64 bytes of a line in an area, at the line of it. -/
def putLine (c : List Host.Cell) (line : Nat) (data : List Byte) : List Host.Cell := Memory.write 0xFF c (64 * line) (data.take 64)

/-- A line taken for another codeword (R440): what the decoder delivers and writes back stands in its place, in the areas of the Underlay
(codes 0 to 5) and the manifest copy; of other contents nothing more is shown (DESIGN CHOICE, log entry 87). -/
def miscorrect (s : State) (f : LineFault) : State :=
  match faultTile f with
  | none => if f.contents = 3 then { s with memctl := { s.memctl with push := putLine s.memctl.push f.unit f.data } } else s
  | some t =>
    if fusedOff s t then s
    else s.modTile t fun x =>
      let node := fun (nd : List Byte) => Memory.read 0xFF (putLine (Memory.write 0xFF [] 0 nd) f.block f.data) 0 nd.length
      match f.contents with
      | 0 => { x with mem := { x.mem with copy := putLine x.mem.copy (64 * f.block + f.unit) f.data } }
      | 1 => match assocGet x.mem.tree f.unit with
        | some nd => { x with mem := { x.mem with tree := assocSet x.mem.tree f.unit (node nd) } }
        | none => x
      | 2 => { x with mem := { x.mem with opens := putLine x.mem.opens (64 * f.block + f.unit) f.data } }
      | 3 => { x with mem := { x.mem with staging := putLine x.mem.staging f.unit f.data } }
      | 4 => { x with update := { x.update with content := node x.update.content } }
      | 5 => { x with restore := { x.restore with golden := node x.restore.golden } }
      | 10 => if f.unit = 0 then { x with verify := { x.verify with manifest := node x.verify.manifest } } else x
      | _ => x

/-- The decoder reports a line as corrected. -/
def lineCorrected (f : LineFault) : Bool := f.mis || decide (1 ≤ f.symbols ∧ f.symbols ≤ 2)

/-- What the decoder reports of a line. -/
def lineFault (s : State) (f : LineFault) : State :=
  if lineCorrected f then correctedLine (if f.mis then miscorrect s f else s) f else uncorrectableLine s f

/-! ### Scrub, channels and initialisation -/

/-- The scrub has read a line of the SRAM, or of the Underlay, or ended a pass over the Underlay (R451), which waits for training and
pauses in self-refresh (R453). -/
def execPatrolScrub (passDone : Bool) (fault : Option LineFault) (s : State) : Out :=
  let sram := fault.any (·.sram)
  let found := fun s : State => match fault with | some f => lineFault s f | none => s
  inOneCycle s <|
  if !s.boot.vddAon ∨ s.boot.phase = .off then .next s
  else if !s.boot.underlayDone ∨ s.memctl.selfRefresh then .next (if sram then found s else s)
  else
    let s := if sram ∧ !passDone then s else { s with memctl := { s.memctl with scrubbing := !passDone } }
    let s := found s
    .next (if passDone then { s with memctl := { s.memctl with passes := s.memctl.passes + 1 } } else s)

/-- EVD_MEM_CHANNEL with its outcome (R452, R455): action 6 retrained, 7 channel down. -/
def channelEvent (s : State) (ch : Fin 8) (action : Nat) : State :=
  raise s 486 0xFF (memPayload false ch.val 0 action 0xFFFFFFFF 0 0 0 0xFFFFFFFF)

/-- A channel is trained again (R452). -/
def channelBack (s : State) (ch : Fin 8) : State :=
  channelEvent { s with memctl := { s.memctl with
    channelUp := putBit s.memctl.channelUp ch.val true, retrains := s.memctl.retrains.set ch.val 0 ch.isLt
    badLines := s.memctl.badLines.set ch.val [] ch.isLt } } ch 6

/-- A retrain in place ends (R452): the third failure in succession marks the channel down. -/
def execChannelRetrainDone (ch : Fin 8) (ok : Bool) (s : State) : Out :=
  if s.memctl.badLines[ch].length < 16 ∨ !s.memctl.channelUp.getLsbD ch.val then .next s
  else if ok then .next (channelBack s ch)
  else
    let n := s.memctl.retrains[ch] + 1
    let s := { s with memctl := { s.memctl with retrains := s.memctl.retrains.set ch.val n ch.isLt } }
    if n < 3 then .next s
    else
      .next (channelEvent { s with memctl := { s.memctl with channelUp := putBit s.memctl.channelUp ch.val false } } ch 7)

/-- A channel that is down is retried (R452). -/
def execChannelRetry (ch : Fin 8) (ok : Bool) (s : State) : Out :=
  if !s.boot.underlayDone ∨ s.memctl.channelUp.getLsbD ch.val ∨ !ok then .next s else .next (channelBack s ch)

/-- The whole Underlay is initialised (R445): EVD_MEM_INIT. -/
def execUnderlayInitDone (s : State) : Out :=
  if !s.boot.underlayDone ∨ s.memctl.initDone then .next s
  else
    .next (raise { s with memctl := { s.memctl with initDone := true } } 487 0xFF
      (memPayload false 0 0 0 0xFFFFFFFF 0 0 0 0xFFFFFFFF))

/-- No CXL.mem access has arrived for 1 ms (R453). -/
def memQuiet (s : State) : Bool := match s.memctl.memTick with | some k => decide (msTicks 1 ≤ since s k) | none => true

/-- The channels enter self-refresh in DOZE with no tile in EARLY or RUN and no CXL.mem access for 1 ms (R453); the scrub pauses. -/
def execSelfRefreshEntry (s : State) : Out :=
  if s.gmode.mode ≠ .doze ∨ !memQuiet s ∨ s.tiles.toList.any (fun x => x.ctl.state.released) then .next s
  else .next { s with memctl := { s.memctl with selfRefresh := true, scrubbing := false } }

end Sys2Proof.Machine
end

