-- ==== Sys2Proof/Machine/Serve.lean ====
section
/-! DEFINITION. Serving platform reads (R151, R161 to R174): the bytes of the soffit view, the emulated SFDP, prefetch slots,
early misses and underruns. -/

namespace Sys2Proof.Machine

open Sys2Proof

/-! ### The soffit view (R110, R111, R162) -/

/-- Image block and offset in it that a view address of a SEALED or WATCHED region stands for. -/
def imagePlace (r : Region) (a : Nat) : Nat × Nat := ((r.src + (a - r.base)) / 4096, (r.src + (a - r.base)) % 4096)

/-- One byte of a read (R162). -/
def serveByte (x : Tile) (a : Nat) : Byte :=
  let m := x.force.manifest
  match (if mfViewSize m ≤ a then none else regionAt m a) with
  | none => 0xFF
  | some i =>
    let r := mfRegion m i
    if r.isOpen then Sparse.get 0xFF x.mem.opens (r.src + (a - r.base))
    else if r.sealed || r.watched then
      let (b, o) := imagePlace r a
      if mfImageLen m ≤ 4096 * b + o then 0xFF
      else if b ∉ x.verify.verified ∨ b ∈ x.verify.held then mfHold m a
      else Sparse.get 0xFF x.mem.copy (4096 * b + o)
    else 0xFF

/-- The image block a view address is served from, where it is served from the copy. -/
def copyAt (x : Tile) (a : Nat) : Option Nat :=
  let m := x.force.manifest
  match (if mfViewSize m ≤ a then none else regionAt m a) with
  | none => none
  | some i =>
    let r := mfRegion m i
    if r.sealed || r.watched then
      let (b, o) := imagePlace r a
      if mfImageLen m ≤ 4096 * b + o then none else some b
    else none

/-- An unverified block at a view address (R151): kind 0 SEALED, 1 WATCHED_PENDING, 2 WATCHED_HELD; region; block. -/
def missAt (x : Tile) (a : Nat) : Option (Nat × Nat × Nat) :=
  match copyAt x a, regionAt x.force.manifest a with
  | some b, some i =>
    if b ∈ x.verify.held then some (2, i, b)
    else if b ∈ x.verify.verified then none
    else some (if (mfRegion x.force.manifest i).watched then 1 else 0, i, b)
  | _, _ => none

/-- The addresses of a read of n bytes (R163, R190): wrapping within the configured length where the entry says so. -/
def readAddrs (x : Tile) (e : Word) (a n : Nat) : List Nat :=
  let w := x.filter.wrap.toNat
  if optWrap e ∧ w ≠ 0 then
    let size := 4 * 2 ^ w
    (List.range n).map fun i => a / size * size + (a + i) % size
  else (List.range n).map (a + ·)

/-! ### Automatic resets (R99 to R102) -/

/-- An automatic reset may be taken: it is counted under every limit, and the last one allowed sets resets_capped (R101); not in
LOCKDOWN (R102). -/
def autoReset (s : State) (t : TileId) : State × Bool :=
  let x := s.tile t
  if s.gmode.mode = .lockdown ∨ x.ctl.resetsCapped then (s, false)
  else
    (s.modTile t fun x => ({ x with power := { x.power with autoResets := x.power.autoResets + 1 } } : Tile).capResets, true)

/-- EVT_EARLY_MISS (R151, R158). -/
def missEvent (s : State) (t : TileId) (kind region addr block : Nat) : State :=
  let v := (s.tile t).verify
  raiseT s t 3 (withDigest [(0, 1, kind), (1, 1, region), (4, 4, addr), (8, 4, block), (0x0C, 4, v.prefixLen)] v.digest)

/-- The first unverified block of a read decides the event, once per block or region of a release, and the action (R100,
R151). -/
def earlyMiss (s : State) (t : TileId) (addr kind region block : Nat) : State :=
  let x := s.tile t
  if kind = 0 ∧ x.ctl.state ≠ .early then s
  else
    let seen := if kind = 0 then decide (block ∈ x.serve.missed) else decide ((region, decide (kind = 2)) ∈ x.serve.missedW)
    let s := if seen then s else missEvent s t kind region addr block
    let s := s.modTile t fun x =>
      { x with serve :=
        if seen then x.serve
        else if kind = 0 then { x.serve with missed := block :: x.serve.missed }
        else { x.serve with missedW := (region, decide (kind = 2)) :: x.serve.missedW } }
    if kind ≠ 0 ∨ x.active.missLog then s
    else match autoReset s t with
      | (s, false) => s
      | (s, true) =>
        let s := s.modTile t fun x =>
          { x with
            ctl := { x.ctl with noEarly := true }
            power := { x.power with noEarlyDigest := x.verify.digest } }
        resumeFetch s t .earlyMiss

/-! ### Underruns (R172, R173) -/

/-- Interface mode code of R173. -/
def modeCode (x : Tile) (e : Word) : Nat :=
  match x.filter.protocol.toNat with | 0 => optIo e | p => 4 + p

/-- Dummy cycles served (R188, R189, R195). -/
def dummyOf (x : Tile) (e : Word) : Nat :=
  match x.filter.protocol.toNat with
  | 0 => optDummy e
  | 1 => optDummy e
  | p =>
    if optAction e = 1 ∧ optFunc e = 0 then
      (if x.filter.octalDummy = 0 then (if p = 2 then 16 else 24) else x.filter.octalDummy.toNat)
    else 8

/-- The words a port drives (R172): one not ready is the word driven before it, or 0xFFFF_FFFF. -/
def driveWords (last : List Byte) : List (List Byte × Bool) → List Byte
  | [] => []
  | (w, ready) :: ws =>
    let out := if ready then w else last.take w.length
    out ++ driveWords (if ready then w else last) ws

/-- A byte at a view address comes from the Underlay: of the OPEN copy, or of a verified block that is not held (R162, R166). -/
def underlayByte (x : Tile) (a : Nat) : Bool :=
  match copyAt x a with
  | some b => decide (b ∈ x.verify.verified ∧ b ∉ x.verify.held)
  | none => openHit x.force.manifest 0 (mfOpenSize x.force.manifest) a

/-- A prefetch slot holds the line of a view address; with prefetch_en 0 every read takes the miss path (R168, R171). -/
def buffered (x : Tile) (a : Nat) : Bool := x.active.prefetchEn && x.serve.slots.any fun sl => decide (a / 64 ∈ sl.lines)

/-- The place of a view address in its area: the image offset of a byte of the copy, the offset in the OPEN area of another. -/
def areaPlace (x : Tile) (a : Nat) : Option Nat :=
  (regionAt x.force.manifest a).map fun i => let r := mfRegion x.force.manifest i; r.src + (a - r.base)

/-- A byte lies at or behind the failed byte's line in the block of the copy, or the unit of the OPEN copy, that a line fault of the
tile names: it is not driven before the contents are back (R172, R448). -/
def lostByte (x : Tile) (t : TileId) (faults : List LineFault) (a : Nat) : Bool :=
  underlayByte x a && faults.any fun f =>
    !lineCorrected f && !f.sram && decide (f.tile = t.val) &&
      (match areaPlace x a with | some p => decide (p / 4096 = f.block ∧ f.unit ≤ p % 4096 / 64) | none => false) &&
      (match f.contents with | 0 => (copyAt x a).isSome | 2 => (copyAt x a).isNone | _ => false)

/-- The access for a view address waits: its channel is being retrained, or the FABRIC clock is held (R452, R493). -/
def accessWaits (s : State) (x : Tile) (a : Nat) : Bool :=
  s.attic.clocksHeld.getLsbD 0 || (areaPlace x a).any (channelWaits s)

/-- The lines of a read that it has to fetch from channels marked down, one fault each (R452): contents and line of each. -/
def downPlaces (s : State) (x : Tile) (addrs : List Nat) : List (Nat × Nat) :=
  if s.memctl.channelUp = BitVec.allOnes 8 then []
  else addrs.foldl (fun acc a =>
    match areaPlace x a with
    | none => acc
    | some p =>
      let k := (if (copyAt x a).isSome then 0 else 2, p / 64)
      if underlayByte x a && !buffered x a && channelDown s p && acc.getLast? ≠ some k && decide (k ∉ acc) then acc ++ [k] else acc) []

/-- Those lines as faults; `data` is what the flash holds of an OPEN unit to be reloaded. -/
def downFaults (s : State) (t : TileId) (addrs : List Nat) (data : List Byte) : List LineFault :=
  (downPlaces s (s.tile t) addrs).zipIdx.map fun (k, i) =>
    downLine (s.fresh i) t.val k.1 (64 * k.2) (if k.1 = 2 then data else [])

/-- Why a word is not ready (R172, R173): its line failed decode, it is late, or it holds a byte of a block under replacement
(R180). -/
def wordLate (s : State) (x : Tile) (t : TileId) (late : Option Late) (faults : List LineFault) (as : List Nat) : Option Nat :=
  let slow := (match late with
    | some l => decide (l.addr ≤ as.headD 0 ∧ as.headD 0 < l.addr + 4 * l.words)
    | none => false) || as.any (accessWaits s x)
  if as.any (lostByte x t faults) then some 1
  else if slow && as.any fun a => underlayByte x a && !buffered x a then some 0
  else if as.any fun a => match copyAt x a with | some b => decide (b ∈ x.sweep.suspect) | none => false then some 2
  else none

/-- The words of a read: address, bytes, and why they were not ready. -/
def readWords (s : State) (x : Tile) (t : TileId) (late : Option Late) (faults : List LineFault) (addrs : List Nat) :
    List (Nat × List Byte × Option Nat) :=
  (List.range ((addrs.length + 3) / 4)).map fun w =>
    let as := (addrs.drop (4 * w)).take 4
    (as.headD 0, as.map (serveByte x), wordLate s x t late faults as)

/-- EVT_UNDERRUN with the action the tile policy takes (R99, R101, R102, R172, R173). -/
def underrun (s : State) (t : TileId) (sel : Sel) (e : Word) (reason addr words : Nat) : State :=
  let x := s.tile t
  let (s, action) :=
    if x.active.underrunLog || !x.ctl.state.released then (s, 1)
    else match autoReset s t with
      | (s, true) => (s, 0)
      | (s, false) => (s, if s.gmode.mode ≠ .lockdown ∧ (s.tile t).ctl.resetsCapped then 2 else 1)
  let s := s.modTile t fun x => { x with serve := { x.serve with underruns := satInc 0xFFFF x.serve.underruns } }
  let s := raiseT s t 6 (payload [(0, 1, reason), (1, 1, modeCode x e), (2, 1, dummyOf x e), (3, 1, action), (4, 4, addr),
    (8, 4, min 0xFFFFFFFF words), (0x0C, 2, if 65534 < sel.sckNs then 0xFFFF else sel.sckNs), (0x10, 4, commandBytes x sel)])
  if action = 0 then resetTile s t .underrun else s

/-! ### Prefetch slots (R168 to R170) -/

/-- A byte that a slot fetches ahead: below view_size, of the OPEN copy or of a verified block of no held region (R169). -/
def fetchable (x : Tile) (a : Nat) : Bool := decide (a < mfViewSize x.force.manifest) && underlayByte x a

/-- The lines of a slot's window: whole lines within prefetch_depth bytes beyond the last byte served (R168, R169). -/
def windowLines (x : Tile) (pos : Nat) : List Nat := (List.range (x.active.prefetchDepth / 64)).map (pos / 64 + ·)

/-- Where a slot stopped for good, while a read that ends before `pos` has not reached it (R169). -/
def Slot.stillStopped (sl : Slot) (pos : Nat) : Option Nat := sl.stop.filter fun l => decide (pos ≤ 64 * l)

/-- A slot after bytes up to `pos` were served from it: it has fetched the lines of its window up to the first stop, one it met before or
one it meets now (R168, R169; DESIGN CHOICE, log entry 50). -/
def Slot.ahead (x : Tile) (held : Option Nat) (pos : Nat) : Slot :=
  let win := windowLines x pos
  let stop := (win.find? fun l => !fetchable x (max pos (64 * l)) || held.any (· ≤ l)).orElse fun _ => held
  { pos := pos, stop := stop, lines := win.filter fun l => stop.all (l < ·) }

/-- A sequential read takes the slot it continues, or the least recently used of four, which then fetches ahead of it; a read that wraps
neither takes nor continues a slot (DESIGN CHOICE, log entry 85). -/
def takeSlot (x : Tile) (e : Word) (a n : Nat) : Tile :=
  let wraps := optWrap e && decide (x.filter.wrap ≠ 0)
  let hit := x.serve.slots.find? fun sl => decide (sl.pos = a)
  if x.active.prefetchEn ∧ !wraps ∧ 0 < n ∧ (hit.isSome ∨ x.active.seqThreshold ≤ n) then
    let rest := match hit with | some sl => x.serve.slots.erase sl | none => x.serve.slots.take 3
    { x with serve := { x.serve with
      slots := Slot.ahead x (hit.bind fun sl => sl.stillStopped (a + n)) (a + n) :: rest } }
  else x

/-! ### Reads -/

/-- An entry with wel clears WEL when it is accepted (R189). -/
def takeWel (s : State) (t : TileId) (e : Word) : State := s.modFilter t fun f => { f with wel := f.wel && !optWel e }

/-- An array read (R162, R163). -/
def arrayRead (s : State) (t : TileId) (sel : Sel) (e : Word) (n : Nat) (late : Option Late) (faults : List LineFault) :
    State :=
  let x := s.tile t
  let a := selAddr x e sel
  let addrs := readAddrs x e a n
  let words := readWords s x t late faults addrs
  let lateWords := words.filterMap fun w => w.2.2.map fun r => (w.1, r)
  let data := driveWords [0xFF, 0xFF, 0xFF, 0xFF] (words.map fun w => (w.2.1, w.2.2.isNone))
  let outside := addrs.any fun p => decide (mfViewSize x.force.manifest ≤ p)
  let miss := addrs.findSome? fun p => (missAt x p).map fun k => (p, k)
  let s := s.modTile t fun x =>
    takeSlot { x with serve := { x.serve with outside := if outside then satInc 0xFFFF x.serve.outside else x.serve.outside } } e a n
  let s := match miss with | some (p, kind, region, b) => earlyMiss s t p kind region b | none => s
  let s := match lateWords with | [] => s | (p, r) :: _ => underrun s t sel e r p lateWords.length
  s.respond data 0

/-- READ_ARRAY (R162): `late` is what the port could not launch in time, `faults` the lines the decoder reports on; every line it has to
fetch from a channel marked down fails too (R452). What the decoder takes for another codeword is driven as it stands (R440). -/
def execReadArray (t : TileId) (sel : Sel) (n : Nat) (late : Option Late) (faults : List LineFault) (s : State) : Out :=
  onSelect s t sel (fun e => decide (optAction e = 1 ∧ optFunc e = 0)) fun s e _ =>
    let s := (faults.filter (·.mis)).foldl miscorrect s
    let down := downFaults s t (readAddrs (s.tile t) e (selAddr (s.tile t) e sel) n) ((faults.headD (sramLine 0 0 0 0)).data)
    let all := faults ++ down
    all.foldl (fun s f => if f.mis then correctedLine s f else lineFault s f)
      (arrayRead (takeWel (s.fresh down.length) t e) t sel e n late all)

/-- READ_SFDP (R167): the image built at the last release. -/
def execReadSfdp (t : TileId) (sel : Sel) (n : Nat) (s : State) : Out :=
  onSelect s t sel (fun e => decide (optAction e = 1 ∧ optFunc e = 1)) fun s e _ =>
    let x := s.tile t
    let a := selAddr x e sel
    (takeWel s t e).respond ((List.range n).map fun i => x.serve.sfdp.getD (a + i) 0xFF) 0

end Sys2Proof.Machine
end

