-- ==== Sys2Proof/Machine/Measure.lean ====
section
/-! DEFINITION. The measurement domain: EXTEND (R239 to R241), evidence blocks and quotes (R250 to R258, R435), and the
MEASURE_ commands (R434). -/

namespace Sys2Proof.Machine

open Sys2Proof

/-! ### Entries, log and blocks -/

/-- A ridge register entry (R250). -/
def ridgeEntry (x : RidgeReg) : List Byte :=
  bytesOf 48 x.value ++ bytesOf 8 x.counter ++ bytesOf 2 x.epoch ++
    [BitVec.ofNat 8 (b01 x.saturated + 2 * b01 x.overflow + 4 * b01 x.trial), x.lastBy] ++ bytesOf 4 x.gen

/-- A measurement log entry (R252). -/
def logBytes (e : LogEntry) : List Byte :=
  leBytes 2 e.reg ++ [e.kind, e.lastBy] ++ bytesOf 4 e.gen ++ bytesOf 8 e.counter ++ bytesOf 48 e.digest

/-- A register set (R253): `n` registers from `first`. -/
def registerSet (s : State) (first n : Nat) : List Byte :=
  let log := s.ridge.log.filter fun e => decide (first ≤ e.reg ∧ e.reg < first + n)
  ((List.range n).flatMap fun k => ridgeEntry (s.reg (Fin.ofNat 320 (first + k)))) ++ leBytes 4 log.length ++
    log.flatMap logBytes

/-- The header of a tile block (R257); all zero for a fused-off tile (R253). The partition byte names that of a complete copy that is held,
served or not (DESIGN CHOICE, log entry 85). -/
def tileHeader (s : State) (t : TileId) : List Byte :=
  let x := s.tile t
  let m := x.force.manifest
  let accepted := decide (m ≠ [])
  if fusedOff s t then List.replicate 128 0
  else
    packBytes 0x20 [(0, 1, x.ctl.state.code),
      (1, 1, b01 x.ctl.stage + 2 * b01 x.ctl.switchPending + 4 * b01 x.ctl.noEarly + 8 * b01 x.update.trial.isSome +
        16 * b01 x.verify.watchedHeld + 32 * b01 (decide (x.verify.phase = 8))),
      (2, 1, if accepted ∧ x.force.copyValid then b01 x.force.partition else 0xFF), (3, 1, x.force.lastKind.toNat), (4, 4, x.ctl.gen.toNat),
      (8, 4, mfSvn m), (0x0C, 1, svnCount s t.val), (0x0D, 1, if accepted then mfKeyIndex m else 0xFF),
      (0x0E, 1, mfScheme m), (0x0F, 1, x.force.source.toNat), (0x10, 8, mfVersion m), (0x18, 4, mfClass m),
      (0x1C, 4, mfViewSize m)] ++
    bytesOf 48 x.force.digest ++ bytesOf 48 (Config.sha384 x.active.image)

/-- Block 0 (R254). -/
def ridgeIdentity (s : State) : List Byte :=
  bytesOf 48 s.boot.romDigest ++ bytesOf 2 Config.ridgeIssue ++ [BitVec.ofNat 8 (3 + 4 * b01 s.boot.romMatch)] ++
    List.replicate 13 0

/-- Evidence block b with its DMTF type (R253). -/
def evidenceBlock (s : State) (b : Nat) : Nat × List Byte :=
  match b with
  | 0 => (0x80, ridgeIdentity s)
  | 1 => (0x00, bytesOf 48 Config.bootRomId)
  | 2 => (0x01, bytesOf 48 (fwDigest s))
  | 3 => (0x87, leBytes 8 (match s.fw.running with | some i => mfSvn i.manifest | none => 0))
  | 4 => (0x89, deviceStateRecord s)
  | 5 => (0x82, otpConfigRecord s)
  | 6 => (0x88, registerSet s 0 32)
  | 7 => (0x88, registerSet s 32 32)
  | b => (0x88, tileHeader s (Fin.ofNat 32 (b - 8)) ++ registerSet s (64 + 8 * (b - 8)) 8)

/-! ### EXTEND (R29, R239 to R241) -/

/-- An EXTEND request: its status is answered to the requester; one held at the boundary is answered nothing yet. -/
def execExtend (requester : Fin 5) (reg : Fin 320) (digest : Digest) (s : State) : Out :=
  match requestExtend s requester.val reg digest with
  | (s, some st) => .next (s.respond [] st)
  | (s, none) => .next s

/-! ### MEASURE_ commands (R434) -/

def measureModes : List DevMode := servedModes ++ [.provision, .lockdown]

/-- MEASURE_READ. -/
def execMeasureRead (h : LdId) (s : State) : Out :=
  runCmd s h { row := 0x500 * 256, modes := measureModes, len := fixedLen 4 } fun s m _ =>
    let first := m.arg 0 2
    let n := m.arg 2 2
    if n = 0 ∨ 128 < n ∨ 320 < first + n then .done s stBadArg []
    else .done s stOk ((List.range n).flatMap fun k => ridgeEntry (s.reg (Fin.ofNat 320 (first + k))))

/-- MEASURE_LOG. -/
def execMeasureLog (h : LdId) (s : State) : Out :=
  runCmd s h { row := 0x501 * 256, modes := measureModes, len := fixedLen 8 } fun s m _ =>
    let r := m.arg 0 2
    if 320 ≤ r ∨ !m.zero 2 2 then .done s stBadArg []
    else
      let log := s.ridge.log.filter fun e => decide (e.reg = r)
      let out := (log.drop (m.arg 4 4)).take 127
      .done s stOk (leBytes 4 log.length ++ leBytes 4 out.length ++ leBytes 8 0 ++ out.flatMap logBytes)

/-- MEASURE_EXTEND (R241, R434). -/
def execMeasureExtend (h : LdId) (s : State) : Out :=
  runCmd s h { row := 0x502 * 256, modes := servedModes ++ [.provision], len := fixedLen 0x34, role := ownerOnly
               range := fun _ m => decide (32 ≤ m.arg 0 2 ∧ m.arg 0 2 < 64), ridge := true } fun s m _ =>
    let r := Fin.ofNat 320 (m.arg 0 2)
    if !m.zero 2 2 then .done s stBadArg []
    else
      let st := if (s.reg r).saturated then stExhausted else stOk
      .done (extendReg s r 3 0 0 (ofBytes 384 (m.bytes 4 48))) st []

/-- The SPDM indices a quote's mask selects. -/
def quoteIndices (m : Mailbox) : List Nat := (List.range 41).filter fun i => m.arg 0x20 8 / 2 ^ i % 2 = 1

/-- The signed part of a quote (R435). -/
def quoteSigned (s : State) (nonce : List Byte) (blocks : List (Nat × Nat × List Byte)) : List Byte :=
  ascii "BQUO" ++ leBytes 2 1 ++ [BitVec.ofNat 8 blocks.length, if offersMldsa s then 0x03 else 0x01] ++
    leBytes 4 s.attic.cycles ++ leBytes 4 0 ++ nonce ++ deviceStateRecord s ++
    blocks.flatMap fun (i, ty, b) =>
      [BitVec.ofNat 8 i, BitVec.ofNat 8 ty] ++ leBytes 2 0 ++ leBytes 4 b.length ++ bytesOf 48 (Config.sha384 b)

/-- MEASURE_QUOTE (R258, R266, R434, R435): the blocks are one snapshot, kept for MEASURE_BLOCK; its hash is a Thatch request, which
wakes the device from DOZE first (R60, R288). -/
def execMeasureQuote (h : LdId) (run : RafterRun) (s : State) : Out :=
  runCmd s h { row := 0x503 * 256, modes := measureModes, len := fixedLen 0x28, ridge := true } fun s m _ =>
    let idx := quoteIndices m
    if s.gmode.barren then .done s stDenied []
    else if idx = [] ∨ m.arg 0x20 8 % 2 = 1 ∨ 2 ^ 41 ≤ m.arg 0x20 8 then .done s stBadArg []
    else if (s.slot 3).state ≠ .valid then .done s stFault []
    else
      let s := wakeNow s
      let blocks := idx.map fun i => (i, evidenceBlock s (i - 1))
      let msg := quoteSigned s (m.bytes 0 32) (blocks.map fun (i, b) => (i, b.1, b.2))
      let keep := fun s : State => s.modLd h fun l => { l with quote := some (blocks.map fun (i, b) => (i, b.2)) }
      useSlot s true 3 0 (fun _ => 0) fun s dik =>
        match signP384 s dik (Config.sha384 msg) m.tag.toNat run with
        | (s, .error st) => .done s st []
        | (s, .ok sig) =>
          if !offersMldsa s then .done (keep s) stOk (msg ++ sig)
          else
            useSlot s true 4 0 (fun _ => 0) fun s dml =>
              match signMldsa s dml (ascii "SHAKAN-QUO") msg m.tag.toNat run with
              | (s, .error st) => .done s st []
              | (s, .ok sig2) => .done (keep s) stOk (msg ++ sig ++ sig2)

/-- MEASURE_BLOCK (R434). -/
def execMeasureBlock (h : LdId) (s : State) : Out :=
  runCmd s h { row := 0x504 * 256, modes := measureModes, len := fixedLen 8 } fun s m _ =>
    if s.gmode.barren then .done s stDenied []
    else
      match (s.ld h).quote with
      | none => .done s stBadArg []
      | some q =>
        match assocGet q (m.arg 0 4) with
        | none => .done s stBadArg []
        | some b =>
          if b.length < m.arg 4 4 then .done s stBadArg []
          else .done s stOk (leBytes 4 b.length ++ leBytes 4 0 ++ slice (m.arg 4 4) 8184 b)

end Sys2Proof.Machine
end

