-- ==== Sys2Proof/Machine/Spdm.lean ====
section
/-! DEFINITION. The SPDM 1.3 responder (R259 to R266, R386, R400, R405): its connection, certificate slots, evidence, sessions
and secured messages. The codes and layouts of the messages are those of the DMTF documents the spec names (PRESUMED, log entry
8). -/

namespace Sys2Proof.Machine

open Sys2Proof

/-! ### Responders -/

def spdmOf (s : State) (via : SpdmVia) : Spdm :=
  match via with
  | .doe f => (s.ld f).spdm
  | .fm => s.host.fmSpdm
  | .sb t => (s.tile t).side.spdm

def modSpdm (s : State) (via : SpdmVia) (g : Spdm → Spdm) : State :=
  match via with
  | .doe f => s.modLd f fun l => { l with spdm := g l.spdm }
  | .fm => { s with host := { s.host with fmSpdm := g s.host.fmSpdm } }
  | .sb t => s.modTile t fun x => { x with side := { x.side with spdm := g x.side.spdm } }

def viaDoe (via : SpdmVia) : Bool := match via with | .doe _ | .fm => true | .sb _ => false

/-- DataTransferSize (R260). -/
def viaLimit (via : SpdmVia) : Nat := if viaDoe via then 4096 else 1024

/-- Bytes of the message that a response may have: in a session the secured message adds a header, its length and a tag (DSP0277). -/
def rspRoom (s : State) (via : SpdmVia) : Nat := viaLimit via - (if (spdmOf s via).inSession.isSome then 24 else 0)

/-- An ERROR response. -/
def spdmError (code : Nat) : List Byte := [0x13, 0x7F, BitVec.ofNat 8 code, 0]

/-- A response with its two parameters. -/
def spdmRsp (code p1 p2 : Nat) (body : List Byte) : List Byte :=
  [0x13, BitVec.ofNat 8 code, BitVec.ofNat 8 p1, BitVec.ofNat 8 p2] ++ body

/-- What a handled request comes to. -/
abbrev Handled := State × List Byte

/-- A failure of the DRBG or of a key in a request: Busy while the source is not ready, else Unspecified. -/
def engineError (s : State) (st : Nat) : Handled := (s, spdmError (if st = stBusy then 0x03 else 0x05))

/-- A request is handled only once the algorithms are negotiated. -/
def negotiatedOnly (s : State) (via : SpdmVia) (k : Handled) : Handled :=
  if (spdmOf s via).negotiated then k else (s, spdmError 0x04)

/-! ### Certificate slots and signatures (R261, R266, R310) -/

/-- The key slot of a certificate slot. -/
def certKey (slot : Nat) : Fin 256 := if slot = 0 then 3 else if slot = 1 then 5 else 7

/-- The chain of a certificate slot, empty for an empty slot. -/
def slotChain (s : State) (slot : Nat) : List Byte :=
  match slot with
  | 0 => if chainPresent s 0 then purlinChain s else []
  | 1 =>
    if chainPresent s 0 ∧ s.keys.aliasCert ≠ [] then
      let c := purlinChain s
      leBytes 2 (c.length + s.keys.aliasCert.length) ++ c.drop 2 ++ s.keys.aliasCert
    else []
  | 2 => s.keys.slot2Chain
  | _ => []

/-- Slots with a chain, as a mask. -/
def slotMask (s : State) : Nat := ((List.range 3).map fun i => if slotChain s i = [] then 0 else 2 ^ i).sum

/-- The combined signing text of SPDM 1.3 for a context (R310). -/
def signingText (ctx : String) (transcript : List Byte) : List Byte :=
  let c := ascii ctx
  let v := ascii "dmtf-spdm-v1.3.*"
  v ++ v ++ v ++ v ++ List.replicate (36 - c.length) 0 ++ c ++ bytesOf 48 (Config.sha384 transcript)

/-- A signature with the key of a certificate slot, its job run on the units as `run` says (R290, R291). -/
def spdmSign (s : State) (slot : Nat) (ctx : String) (transcript : List Byte) (run : RafterRun) : State × Except Nat (List Byte) :=
  match checkTag s (certKey slot) 0 with
  | (s, false) => (s, .error stFault)
  | (s, true) => signP384 s (s.slot (certKey slot)) (Config.sha384 (signingText ctx transcript)) 0 run

/-- The OpaqueData element of R265: the PCI-SIG registry, the vendor ID and the device state record. -/
def stateOpaque (s : State) : List Byte :=
  let e := [0x03, 0x02] ++ bytesOf 2 Config.vendorId ++ leBytes 2 32 ++ deviceStateRecord s ++ [0, 0]
  [1, 0, 0, 0] ++ e

/-! ### Evidence (R253, R262) -/

/-- The block of a measurement index, over DOE and over a tile's sideband. -/
def indexBlock (via : SpdmVia) (i : Nat) : Option Nat :=
  match via with
  | .doe _ | .fm => if 1 ≤ i ∧ i ≤ 40 then some (i - 1) else none
  | .sb t => if 1 ≤ i ∧ i ≤ 8 then some (i - 1) else if i = 9 then some (8 + t.val) else none

def indexCount (via : SpdmVia) : Nat := if viaDoe via then 40 else 9

/-- A DMTF measurement block. -/
def dmtfBlock (s : State) (i b : Nat) : List Byte :=
  let e := evidenceBlock s b
  [BitVec.ofNat 8 i, 0x01] ++ leBytes 2 (e.2.length + 3) ++ [BitVec.ofNat 8 e.1] ++ leBytes 2 e.2.length ++ e.2

/-- Every block that the transport shows, in index order. -/
def allBlocks (s : State) (via : SpdmVia) : List (List Byte) :=
  (List.range (indexCount via)).filterMap fun i => (indexBlock via (i + 1)).map (dmtfBlock s (i + 1))

/-- A measurement summary hash of a type: none asked, the trusted computing base, or all. -/
def summaryHash (s : State) (via : SpdmVia) (ty : Nat) : Option (List Byte) :=
  match ty with
  | 0 => some []
  | 1 => some (bytesOf 48 (Config.sha384 (Config.spdmTcbBlocks.flatMap fun b => dmtfBlock s (b + 1) b)))
  | 0xFF => some (bytesOf 48 (Config.sha384 (allBlocks s via).flatten))
  | _ => none

/-! ### Connection (R259, R260) -/

/-- GET_VERSION. -/
def spdmVersion (via : SpdmVia) (m : List Byte) (s : State) : Handled :=
  let rsp : List Byte := [0x10, 0x04, 0, 0, 0, 1, 0x00, 0x13]
  (modSpdm s via fun p =>
    { p with
      versioned := true, capable := false, negotiated := false, mutCap := false, chunkCap := false, vca := m ++ rsp
      msgB := [], msgL := [], chunkIn := [], chunkSeq := 0, chunkTotal := 0, large := [], largeSeq := 0 }, rsp)

/-- The capability flags advertised, the same in every mode (R260). -/
def spdmFlags : Nat := 0x1E73D6

/-- GET_CAPABILITIES. -/
def spdmCapabilities (via : SpdmVia) (m : List Byte) (s : State) : Handled :=
  let p := spdmOf s via
  if !p.versioned then (s, spdmError 0x04)
  else
    let f := leAt 8 4 m
    let rsp := spdmRsp 0x61 0 0 ([0, Config.spdmCtExponent, 0, 0] ++ leBytes 4 spdmFlags ++ leBytes 4 (viaLimit via) ++
      leBytes 4 0x60000)
    (modSpdm s via fun p =>
      { p with
        capable := true, mutCap := decide (f / 2 ^ 8 % 2 = 1), chunkCap := decide (f / 2 ^ 17 % 2 = 1)
        vca := p.vca ++ m ++ rsp }, rsp)

/-- Algorithm structures of a request: type and what it offers. -/
def algStructs : Nat → List Byte → List (Nat × Nat)
  | 0, _ => []
  | n + 1, b => (leAt 0 1 b, leAt 2 2 b) :: algStructs n (b.drop (4 + 4 * (leAt 1 1 b % 16)))

/-- The algorithm chosen of a structure's type (R260): secp384r1, AES-256-GCM, ECDSA P-384, the SPDM key schedule. -/
def algChoice (ty offered : Nat) : Nat :=
  let want := match ty with | 2 => 0x10 | 3 => 0x02 | 4 => 0x80 | 5 => 0x01 | _ => 0
  if want ≠ 0 ∧ offered / want % 2 = 1 then want else 0

/-- A value where a request offers it. -/
def chosen (offered want : Nat) : Nat := if offered / want % 2 = 1 then want else 0

/-- NEGOTIATE_ALGORITHMS: a request that offers none of the parameters of R260 gets ERROR NegotiationFail. -/
def spdmAlgorithms (via : SpdmVia) (m : List Byte) (s : State) : Handled :=
  let p := spdmOf s via
  if !p.capable then (s, spdmError 0x04)
  else
    let n := leAt 2 1 m
    let structs := algStructs n (m.drop (32 + 4 * (leAt 28 1 m + leAt 29 1 m)))
    let picks := structs.map fun a => (a.1, algChoice a.1 a.2)
    let spec := chosen (leAt 6 1 m) 1
    let other := chosen (leAt 7 1 m) 2
    let asym := chosen (leAt 8 4 m) 0x80
    let hash := chosen (leAt 12 4 m) 0x02
    if spec = 0 ∧ other = 0 ∧ asym = 0 ∧ hash = 0 ∧ picks.all (fun a => decide (a.2 = 0)) then
      (s, spdmError Config.spdmNegotiationFail.toNat)
    else
      let rsp := spdmRsp 0x63 picks.length 0 (leBytes 2 (36 + 4 * picks.length) ++
        [BitVec.ofNat 8 spec, BitVec.ofNat 8 other] ++ leBytes 4 (if spec = 0 then 0 else 4) ++ leBytes 4 asym ++
        leBytes 4 hash ++ List.replicate 16 0 ++ picks.flatMap fun a => [BitVec.ofNat 8 a.1, 0x20] ++ leBytes 2 a.2)
      (modSpdm s via fun p => { p with negotiated := true, vca := p.vca ++ m ++ rsp, msgB := [], msgL := [] }, rsp)

/-! ### Certificates, challenge, evidence -/

/-- GET_DIGESTS of slots 0 to 2 (R261). -/
def spdmDigests (via : SpdmVia) (m : List Byte) (s : State) : Handled :=
  negotiatedOnly s via <|
    let chains := ((List.range 3).map (slotChain s)).filter (· ≠ [])
    let rsp := spdmRsp 0x01 0x07 (slotMask s) (chains.flatMap fun c => bytesOf 48 (Config.sha384 c))
    (modSpdm s via fun p => { p with msgB := p.msgB ++ m ++ rsp }, rsp)

/-- GET_CERTIFICATE (R261). -/
def spdmCertificate (via : SpdmVia) (m : List Byte) (s : State) : Handled :=
  negotiatedOnly s via <|
    let slot := leAt 2 1 m % 16
    let c := slotChain s slot
    let off := leAt 4 2 m
    if c = [] ∨ c.length ≤ off then (s, spdmError 0x01)
    else
      let part := (c.drop off).take (min (leAt 6 2 m) (rspRoom s via - 8))
      let rsp := spdmRsp 0x02 slot 0 (leBytes 2 part.length ++ leBytes 2 (c.length - off - part.length) ++ part)
      (modSpdm s via fun p => { p with msgB := p.msgB ++ m ++ rsp }, rsp)

/-- A 32-byte nonce of the responder, from the DRBG that feeds the units outside the Ridge domain (R16, R294). -/
def withNonce (s : State) (k : State → List Byte → Handled) : Handled :=
  match drbg s 1 32 with
  | (s, .error st) => engineError s st
  | (s, .ok n) => k s n

/-- CHALLENGE (R261, R265). The Ridge domain hashes what it signs on the Thatch, which wakes the device from DOZE first (R60, R288). -/
def spdmChallenge (run : RafterRun) (via : SpdmVia) (m : List Byte) (s : State) : Handled :=
  negotiatedOnly s via <|
    let p := spdmOf s via
    let slot := leAt 2 1 m
    let c := slotChain s slot
    if p.inSession.isSome then (s, spdmError 0x04)
    else if c = [] ∨ m.length < 44 then (s, spdmError 0x01)
    else if (summaryHash s via (leAt 3 1 m)).isNone then (s, spdmError 0x01)
    else
      withNonce (wakeNow s) fun s nonce =>
        let summary := (summaryHash s via (leAt 3 1 m)).getD []
        let op := stateOpaque s
        let head := spdmRsp 0x03 slot (slotMask s) (bytesOf 48 (Config.sha384 c) ++ nonce ++ summary ++
          leBytes 2 op.length ++ op ++ slice 36 8 m)
        match spdmSign s slot "responder-challenge_auth signing" (p.vca ++ p.msgB ++ m ++ head) run with
        | (s, .error st) => engineError s st
        | (s, .ok sig) => (modSpdm s via fun p => { p with msgB := [] }, head ++ sig)

/-- GET_MEASUREMENTS, signed or unsigned (R253, R262, R265): indices 0, 1 to 40 (1 to 9 over the sideband) and 0xFF. -/
def spdmMeasurements (run : RafterRun) (via : SpdmVia) (m : List Byte) (s : State) : Handled :=
  negotiatedOnly s via <|
    let p := spdmOf s via
    let signed := decide (leAt 2 1 m % 2 = 1)
    let op := leAt 3 1 m
    let slot := leAt 36 1 m % 16
    if op ≠ 0 ∧ op ≠ 0xFF ∧ (indexBlock via op).isNone then (s, spdmError 0x01)
    else if signed ∧ (slotChain s slot = [] ∨ m.length < 45) then (s, spdmError 0x01)
    else
        withNonce (if signed then wakeNow s else s) fun s nonce =>
          let bs := if op = 0 then [] else if op = 0xFF then allBlocks s via
            else (indexBlock via op).toList.map fun b => dmtfBlock s op b
          let record := bs.flatten
          let op' := if signed then stateOpaque s else []
          let context := if signed then slice 37 8 m else slice 4 8 m
          let head := spdmRsp 0x60 (if op = 0 then indexCount via else 0) (if signed then slot else 0)
            ([BitVec.ofNat 8 bs.length] ++ leBytes 3 record.length ++ record ++ nonce ++ leBytes 2 op'.length ++ op' ++
              padTo 8 0 context)
          let log := p.msgL ++ m ++ head
          if !signed then (modSpdm s via fun p => { p with msgL := log }, head)
          else match spdmSign s slot "responder-measurements signing" (p.vca ++ log) run with
            | (s, .error st) => engineError s st
            | (s, .ok sig) => (modSpdm s via fun p => { p with msgL := [] }, head ++ sig)

/-! ### Sessions (R263, R264) -/

def sessionBy (s : State) (via : SpdmVia) (id : Nat) : Option Session := (spdmOf s via).sessions.find? (·.id = id)

def modSession (s : State) (via : SpdmVia) (id : Nat) (g : Session → Session) : State :=
  modSpdm s via fun p => { p with sessions := p.sessions.map fun x => if x.id = id then g x else x }

/-- A session ends, and the slots of its keys are destroyed (R263, R306). -/
def dropSession (s : State) (via : SpdmVia) (id : Nat) : State :=
  modSpdm (dropSessionSlots s ((spdmOf s via).sessions.filter fun x => decide (x.id = id))) via fun p =>
    { p with sessions := p.sessions.filter fun x => decide (x.id ≠ id) }

/-- A change of sessions with the owner-role events it brings (R408, R459). -/
def withOwners (s : State) (f : State → State) : State := ownerEvents (ownerLds s) false (f s)

/-- A session key as the Loft writes it into a slot of its range (R301, R305, R312): an imported AES-256 key with its IV base, for
decryption of the requester's messages or encryption of the responder's. -/
def sessionSlot (decrypt : Bool) (bytes : List Byte) : KeySlot :=
  { KeySlot.reset with
    ty := 1, origin := 2, fresh := true, usage := (1#10 <<< uSession) ||| (1#10 <<< b01 decrypt)
    keyBytes := 32, owner := 2, material := ofBytes 512 bytes }

/-- The key and IV base of a direction, by the label of its secret in the key schedule. -/
def sessionKey (label : Nat) (secret th : List Byte) : List Byte := (List.range 44).map (Config.spdmKey label secret th)

/-- Both keys of a session written, over the ones its slots held (R263, R306): ST_FAULT where no salt can be drawn (R302). -/
def putSessionKeys (s : State) (req rsp : LoftSlot) (reqKey rspKey : Option (List Byte)) : State × Nat :=
  let put := fun (s : State) (i : Fin 256) (decrypt : Bool) (k : Option (List Byte)) =>
    match k with
    | none => (s, stOk)
    | some b => putSlot (destroySlot s i) i (sessionSlot decrypt b)
  let (s, a) := put s (loftSlot req) true reqKey
  let (s, b) := put s (loftSlot rsp) false rspKey
  (s, if a = stOk then b else a)

/-- The two lowest EMPTY slots of the Loft's range (R305). -/
def freeLoftSlots (s : State) : Option (LoftSlot × LoftSlot) :=
  match (List.finRange 112).filter fun i => decide ((s.slot (loftSlot i)).state = .empty) with
  | a :: b :: _ => some (a, b)
  | _ => none

/-- A finished key: label 4 the requester's, 5 the responder's. -/
def finishedKey (label : Nat) (secret th : List Byte) : List Byte := (List.range 48).map (Config.spdmKey label secret th)

/-- The 4-byte OpaqueData length and content that select the secured-message version. -/
def versionOpaque : List Byte :=
  [1, 0, 0, 0] ++ [0x00, 0x00] ++ leBytes 2 4 ++ [1, 0] ++ bytesOf 2 Config.securedVersion

/-- KEY_EXCHANGE (R263, R264). -/
def spdmKeyExchange (run : RafterRun) (via : SpdmVia) (m : List Byte) (s : State) : Handled :=
  negotiatedOnly s via <|
    let p := spdmOf s via
    let slot := leAt 3 1 m
    let c := slotChain s slot
    let peer : List Byte := 0x04 :: slice 40 96 m
    if p.inSession.isSome then (s, spdmError 0x04)
    else if c = [] ∨ m.length < 138 ∨ !Config.p384ValidPoint peer then (s, spdmError 0x01)
    else if (if viaDoe via then 4 else 1) ≤ p.sessions.length then (s, spdmError 0x0A)
    else if (summaryHash s via (leAt 2 1 m)).isNone then (s, spdmError 0x01)
    else match freeLoftSlots s with
    | none => (s, spdmError 0x0A)
    | some (reqSlot, rspSlot) =>
      withNonce (wakeNow s) fun s random =>
        let summary := (summaryHash s via (leAt 2 1 m)).getD []
        match drbg s 1 56 with
        | (s, .error st) => engineError s st
        | (s, .ok out) =>
          let scalar := p384Scalar out
          let secret := (List.range 48).map (Config.p384Ecdh scalar peer)
          let pub := ((List.range 97).map (Config.p384Public scalar)).drop 1
          let rspId := Config.freeNat s.freeCtr % 65536
          let s := s.fresh 1
          let asks := viaDoe via && p.mutCap
          let head := spdmRsp 0x64 0 0 (leBytes 2 rspId ++ [if asks then 0x02 else 0x00, 0x00] ++ random ++ pub ++ summary ++
            leBytes 2 versionOpaque.length ++ versionOpaque)
          let th := p.vca ++ bytesOf 48 (Config.sha384 c) ++ m ++ head
          match spdmSign s slot "responder-key_exchange_rsp signing" th run with
          | (s, .error st) => engineError s st
          | (s, .ok sig) =>
            let th1 := th ++ sig
            let verify := bytesOf 48 (Config.hmacSha384 (finishedKey 5 secret th1) (bytesOf 48 (Config.sha384 th1)))
            let x : Session :=
              { id := leAt 4 2 m + 65536 * rspId, slot := slot, mutualAuth := asks, encap := if asks then 1 else 0
                peerChain := [], peer := 0, done := false, secret := secret, th := th1 ++ verify, reqSlot := reqSlot, rspSlot := rspSlot }
            match putSessionKeys s reqSlot rspSlot (some (sessionKey 1 secret th1)) (some (sessionKey 0 secret th1)) with
            | (s, st) =>
              if st ≠ stOk then engineError (dropSessionSlots s [x]) st
              else (modSpdm s via fun p => { p with sessions := p.sessions ++ [x], msgB := [] }, head ++ sig ++ verify)

/-- The session a request came in, for requests that need one. -/
def inSession (s : State) (via : SpdmVia) (k : Session → Handled) : Handled :=
  match (spdmOf s via).inSession.bind (sessionBy s via) with
  | none => (s, spdmError 0x0B)
  | some x => k x

/-- The note AUTH_FAIL (R264, R466). -/
def authFail (s : State) (via : SpdmVia) (peer : Digest) : State :=
  match via with
  | .doe f => note s 0x03 2 0xFF (withDigest [(0, 1, f.val)] peer)
  | .fm => note s 0x03 2 0xFF (withDigest [(0, 1, 0xFF)] peer)
  | .sb _ => s

/-- The handshake ends with ERROR DecryptError. -/
def failFinish (s : State) (via : SpdmVia) (x : Session) (auth : Bool) : Handled :=
  let s := dropSession s via x.id
  (if auth then authFail s via (Config.sha384 (Config.chainLeafKey x.peerChain)) else s, spdmError 0x06)

/-- FINISH (R264): the session becomes open, an owner session where its peer's key has the digest in force. -/
def spdmFinish (via : SpdmVia) (m : List Byte) (s : State) : Handled :=
  inSession s via fun x =>
    let signed := decide (leAt 2 1 m % 2 = 1)
    let sigLen := if signed then 96 else 0
    if x.done ∨ signed ≠ x.mutualAuth ∨ x.encap = 1 ∨ m.length < 52 + sigLen then (s, spdmError 0x01)
    else
      let leaf := Config.chainLeafKey x.peerChain
      let th := x.th ++ (if x.mutualAuth then bytesOf 48 (Config.sha384 x.peerChain) else []) ++ m.take 4
      let sigOk := !x.mutualAuth || Config.ecdsaVerify leaf
        (bytesOf 48 (Config.sha384 (signingText "requester-finish signing" th))) (slice 4 96 m)
      let th' := th ++ slice 4 sigLen m
      let mac := Config.hmacSha384 (finishedKey 4 x.secret x.th) (bytesOf 48 (Config.sha384 th'))
      if !sigOk then failFinish s via x true
      else if slice (4 + sigLen) 48 m ≠ bytesOf 48 mac then failFinish s via x false
      else
        let rsp := spdmRsp 0x65 0 0 []
        let th2 := th' ++ slice (4 + sigLen) 48 m ++ rsp
        match putSessionKeys s x.reqSlot x.rspSlot (some (sessionKey 3 x.secret th2)) (some (sessionKey 2 x.secret th2)) with
        | (s, st) =>
          if st ≠ stOk then engineError (dropSession s via x.id) st
          else
            (withOwners s fun s => modSession s via x.id fun x =>
              { x with done := true, peer := if x.mutualAuth then Config.sha384 leaf else 0, th := th2 }, rsp)

/-- END_SESSION (R263). -/
def spdmEndSession (via : SpdmVia) (_ : List Byte) (s : State) : Handled :=
  inSession s via fun x => (withOwners s fun s => dropSession s via x.id, spdmRsp 0x6C 0 0 [])

/-- HEARTBEAT (R259): the period advertised is 0. -/
def spdmHeartbeat (via : SpdmVia) (_ : List Byte) (s : State) : Handled :=
  inSession s via fun x => if x.done then (s, spdmRsp 0x68 0 0 []) else (s, spdmError 0x04)

/-- A direction's next key; rewritten, its messages count from zero again (R302). -/
def nextKey (k : KeySlot) : List Byte := (List.range 44).map (Config.spdmUpdatedKey (bytesOf 44 k.material))

/-- A use of a session's key (R29, R301, R303): its slot is VALID and holds its tag, and is an AES-256 slot with SESSION and the
direction's usage. -/
def sessionUse (s : State) (i : LoftSlot) (decrypt : Bool) : State × Bool :=
  let k := s.slot (loftSlot i)
  if k.state = .valid ∧ (k.ty ≠ 1 ∨ !k.may uSession ∨ !k.may (b01 decrypt)) then (s, false) else checkTag s (loftSlot i) 0

/-- KEY_UPDATE (R263): operation 1 the requester's key, 2 both keys, 3 verifies the new one; a key that may not be used has no next one,
and its session ends. -/
def spdmKeyUpdate (via : SpdmVia) (m : List Byte) (s : State) : Handled :=
  inSession s via fun x =>
    let op := leAt 2 1 m
    if !x.done then (s, spdmError 0x04)
    else if op < 1 ∨ 3 < op then (s, spdmError 0x01)
    else
      let (s, reqOk) := if op = 3 then (s, true) else sessionUse s x.reqSlot true
      let (s, rspOk) := if op = 2 then sessionUse s x.rspSlot false else (s, true)
      let req := nextKey (s.slot (loftSlot x.reqSlot))
      let rsp := nextKey (s.slot (loftSlot x.rspSlot))
      if !reqOk ∨ !rspOk then engineError (withOwners s fun s => dropSession s via x.id) stFault
      else match putSessionKeys s x.reqSlot x.rspSlot (if op = 3 then none else some req) (if op = 2 then some rsp else none) with
      | (s, st) =>
        if st ≠ stOk then engineError (withOwners s fun s => dropSession s via x.id) st
        else (s, spdmRsp 0x69 op (leAt 3 1 m) [])

/-- The encapsulated GET_CERTIFICATE of slot 0 from an offset. -/
def encapGet (off : Nat) : List Byte := spdmRsp 0x82 0 0 (leBytes 2 off ++ leBytes 2 0xFFFF)

/-- GET_ENCAPSULATED_REQUEST, for mutual authentication over DOE (R259, R264). -/
def spdmGetEncap (via : SpdmVia) (_ : List Byte) (s : State) : Handled :=
  if !viaDoe via then (s, spdmError 0x07)
  else inSession s via fun x =>
    if x.done ∨ x.encap ≠ 1 then (s, spdmError 0x45)
    else (s, spdmRsp 0x6A 1 0 (encapGet x.peerChain.length))

/-- DELIVER_ENCAPSULATED_RESPONSE (R259, R264): a portion of the requester's slot 0 chain. -/
def spdmDeliver (via : SpdmVia) (m : List Byte) (s : State) : Handled :=
  if !viaDoe via then (s, spdmError 0x07)
  else inSession s via fun x =>
    let e := m.drop 4
    if x.done ∨ x.encap ≠ 1 then (s, spdmError 0x04)
    else if leAt 1 1 e ≠ 0x02 ∨ leAt 2 1 e % 16 ≠ 0 ∨ e.length < 8 + leAt 4 2 e then (s, spdmError 0x01)
    else
      let chain := x.peerChain ++ slice 8 (leAt 4 2 e) e
      let last := decide (leAt 6 2 e = 0)
      let s := modSession s via x.id fun x => { x with peerChain := chain, encap := if last then 2 else 1 }
      let ack := [BitVec.ofNat 8 (leAt 2 1 m), 0, 0, 0]
      (s, if last then spdmRsp 0x6B (leAt 2 1 m) 2 (ack ++ [0]) else spdmRsp 0x6B (leAt 2 1 m) 1 (ack ++ encapGet chain.length))

/-! ### The owner's certificate (R259, R261, R266) -/

/-- A request that only an owner session may make; elsewhere it is not supported. -/
def ownerSession (s : State) (via : SpdmVia) (k : Handled) : Handled :=
  match via, (spdmOf s via).inSession.bind (sessionBy s via) with
  | .doe _, some x => if x.owner s.host.ownerDigest then k else (s, spdmError 0x07)
  | _, _ => (s, spdmError 0x07)

/-- GET_CSR over the key of slot 2. -/
def spdmCsr (run : RafterRun) (via : SpdmVia) (m : List Byte) (s : State) : Handled :=
  ownerSession s via <|
    if s.gmode.barren then (s, spdmError 0x01)
    else match checkTag (wakeNow s) 7 0 with
    | (s, false) => engineError s stFault
    | (s, true) =>
      let n := s.eng.calls1
      match drbg s 1 48 with
      | (s, .error st) => engineError s st
      | (s, .ok _) =>
        let s := jointJob s 0 1 0 0xFF run
        let csr := Config.csrBytes (bytesOf 48 (s.slot 7).material) m n
        (s, spdmRsp 0x6D 0 0 (leBytes 2 csr.length ++ [0, 0] ++ csr))

/-- SET_CERTIFICATE, slot 2 only. -/
def spdmSetCertificate (via : SpdmVia) (m : List Byte) (s : State) : Handled :=
  ownerSession s via <|
    if leAt 2 1 m % 16 ≠ 2 then (s, spdmError 0x01)
    else ({ s with keys := { s.keys with slot2Chain := m.drop 4 } }, spdmRsp 0x6E 2 0 [])

/-! ### Other requests: IDE key management (R405) -/

/-- The lowest EMPTY slot of a logical device's range. -/
def freeLdSlot (s : State) (h : LdId) : Option (Fin 8) :=
  (List.finRange 8).find? fun k => decide ((s.slot (slotOf h k)).state = .empty)

/-- The logical device whose slots hold the keys a function is sent (R305, R405): its own; those sent to the FM-owned one, which has no
slots, take the range of logical device 0 (DESIGN CHOICE, log entry 84). -/
def ideLd (via : SpdmVia) : LdId := match via with | .doe f => f | _ => 0

/-- The keys of a stream: CXL IDE for CXL.mem, the head's link stream of CXL.io, or in multi-logical-device operation the logical
device's selective stream. -/
def idePipe (s : State) (via : SpdmVia) (mem : Bool) : List IdeKey :=
  let f := ideLd via
  if mem then s.host.heads[headOf s f].memPipe
  else if s.host.mld ∧ via ≠ .fm then (s.ld f).pipe else s.host.heads[headOf s f].ioPipe

def setIdePipe (s : State) (via : SpdmVia) (mem : Bool) (p : List IdeKey) : State :=
  let f := ideLd via
  if mem then s.modHead (headOf s f) fun x => { x with memPipe := p }
  else if s.host.mld ∧ via ≠ .fm then s.modLd f fun l => { l with pipe := p }
  else s.modHead (headOf s f) fun x => { x with ioPipe := p }

/-- KEY_PROG: a key is imported into a slot of the logical device with usage IDE (R301, R312, R405). A key set programmed again has its
old slot destroyed first; a copy its pipe holds stays until the key epoch ends (R307). -/
def importIde (s : State) (via : SpdmVia) (mem : Bool) (sub : Byte) (key : List Byte) : State × Nat :=
  let f := ideLd via
  let old := (idePipe s via mem).find? fun k => decide (k.sub = sub)
  let s := match old with | some k => destroySlot s k.slot | none => s
  match freeLdSlot s f with
  | none => (s, 0x04)
  | some i =>
    let (s, st) := putSlot s (slotOf f i)
      { ownedSlot (.mailbox f) 1 32 (2 ^ uIde) false with origin := 2, fresh := true, material := ofBytes 512 key }
    let held : Option (BitVec 256) := old.bind IdeKey.key
    if st ≠ stOk then (s, 0x04)
    else
      (setIdePipe s via mem ((idePipe s via mem).filter (fun k => decide (k.sub ≠ sub)) ++ [{ sub := sub, slot := slotOf f i, key := held }]),
        0x00)

/-- K_SET_GO: the key set's key goes to its pipe over the key bus, its slot's tag checked (R30, R303); the key epoch of the other key set
of the direction and sub-stream ends. For CXL.mem it chooses the mode, skid or containment (R405). -/
def ideGo (s : State) (via : SpdmVia) (mem skid : Bool) (sub : Byte) : State :=
  match (idePipe s via mem).find? fun k => decide (k.sub = sub) with
  | none => s
  | some k =>
    match checkTag s k.slot 0 with
    | (s, false) => s
    | (s, true) =>
      if !(s.slot k.slot).may uIde then s
      else
        let s := setIdePipe s via mem ((idePipe s via mem).map fun e =>
          if e.sub = sub then { e with key := some ((s.slot k.slot).material.setWidth 256) }
          else if e.sub = sub ^^^ 1 then { e with key := none } else e)
        if mem then s.modHead (headOf s (ideLd via)) fun x => { x with skid := skid } else s

/-- K_SET_STOP: the key epoch ends, and the pipe clears its copy (R30). -/
def ideStop (s : State) (via : SpdmVia) (mem : Bool) (sub : Byte) : State :=
  setIdePipe s via mem ((idePipe s via mem).map fun e => if e.sub = sub then { e with key := none } else e)

/-- An IDE_KM or CXL_IDE_KM object: QUERY, KEY_PROG, K_SET_GO, K_SET_STOP. In CXL_IDE_KM bit 3 of the byte that names the key set is none of
its number: in K_SET_GO it is 1 for containment (PRESUMED, log entry 8). -/
def ideObject (s : State) (via : SpdmVia) (mem : Bool) (o : List Byte) : State × Option (List Byte) :=
  let tail := slice 3 4 o
  let which := o.getD 5 0
  let sub := if mem then which &&& 0xF7 else which
  match leAt 0 1 o with
  | 0 => (s, some ([1, 0] ++ (List.range 5).map Config.identifyByte))
  | 2 =>
    let (s, st) := importIde s via mem sub (slice 7 32 o)
    (s, some ([3, 0, 0, BitVec.ofNat 8 (leAt 3 1 o), BitVec.ofNat 8 st] ++ slice 5 2 o))
  | 4 => (ideGo s via mem (!bitOf which 3) sub, some ([6, 0, 0] ++ tail))
  | 5 => (ideStop s via mem sub, some ([6, 0, 0] ++ tail))
  | _ => (s, none)

/-- A function takes the keys of CXL.mem (R392, R405): where the device offers it, and in multi-logical-device operation through the
FM-owned logical device alone. -/
def memKeys (s : State) (via : SpdmVia) : Bool := offersMem s && (!s.host.mld || decide (via = .fm))

/-- Any other request: a vendor-defined one that carries IDE key management inside an open session on DOE (R405), else ERROR
UnsupportedRequest (R259). -/
def spdmOther (via : SpdmVia) (m : List Byte) (s : State) : Handled :=
  match viaDoe via, (spdmOf s via).inSession.bind (sessionBy s via) with
  | true, some x =>
    let vendor := leAt 7 2 m
    if leAt 1 1 m = 0xFE ∧ x.done ∧ leAt 4 2 m = 3 ∧ leAt 6 1 m = 2 ∧ (vendor = 0x0001 ∨ (vendor = 0x1E98 ∧ memKeys s via)) ∧
        leAt 11 1 m = 0 then
      match ideObject s via (decide (vendor = 0x1E98)) (m.drop 12) with
      | (s, some o) => (s, spdmRsp 0x7E 0 0 (slice 4 5 m ++ leBytes 2 (o.length + 1) ++ [0] ++ o))
      | (s, none) => (s, spdmError 0x01)
    else (s, spdmError 0x07)
  | _, _ => (s, spdmError 0x07)

/-! ### Dispatch and chunks (R259, R260) -/

/-- A job that no unit result disturbs: the requests that give the Rafter units no work. -/
def noJob : RafterRun := { eFirst := true, lFirst := true, wrong := [], katFail := [] }

/-- A whole request other than a chunk, by its code; a version other than 1.3 gets ERROR VersionMismatch. -/
def spdmCore (run : RafterRun) (via : SpdmVia) (m : List Byte) (s : State) : Handled :=
  let code := leAt 1 1 m
  if m.length < 4 then (s, spdmError 0x01)
  else if code = 0x84 then (if leAt 0 1 m = 0x10 then spdmVersion via m s else (s, spdmError 0x41))
  else if leAt 0 1 m ≠ 0x13 then (s, spdmError 0x41)
  else match code with
  | 0xE1 => spdmCapabilities via m s
  | 0xE3 => spdmAlgorithms via m s
  | 0x81 => spdmDigests via m s
  | 0x82 => spdmCertificate via m s
  | 0x83 => spdmChallenge run via m s
  | 0xE0 => spdmMeasurements run via m s
  | 0xE4 => spdmKeyExchange run via m s
  | 0xE5 => spdmFinish via m s
  | 0xEC => spdmEndSession via m s
  | 0xE8 => spdmHeartbeat via m s
  | 0xE9 => spdmKeyUpdate via m s
  | 0xEA => spdmGetEncap via m s
  | 0xEB => spdmDeliver via m s
  | 0xED => spdmCsr run via m s
  | 0xEE => spdmSetCertificate via m s
  | _ => spdmOther via m s

/-- A response within DataTransferSize, sealed where it is (R260, R386, R400), or ERROR LargeResponse and the response kept for
CHUNK_GET. -/
def fitResponse (via : SpdmVia) (r : Handled) : Handled :=
  let (s, rsp) := r
  if rsp.length ≤ rspRoom s via then (s, rsp)
  else if !(spdmOf s via).chunkCap then (s, spdmError 0x0D ++ leBytes 4 rsp.length)
  else
    let handle := Config.freeByte s.freeCtr
    (modSpdm (s.fresh 1) via fun p => { p with large := rsp, largeSeq := 0, handle := handle }, spdmError 0x0F ++ [handle])

/-- CHUNK_SEND: chunks in order; the last one completes a request, which is handled. -/
def spdmChunkSend (run : RafterRun) (via : SpdmVia) (m : List Byte) (s : State) : Handled :=
  let p := spdmOf s via
  let last := decide (leAt 2 1 m % 2 = 1)
  let seq := leAt 4 2 m
  let size := leAt 8 4 m
  let total := if seq = 0 then leAt 12 4 m else p.chunkTotal
  let data := slice (if seq = 0 then 16 else 12) size m
  let whole := (if seq = 0 then [] else p.chunkIn) ++ data
  let clear := fun s : State => modSpdm s via fun p => { p with chunkIn := [], chunkSeq := 0, chunkTotal := 0 }
  if leAt 0 1 m ≠ 0x13 then (s, spdmError 0x41)
  else if 0x60000 < total then (clear s, spdmError 0x0E)
  else if (seq ≠ 0 ∧ seq ≠ p.chunkSeq) ∨ data.length ≠ size ∨ total < whole.length ∨ (last ∧ whole.length ≠ total) then
    (clear s, spdmError 0x01)
  else if !last then
    (modSpdm s via fun p => { p with chunkIn := whole, chunkSeq := seq + 1, chunkTotal := total },
      spdmRsp 0x05 0 (leAt 3 1 m) (leBytes 2 seq))
  else
    let (s, rsp) := fitResponse via (spdmCore run via whole (clear s))
    (s, spdmRsp 0x05 0 (leAt 3 1 m) (leBytes 2 seq ++ rsp))

/-- CHUNK_GET: the next chunk of a large response. -/
def spdmChunkGet (via : SpdmVia) (m : List Byte) (s : State) : Handled :=
  let p := spdmOf s via
  if leAt 0 1 m ≠ 0x13 then (s, spdmError 0x41)
  else if p.large = [] ∨ leAt 4 2 m ≠ p.largeSeq ∨ leAt 3 1 m ≠ p.handle.toNat then (s, spdmError 0x01)
  else
    let room := rspRoom s via - (if p.largeSeq = 0 then 16 else 12)
    let part := p.large.take room
    let rest := p.large.drop room
    (modSpdm s via fun p => { p with large := rest, largeSeq := p.largeSeq + 1 },
      spdmRsp 0x06 (b01 (decide (rest = []))) p.handle.toNat (leBytes 2 p.largeSeq ++ [0, 0] ++ leBytes 4 part.length ++
        (if p.largeSeq = 0 then leBytes 4 p.large.length else []) ++ part))

/-! ### Secured messages (R259, R263, R282, R386) -/

/-- A secured message as DSP0277 lays it out, in the session's key: header, ciphertext, tag. -/
def sealWith (k : KeySlot) (id : Nat) (app : List Byte) : List Byte :=
  let text := leBytes 2 app.length ++ app
  let head := leBytes 4 id ++ leBytes 2 (text.length + 16)
  let iv := slotIv k true
  let key := bytesOf 32 k.material
  let cipher := text.mapIdx fun j b => b ^^^ Config.aesStream key (iv ++ [0, 0, 0, 2]) j
  head ++ cipher ++ bytesOf 16 (Config.gcmTag key iv head cipher)

/-- The message inside a secured message, where its tag matches. -/
def openWith (k : KeySlot) (m : List Byte) : Option (List Byte) :=
  let head := m.take 6
  let n := leAt 4 2 m - 16
  let cipher := slice 6 n m
  let iv := slotIv k true
  let key := bytesOf 32 k.material
  if slice (6 + n) 16 m ≠ bytesOf 16 (Config.gcmTag key iv head cipher) then none
  else
    let text := cipher.mapIdx fun j b => b ^^^ Config.aesStream key (iv ++ [0, 0, 0, 2]) j
    some (slice 2 (leAt 0 2 text) text)

/-- Messages that either direction's key has protected: the direction with the more, and their number. -/
def sessionCount (s : State) (x : Session) : Fin 256 × Nat :=
  let a := (s.slot (loftSlot x.reqSlot)).counter.toNat
  let b := (s.slot (loftSlot x.rspSlot)).counter.toNat
  if b ≤ a then (loftSlot x.reqSlot, a) else (loftSlot x.rspSlot, b)

/-- A direction's key has protected 2^48 messages: the session ends with EVD_SPAR_EXHAUSTED (R263, R283). -/
def exhaustSession (s : State) (via : SpdmVia) (x : Session) (n : Fin 256 × Nat) : State :=
  let s := withOwners s fun s => dropSession s via x.id
  raise s 489 0xFF (payload [(0, 1, n.1.val), (1, 1, 1), (2, 1, 0), (4, 8, n.2)])

/-- A key's slot failed its tag on use: no message of the session can be protected any more, and it ends (R263, R303). -/
def endBroken (s : State) (via : SpdmVia) (x : Session) : State := withOwners s fun s => dropSession s via x.id

/-- A secured message is opened in the requester's key, loaded over the key bus with its tag and usage checked (R29, R282, R303), as a
Spar job, which restarts a PLL that DOZE stopped (R492); the answer is a response where it is turned away. -/
def openRequest (s : State) (via : SpdmVia) (m : List Byte) : State × Option (List Byte) :=
  match sessionBy s via (leAt 0 4 m) with
  | none => (s, some (spdmError 0x06))
  | some x =>
    let n := sessionCount s x
    if 2 ^ 48 ≤ n.2 then (exhaustSession s via x n, some (spdmError 0x06))
    else match sessionUse (sparWake s) x.reqSlot true with
    | (s, false) => (endBroken s via x, some (spdmError 0x06))
    | (s, true) =>
      let k := s.slot (loftSlot x.reqSlot)
      match openWith k m with
      | none => (s, some (spdmError 0x06))
      | some app =>
        (modSpdm (s.setSlot (loftSlot x.reqSlot) { k with counter := k.counter + 1 }) via fun p =>
          { p with request := some app, locked := false, inSession := some x.id }, none)

/-- A secured message cannot be opened or sealed now: the Ridge port is held (R20), or the clock of the Spar cluster (R493). -/
def sparHeld (s : State) : Bool := s.boot.ridgeHeld || s.attic.clocksHeld.getLsbD 3

/-- A request arrives (R386, R400): it waits for its handling, a secured one once its tag has matched, or unopened while it cannot be
opened. The answer is a response where it is turned away. -/
def takeRequest (s : State) (via : SpdmVia) (m : List Byte) (secured : Bool) : State × Option (List Byte) :=
  if !secured ∨ sparHeld s then
    (modSpdm s via fun p => { p with request := some m, locked := secured, inSession := none }, none)
  else openRequest s via m

/-- A response goes out on its transport: the function's DOE output, or the answer the sideband waits for. -/
def deliver (s : State) (via : SpdmVia) (rsp : List Byte) (secured : Bool) : State :=
  let s := modSpdm s via fun p => { p with request := none, locked := false, inSession := none }
  match via with
  | .doe f => (s.modLd f fun l => { l with doeBusy := false }).respond rsp 0
  | .fm => { s with host := { s.host with fmBusy := false } }.respond rsp 0
  | .sb _ => modSpdm s via fun p => { p with response := some (rsp, secured) }

/-- A key's use is counted in its slot while the slot still holds it. -/
def countUse (s : State) (i : Fin 256) (k : KeySlot) : State :=
  let now := s.slot i
  if now.state = .valid ∧ now.material = k.material then s.setSlot i { now with counter := now.counter + 1 } else s

/-- A request is handled by `body` and its response goes out; in a session it is sealed in the key the session had when the request
came, its tag and usage checked first (R29, R303). A session one of whose keys has then protected 2^48 messages ends (R263). -/
def answerRequest (s : State) (via : SpdmVia) (body : State → Handled) : State :=
  match (spdmOf s via).inSession.bind (sessionBy s via) with
  | none =>
    let (s, rsp) := body s
    deliver s via rsp false
  | some x =>
    let came := (s.slot (loftSlot x.reqSlot)).counter.toNat
    match sessionUse (sparWake s) x.rspSlot false with
    | (s, false) => deliver (endBroken s via x) via (spdmError 0x05) false
    | (s, true) =>
      let k := s.slot (loftSlot x.rspSlot)
      let (s, rsp) := body s
      let s := deliver (countUse s (loftSlot x.rspSlot) k) via (sealWith k x.id rsp) true
      match sessionBy s via x.id with
      | none => s
      | some x =>
        let n := if 2 ^ 48 ≤ came then (loftSlot x.reqSlot, came) else sessionCount s x
        if 2 ^ 48 ≤ n.2 then exhaustSession s via x n else s

/-- Whether the Loft handles SPDM: Imvon runs and no takeover is in progress. -/
def spdmServed (s : State) : Bool := decide (s.loft.run = .imvon) && s.loft.takeover.isNone

/-- The code of a request is one of a row's: 0 stands for every code without a row of its own. -/
def rowCode (code : Nat) (m : List Byte) : Bool :=
  let known := [0x84, 0xE1, 0xE3, 0x81, 0x82, 0x83, 0xE0, 0xE4, 0xE5, 0xEC, 0xE8, 0xE9, 0x85, 0x86, 0xEA, 0xEB, 0xED, 0xEE]
  if code = 0 then !known.contains (leAt 1 1 m) else decide (leAt 1 1 m = code)

/-- Requests whose handling asks the Ridge domain for evidence, random bytes or a key (R16, R29), by code; a chunk by the request it
completes. -/
def asksRidge (p : Spdm) (m : List Byte) : Bool :=
  let code := fun b : List Byte => decide (leAt 1 1 b ∈ [0x83, 0xE0, 0xE4, 0xED])
  if leAt 1 1 m = 0x85 then decide (leAt 2 1 m % 2 = 1) && code (if leAt 4 2 m = 0 then m.drop 16 else p.chunkIn) else code m

/-- A request that waits unopened is opened once it can be (R20, R493). -/
def openLocked (s : State) (via : SpdmVia) : State :=
  match (spdmOf s via).request with
  | some m =>
    if (spdmOf s via).locked ∧ !sparHeld s then
      match openRequest s via m with
      | (s, none) => s
      | (s, some rsp) => deliver s via rsp false
    else s
  | none => s

/-- A row of an SPDM request: the request that waits is handled where its code is the row's; one that needs the Ridge domain is held
with its port (R20), one in a session with the Spar cluster's clock too (R493). While the boot ROM runs, or firmware is being changed,
every request gets ERROR Busy; with the Loft stopped or taken over it waits. -/
def runSpdm (s : State) (via : SpdmVia) (code : Nat) (body : SpdmVia → List Byte → State → Handled) : Out :=
  inOneCycle s <|
  let s := openLocked s via
  let p := spdmOf s via
  match p.request with
  | none => .next s
  | some m =>
    if p.locked ∨ !rowCode code m then .next s
    else if (sparHeld s ∧ p.inSession.isSome) ∨ (s.boot.ridgeHeld ∧ asksRidge p m) then .next s
    else if spdmServed s then .next (answerRequest s via fun s => fitResponse via (body via m s))
    else if s.loft.run = .bootRom ∨ s.loft.run = .released ∨ s.loft.run = .reload then
      .next (answerRequest s via fun s => (s, spdmError 0x03))
    else .next s

/-! ### Rows -/

/-- GET_VERSION (R259). -/
def execGetVersion (via : SpdmVia) (s : State) : Out := runSpdm s via 0x84 (spdmCore noJob)
/-- GET_CAPABILITIES (R260). -/
def execGetCapabilities (via : SpdmVia) (s : State) : Out := runSpdm s via 0xE1 (spdmCore noJob)
/-- NEGOTIATE_ALGORITHMS (R260). -/
def execNegotiateAlgorithms (via : SpdmVia) (s : State) : Out := runSpdm s via 0xE3 (spdmCore noJob)
/-- GET_DIGESTS (R261). -/
def execGetDigests (via : SpdmVia) (s : State) : Out := runSpdm s via 0x81 (spdmCore noJob)
/-- GET_CERTIFICATE (R261). -/
def execGetCertificate (via : SpdmVia) (s : State) : Out := runSpdm s via 0x82 (spdmCore noJob)
/-- CHALLENGE (R265). -/
def execChallenge (via : SpdmVia) (run : RafterRun) (s : State) : Out := runSpdm s via 0x83 (spdmCore run)
/-- GET_MEASUREMENTS (R262). -/
def execGetMeasurements (via : SpdmVia) (run : RafterRun) (s : State) : Out := runSpdm s via 0xE0 (spdmCore run)
/-- KEY_EXCHANGE (R264). -/
def execKeyExchange (via : SpdmVia) (run : RafterRun) (s : State) : Out := runSpdm s via 0xE4 (spdmCore run)
/-- FINISH (R264). -/
def execFinish (via : SpdmVia) (s : State) : Out := runSpdm s via 0xE5 (spdmCore noJob)
/-- END_SESSION (R263). -/
def execEndSession (via : SpdmVia) (s : State) : Out := runSpdm s via 0xEC (spdmCore noJob)
/-- HEARTBEAT (R259). -/
def execHeartbeat (via : SpdmVia) (s : State) : Out := runSpdm s via 0xE8 (spdmCore noJob)
/-- KEY_UPDATE (R263). -/
def execKeyUpdate (via : SpdmVia) (s : State) : Out := runSpdm s via 0xE9 (spdmCore noJob)
/-- CHUNK_SEND (R259). -/
def execChunkSend (via : SpdmVia) (run : RafterRun) (s : State) : Out := runSpdm s via 0x85 (spdmChunkSend run)
/-- CHUNK_GET (R259). -/
def execChunkGet (via : SpdmVia) (s : State) : Out := runSpdm s via 0x86 spdmChunkGet
/-- GET_ENCAPSULATED_REQUEST (R259). -/
def execGetEncapsulatedRequest (via : SpdmVia) (s : State) : Out := runSpdm s via 0xEA (spdmCore noJob)
/-- DELIVER_ENCAPSULATED_RESPONSE (R259). -/
def execDeliverEncapsulatedResponse (via : SpdmVia) (s : State) : Out := runSpdm s via 0xEB (spdmCore noJob)
/-- GET_CSR (R259). -/
def execGetCsr (via : SpdmVia) (run : RafterRun) (s : State) : Out := runSpdm s via 0xED (spdmCore run)
/-- SET_CERTIFICATE (R259). -/
def execSetCertificate (via : SpdmVia) (s : State) : Out := runSpdm s via 0xEE (spdmCore noJob)
/-- Any other request (R259, R405). -/
def execSpdmUnsupported (via : SpdmVia) (s : State) : Out := runSpdm s via 0 (spdmCore noJob)

/-- The sideband's request has been handled: the response is written into the buffer from byte 0 (R386). -/
def execSpdmSbResponse (t : TileId) (s : State) : Out :=
  let b := (s.tile t).side
  match b.spdm.response with
  | none => .next s
  | some (rsp, secured) =>
    .next (s.modTile t fun x =>
      { x with side := { x.side with
          buffer := Memory.write 0 x.side.buffer 0 (rsp.take 1024), length := min 1024 rsp.length, secured := secured
          spdmBusy := false, spdmReady := true, spdm := { x.side.spdm with response := none } } })

end Sys2Proof.Machine
end

