-- ==== Sys2Proof/Machine/Sideband.lean ====
section
/-! DEFINITION. The sideband (R366 to R390): frames and their checks, the reply of each frame, the register space, messages. -/

namespace Sys2Proof.Machine

open Sys2Proof

/-! ### Frames (R369 to R371) -/

def sbCmd (h : Word) : Nat := fieldOf h 31 24
def sbAlive (h : Word) : Nat := fieldOf h 23 20
def sbLen (h : Word) : Nat := fieldOf h 19 16
def sbAddr (h : Word) : Nat := fieldOf h 15 0

/-- Bits of a frame for each SCK edge: one, four, or eight in SB4D (R368, R371). -/
def sbBitsPerEdge (mode : BitVec 2) : Nat := if mode = 0 then 1 else if mode = 1 then 4 else 8

/-- The header word; zero where none was received. -/
def sbHeader (f : Frame) : Word := f.words.headD 0

/-- The last whole word, which a good frame ends with. -/
def sbTrailer (f : Frame) : Word := f.words.getLastD 0

/-- CRC over the words before the last. -/
def sbCrc (f : Frame) : BitVec 16 := crc16Words f.words.dropLast

/-- The reason of a bad frame, or none (R371). -/
def frameReason (f : Frame) : Option Nat :=
  if f.bits % 32 ≠ 0 then some 0x10
  else if f.words.length ≠ sbLen (sbHeader f) + 3 then some 0x11
  else if fieldOf (sbTrailer f) 31 16 ≠ (sbCrc f).toNat then some 0x12
  else if fieldOf (sbTrailer f) 15 0 ≠ 0 then some 0x13
  else none

/-! ### Replies (R374 to R378) -/

/-- The fields of a status word (R374); result words make `nodata` 0. -/
structure SbStatus where
  cmd      : Nat
  alive    : Nat
  badFrame : Bool
  underrun : Bool
  addrOver : Bool
  skip     : Bool
  result   : Nat
  deriving DecidableEq, Repr

/-- A reply from its fields and result words. -/
def mkReply (x : SbStatus) (words : List Word) : Reply :=
  { status := packWord [(0, x.result), (11, b01 (decide (words = []))), (12, b01 x.skip), (13, b01 x.addrOver), (14, b01 x.underrun),
      (15, b01 x.badFrame), (16, words.length - 1), (20, x.alive), (24, x.cmd)]
    words := words }

/-- The words of a reply as it is due during a frame of `n` words whose header announces `len` (R374). -/
def replyWords (r : Reply) (len n : Nat) : List Word :=
  let body := r.status :: (List.range (len + 1)).map fun i => r.words.getD i 0
  let all := body ++ [(crc16Words body).setWidth 32 <<< 16]
  (all ++ List.replicate n 0xFFFFFFFF#32).take n

/-- The words that reach the lines (R376): one not ready repeats the word before it in the select, or 0xFFFF_FFFF. -/
def drivenWords (late : List Nat) : Nat → Word → List Word → List Word
  | _, _, [] => []
  | i, last, w :: ws =>
    let out := if i ∈ late then last else w
    out :: drivenWords late (i + 1) out ws

/-- The sideband is answered: not on a fused-off tile, not in ABSENT or OFF (R3, R366), and not for a select without an edge
(R372). -/
def sbAnswers (s : State) (t : TileId) (f : Frame) : Bool :=
  !fusedOff s t && powered (s.tile t) && decide (f.bits ≠ 0)

def State.modSide (s : State) (t : TileId) (g : TileSideband → TileSideband) : State :=
  s.modTile t fun x => { x with side := g x.side }

/-- EVT_UNDERRUN with reason SIDEBAND, once per select; the tile is never reset for it (R99, R173, R376). What its payload says
of a flash-emulation select, the spec does not state for this one: free values. -/
def sbUnderrun (s : State) (t : TileId) (words : Nat) : State :=
  let v := fun i => Config.freeNat (s.freeCtr + i)
  let s := s.modSide t fun b => { b with statUnder := satInc 0xFF b.statUnder }
  raiseT (s.fresh 5) t 6 (payload [(0, 1, 3), (1, 1, v 0), (2, 1, v 1), (3, 1, 1), (4, 4, v 2), (8, 4, words), (0x0C, 2, v 3),
    (0x10, 4, v 4)])

/-- The reply due is driven while a frame comes in. -/
def driveReply (s : State) (t : TileId) (f : Frame) : State :=
  let due := replyWords (s.tile t).side.reply (sbLen (sbHeader f)) f.words.length
  let s := if f.late = [] then s else sbUnderrun s t f.late.length
  s.respond ((drivenWords f.late 0 0xFFFFFFFF#32 due).flatMap fun w => (bytesOf 4 w).reverse) 0

/-- A bad frame is discarded whole (R371, R374, R388). -/
def badFrame (s : State) (t : TileId) (f : Frame) (reason : Nat) : State :=
  let b := (s.tile t).side
  let s := s.modSide t fun b =>
    { b with
      bad := satInc 0xFF b.bad, statBad := satInc 0xFF b.statBad
      reply := mkReply { cmd := 0, alive := (b.alive.map BitVec.toNat).getD 0, badFrame := true, underrun := decide (f.late ≠ [])
                         addrOver := false, skip := false, result := 0x08 } [] }
  frameBadEvent s t 1 reason b.mode.toNat ((f.bits + sbBitsPerEdge b.mode - 1) / sbBitsPerEdge b.mode) (sbHeader f).toNat
    f.words.length (if f.words = [] then 0 else fieldOf (sbTrailer f) 31 16 * 0x10000 + (sbCrc f).toNat)

/-- A frame is accepted (R373): its alive is kept and counted. The answer is whether it skips. -/
def acceptFrame (s : State) (t : TileId) (h : Word) : State × Bool :=
  let b := (s.tile t).side
  let alive := BitVec.ofNat 4 (sbAlive h)
  let skip := match b.alive with | some a => decide (alive ≠ a + 1) | none => false
  (s.modSide t fun b =>
    { b with
      frames := b.frames + 1, alive := some alive, skips := if skip then satInc 0xFF b.skips else b.skips
      statSkips := if skip then satInc 0xFF b.statSkips else b.statSkips }, skip)

/-- What an accepted frame comes to: the state, its result, its result words, and whether it ran past word 0x3FF. -/
structure SbDone where
  s      : State
  result : Nat
  words  : List Word
  past   : Bool

/-- A frame of one of the given commands: the reply due is driven, the checks are made, and an accepted frame is carried out
and its reply built. A frame of another command is another row's. -/
def onFrame (s : State) (t : TileId) (f : Frame) (mine : Nat → Bool) (body : State → Word → List Word → SbDone) : Out :=
  inOneCycle s <|
  if !sbAnswers s t f then .next s
  else match frameReason f with
  | some r => if mine 0x100 then .next (badFrame (driveReply s t f) t f r) else .next s
  | none =>
    let h := sbHeader f
    if !mine (sbCmd h) then .next s
    else
      let (s, skip) := acceptFrame (driveReply s t f) t h
      let d := body s h (f.words.drop 1).dropLast
      .next (d.s.modSide t fun b =>
        { b with reply := mkReply { cmd := sbCmd h, alive := sbAlive h, badFrame := false, underrun := decide (f.late ≠ [])
                                    addrOver := d.past, skip := skip, result := d.result } d.words })

/-- A frame that fails its checks (R371). -/
def execSidebandBadFrame (t : TileId) (f : Frame) (s : State) : Out :=
  onFrame s t f (fun c => decide (c = 0x100)) fun s _ _ => ⟨s, 0, [], false⟩

/-- Commands of the tables of commands and messages (R377). -/
def sbKnown (c : Nat) : Bool := decide (c = 0 ∨ c = 1 ∨ c = 0x10 ∨ c = 0x11 ∨ (0x20 ≤ c ∧ c ≤ 0x26))

/-- NOP (R377); a command of no table gives BAD_CMD and does nothing either. -/
def execSidebandNop (t : TileId) (f : Frame) (s : State) : Out :=
  onFrame s t f (fun c => decide (c = 0) || (decide (c < 0x100) && !sbKnown c)) fun s h _ =>
    ⟨s, if sbCmd h = 0 then 0 else 0x02, [], false⟩

/-- REPLAY (R378): the reply due during its own select, with the underrun of that select. -/
def execReplay (t : TileId) (f : Frame) (s : State) : Out :=
  if !sbAnswers s t f then .next s
  else match frameReason f with
  | some _ => .next s
  | none =>
    if sbCmd (sbHeader f) ≠ 0x01 then .next s
    else
      let r := (s.tile t).side.reply
      let s := (acceptFrame (driveReply s t f) t (sbHeader f)).1
      .next (s.modSide t fun b => { b with reply := { r with status := putBit r.status 14 (decide (f.late ≠ [])) } })

/-! ### Register space (R379 to R381) -/

/-- A word of the register space; nothing changes. -/
def sbWord (s : State) (t : TileId) (a : Nat) : Word :=
  let b := (s.tile t).side
  if 0x020 ≤ a ∧ a ≤ 0x02F then b.scratch.toList.getD (a - 0x020) 0
  else if 0x100 ≤ a ∧ a ≤ 0x1FF then ofBytes 32 (Memory.read 0 b.buffer (4 * (a - 0x100)) 4)
  else match a with
    | 0x000 => 0x53420001#32
    | 0x001 => packWord [(0, t.val), (8, t.val / 8), (16, featTiles s.otp.feature)]
    | 0x00A => gMode s
    | 0x00B => tileWord s t 0x0A
    | 0x00C => tileWord s t 0x0B
    | 0x00D => tileWord s t 0x0C
    | 0x00E => packWord [(0, svnCount s t.val)]
    | 0x010 => packWord [(0, b.mode.toNat)]
    | 0x011 => sbCount b
    | 0x012 => sbSpdm b
    | 0x013 => sbLastMsg b
    | a => if 0x002 ≤ a ∧ a ≤ 0x009 then tileWord s t (a - 2) else 0

/-- READ (R380): words past 0x3FF read zero. -/
def execSidebandRead (t : TileId) (f : Frame) (s : State) : Out :=
  onFrame s t f (fun c => decide (c = 0x10)) fun s h _ =>
    let as := (List.range (sbLen h + 1)).map (sbAddr h + ·)
    ⟨s, 0, as.map fun a => if a ≤ 0x3FF then sbWord s t a else 0, decide (0x3FF < sbAddr h + sbLen h)⟩

/-- One word stored: the mode, a scratch word, or a word of the buffer, which clears ready (R386). -/
def sbStore (b : TileSideband) (a : Nat) (w : Word) : TileSideband :=
  if a = 0x010 then { b with mode := w.setWidth 2 }
  else if 0x020 ≤ a ∧ a ≤ 0x02F then { b with scratch := Vector.ofFn fun i : Fin 16 => if i.val = a - 0x020 then w else b.scratch[i] }
  else if 0x100 ≤ a ∧ a ≤ 0x1FF then
    { b with buffer := Memory.write 0 b.buffer (4 * (a - 0x100)) (bytesOf 4 w), spdmReady := false }
  else b

/-- A word that software can write. -/
def sbWritable (a : Nat) : Bool := decide (a = 0x010 ∨ (0x020 ≤ a ∧ a ≤ 0x02F) ∨ (0x100 ≤ a ∧ a ≤ 0x1FF))

/-- WRITE (R380): checked before any word is stored. -/
def execSidebandWrite (t : TileId) (f : Frame) (s : State) : Out :=
  onFrame s t f (fun c => decide (c = 0x11)) fun s h data =>
    let items := (data.mapIdx fun i w => (sbAddr h + i, w)).filter fun x => decide (x.1 ≤ 0x3FF)
    let past := decide (0x3FF < sbAddr h + sbLen h)
    let b := (s.tile t).side
    if items.any fun x => decide (x.1 = 0x010 ∧ x.2.setWidth 2 = 3#2) then ⟨s, 0x04, [], past⟩
    else if b.spdmBusy && items.any fun x => decide (0x100 ≤ x.1 ∧ x.1 ≤ 0x1FF) then ⟨s, 0x05, [], past⟩
    else
      ⟨s.modSide t fun b => items.foldl (fun b x => sbStore b x.1 x.2) b,
        if items.all (fun x => sbWritable x.1) then 0 else 0x07, [], past⟩

/-! ### Messages (R383 to R386) -/

/-- EVT_SIDEBAND_MSG (R385, R389), at most once per evt_holdoff for each command. -/
def messageEvent (s : State) (t : TileId) (cmd result alive : Nat) (arg : Word) : State :=
  match holdGate s t (0x1000 + cmd) with
  | (s, none) => s
  | (s, some held) =>
    raiseT s t 8 (payload [(0, 1, cmd), (1, 1, result), (2, 1, alive), (4, 4, arg.toNat), (8, 4, (s.tile t).ctl.gen.toNat),
      (0x0C, 4, held)])

/-- A message (R383): address, length, then its data and conditions by `body`; its result is stored, and the commands of R385
raise their event whatever the result. -/
def onMessage (s : State) (t : TileId) (f : Frame) (cmd len : Nat) (event : Bool)
    (body : State → List Word → State × Nat) : Out :=
  onFrame s t f (fun c => decide (c = cmd)) fun s h data =>
    let (s, result) : State × Nat :=
      if sbAddr h ≠ 0 then (s, 0x04)
      else if sbLen h + 1 ≠ len then (s, 0x03)
      else body s data
    let s := s.modSide t fun b =>
      { b with
        lastCmd := BitVec.ofNat 8 cmd, lastResult := BitVec.ofNat 8 result, lastAlive := BitVec.ofNat 4 (sbAlive h) }
    let s := if event then messageEvent s t cmd result (sbAlive h) (data.headD 0) else s
    ⟨s, result, [], false⟩

/-- States in which update messages are accepted (R383). -/
def updateState (x : TileState) : Bool := decide (x ≠ .absent ∧ x ≠ .off)

/-- BOOT_OK (R234, R383). -/
def execBootOk (t : TileId) (f : Frame) (s : State) : Out :=
  onMessage s t f 0x20 1 true fun s _ =>
    if (s.tile t).ctl.state.released then (confirmBoot s t, 0) else (s, 0x01)

/-- RESET_REQ (R80, R383, R384). -/
def execResetReq (t : TileId) (f : Frame) (s : State) : Out :=
  onMessage s t f 0x21 1 true fun s data =>
    if data.headD 0 ≠ 0x52535452#32 then (s, 0x04)
    else if !(s.tile t).ctl.state.released ∨ s.gmode.mode = .lockdown then (s, 0x01)
    else (resetTile s t .platformReset, 0)

/-- UPDATE_COMMIT (R226, R227, R383, R384, R387, R443): a commit that is refused changes neither the owner nor the tile; one that is
taken from a gated tile wakes the device first. With no owner the platform becomes it, which
sets STAGE in FETCH and RESTORE too, though R73 lists only other states for that flag (DESIGN CHOICE, log entry 66). -/
def execUpdateCommit (t : TileId) (f : Frame) (s : State) : Out :=
  onMessage s t f 0x22 1 true fun s data =>
    let x := s.tile t
    if !updateState x.ctl.state ∨ !x.active.platformUpdate ∨ (x.owned ∧ x.update.owner ≠ 1) then (s, 0x01)
    else if commitBlocked s t ∨ (x.owned ∧ x.update.phase ≠ 1) then (refuseCommit s t, 0x01)
    else if poolFree s < commitNeed s t then (refuseCommit (poolEvent s t (commitNeed s t)) t, 0x01)
    else
      let s := wake s
      let s := if x.owned then s else stageBegin s t 1 0
      match commitStaged s t (data.headD 0).toNat with
      | (s, true) => (s, 0)
      | (s, false) => (s, 0x01)

/-- UPDATE_ABANDON (R230, R383, R384, R387). -/
def execUpdateAbandon (t : TileId) (f : Frame) (s : State) : Out :=
  onMessage s t f 0x23 1 true fun s data =>
    let x := s.tile t
    if data.headD 0 ≠ 0 then (s, 0x04)
    else if !updateState x.ctl.state ∨ x.update.owner ≠ 1 ∨ !abandonable x then (s, 0x01)
    else (abandonUpdate (wake s) t, 0x06)

/-- Regions an OPEN_COMMIT names: one under rule STAGE, or every such one; none for a wrong index (R384). -/
def stageRegions (m : List Byte) (arg : Word) : Option (List Region) :=
  if arg = 0xFFFFFFFF#32 then some ((mfRegions m).filter fun r => r.isOpen && decide (r.rule = 4))
  else
    let r := mfRegion m arg.toNat
    if arg.toNat < mfRegionCount m ∧ r.isOpen ∧ r.rule = 4 then some [r] else none

/-- OPEN_COMMIT (R207, R383, R384). -/
def execOpenCommit (t : TileId) (f : Frame) (s : State) : Out :=
  onMessage s t f 0x24 1 true fun s data =>
    let x := s.tile t
    if data.headD 0 ≠ 0xFFFFFFFF#32 ∧ 32 ≤ (data.headD 0).toNat then (s, 0x04)
    else if !x.ctl.state.released then (s, 0x01)
    else match stageRegions x.force.manifest (data.headD 0) with
    | none => (s, 0x04)
    | some rs => (commitOpen s t (x.filter.changed.filter fun u => rs.any fun r => regionUnits r u), 0)

/-- MEASURE_EXTEND of the sideband (R249, R383): 48 bytes as they arrived. -/
def execMeasureExtendSb (t : TileId) (f : Frame) (s : State) : Out :=
  onMessage s t f 0x25 13 false fun s data =>
    let k := (data.headD 0).toNat
    if h : 4 ≤ k ∧ k ≤ 7 then
      let r := tileReg t ⟨k, by omega⟩
      if !(s.tile t).ctl.state.released then (s, 0x01)
      else
        let st := if (s.reg r).saturated then 0x09 else 0
        (extendTile s t ⟨k, by omega⟩ 0 (ofBytes 384 ((data.drop 1).flatMap (bytesOf 4))), st)
    else (s, 0x04)

/-- SPDM_SEND (R386): the request in the buffer is handed on. -/
def execSpdmSend (t : TileId) (f : Frame) (s : State) : Out :=
  onMessage s t f 0x26 1 false fun s data =>
    let w := data.headD 0
    let n := fieldOf w 10 0
    if n = 0 ∨ 1024 < n then (s, 0x04)
    else if (s.tile t).side.spdmBusy then (s, 0x05)
    else
      let m := Memory.read 0 (s.tile t).side.buffer 0 n
      let s := s.modSide t fun b => { b with spdmBusy := true, spdmReady := false }
      match takeRequest s (.sb t) m (bitOf w 31) with
      | (s, none) => (s, 0)
      | (s, some rsp) => (deliver s (.sb t) rsp false, 0)

end Sys2Proof.Machine
end

