-- ==== Sys2Proof/Machine/Host.lean ====
section
/-! DEFINITION. The host port (R395 to R414, R483, R484): heads and logical devices and their resets, CXL.mem by the access rules
of R403, HDM decoders, DOE, the fabric manager's commands and the CXL memory device mailbox. Codes and layouts that CXL 3.1 and
PCIe give are PRESUMED (log entry 9). -/

namespace Sys2Proof.Machine

open Sys2Proof

/-! ### Resets of heads and logical devices (R410) -/

/-- Logical devices of a head. -/
def ldsOf (s : State) (h : HeadId) : List LdId :=
  (List.finRange 16).filter fun f => (s.ld f).enabled && decide (headOf s f = h)

/-- Contexts a logical device holds. -/
def contextsOf (s : State) (f : LdId) : Nat :=
  ((List.range 12).filter fun c => (thatchAt (.inl f) c).any fun i => (s.eng.thatch[i]).isSome).length +
    ((List.range 6).filter fun c => (sparAt (.inl f) c).any fun i => (s.eng.spar[i]).isSome).length

/-- Slots it holds that are not EMPTY. -/
def slotsOf (s : State) (f : LdId) : Nat :=
  ((List.finRange 8).filter fun k => decide ((s.slot (slotOf f k)).state ≠ .empty)).length

/-- A command of the mailbox that waits for a bank switch runs to completion; a re-sense runs on with nobody to answer (R34,
R410). -/
def settleMailbox (s : State) (f : LdId) : State :=
  let s := (List.finRange 32).foldl (fun s t => if (s.tile t).switching = some f then switchBanks s t else s) s
  { s with
    otp := { s.otp with senser := if s.otp.senser = some f then none else s.otp.senser }
    responder := s.responder.filter (· ≠ f) }

/-- One logical device is torn down (R263, R270, R305, R410): `keep` is whether its decoders are kept, `gone` whether it was
removed. -/
def resetLd (keep gone : Bool) (s : State) (f : LdId) : State :=
  let s := dropSessionSlots (destroyLdSlots (settleMailbox s f) f) (s.ld f).spdm.sessions
  let s := releaseOwner s (.inl f)
  let s := s.modLd f fun l =>
    { Ld.reset with
      enabled := l.enabled && !gone, decoders := if keep then l.decoders else Ld.reset.decoders, denyTick := l.denyTick
      denyCount := l.denyCount, denyDpa := l.denyDpa, filtTick := l.filtTick, filtCount := l.filtCount, timestamp := l.timestamp }
  (s.modMb f fun _ => .reset).modFn f fun _ => .reset

/-- Staging a host owns before its commit (R410). -/
def hostStaging (s : State) : Bool := s.tiles.toList.any fun x => x.owned && decide (x.update.owner = 2 ∧ x.update.phase = 1)

/-- A reset of the logical devices of a head, with its event (R410, R414): reason 0 SURPRISE, 1 PERST, 2 HOT_RESET, 3 FLR,
4 CXL_RESET, 5 IDE, 6 LD_REMOVED. -/
def hostReset (s : State) (h : HeadId) (fs : List LdId) (reason : Nat) : State :=
  let before := ownerLds s
  let loader := s.host.ownerDigest.isNone
  let sum := fun g : LdId → Nat => (fs.map g).sum
  let discarded := sum fun f => b01 (s.mb f).busy
  let slots := sum (slotsOf s)
  let contexts := sum (contextsOf s)
  let owner := fs.any fun f => (s.ld f).spdm.sessions.any (Session.owner s.host.ownerDigest)
  let rule := loaderRule s && decide (s.gmode.loaderMb ∈ fs)
  let claim := decide (s.boot.heldClaim.any (· ∈ fs))
  let s0 := s
  let s := fs.foldl (resetLd (decide (reason = 3)) (decide (reason = 6))) s
  let s := s.modHead h fun x => { x with reason := BitVec.ofNat 3 reason, downs := satInc 0xFF x.downs }
  let s := { s with host := { s.host with
    loaderAlive := s.host.loaderAlive && decide (s.gmode.loaderMb ∉ fs)
    stayed := fs.foldl (fun m f => putBit m f.val false) s.host.stayed } }
  let ended := fs.foldl fwLinkLost s
  let effects := b01 (claim || decide (s0.gmode.mode = .load ∧ ended.gmode.mode ≠ .load)) +
    2 * b01 (decide (s0.gmode.mode = .maintain ∧ ended.gmode.mode ≠ .maintain)) + 4 * b01 owner + 8 * b01 rule +
    16 * b01 (decide (before ≠ 0 ∧ ownerLds s = 0) && hostStaging s)
  let s := raise s 509 0xFF (payload [(0, 1, h.val), (1, 1, reason), (2, 1, effects), (4, 2, (fs.map fun f => 2 ^ f.val).sum),
    (6, 2, discarded), (8, 2, slots), (0x0A, 2, contexts)])
  advance 16 (fs.foldl fwLinkLost (ownerEvents before loader s))

/-- The SPDM connection of the FM-owned logical device ends with its head (R263, R410). -/
def resetFm (s : State) (h : HeadId) : State :=
  if h = 0 then
    let s := dropSessionSlots s s.host.fmSpdm.sessions
    { s with host := { s.host with fmSpdm := .reset, fmBusy := false } }
  else s

/-- A head goes down with every logical device it carries; it frees its slots and credits (R410, R483). -/
def headDown (s : State) (h : HeadId) (reason : Nat) : State :=
  let s := hostReset (resetFm s h) h (ldsOf s h) reason
  s.modHead h fun x =>
    { x with
      up := false, rate := 0, width := 0, flit256 := false, ioPipe := [], memPipe := [], skid := false, posted := some 0, drs := some 0
      ndr := some 0, drsHeld := [], ndrHeld := [] }

/-- LINK_DOWN (R410): by surprise, PERST# or hot reset. -/
def execLinkDown (head : HeadId) (reason : Fin 3) (s : State) : Out :=
  inOneCycle s <|
  if s.host.heads[head].up then .next (headDown s head reason.val) else .next s

/-- A link that the head can train to (R392, R394): 8 to 64 GT/s, 64 GT/s in 256-byte flits only, on a width within the bifurcation in
force. -/
def linkOk (s : State) (head : HeadId) (rate : BitVec 3) (width : BitVec 5) (flit256 : Bool) : Bool :=
  decide (2 ≤ rate.toNat ∧ rate.toNat ≤ 5 ∧ (flit256 ∨ rate.toNat ≤ 4) ∧ width.toNat ∈ [1, 2, 4, 8, 16] ∧
    width.toNat ≤ s.host.widths[head].toNat)

/-- LINK_UP (R395, R411): in a bifurcated configuration, or without a switch port, the head is one logical device. A link the head cannot
train to does not come up. -/
def execLinkUp (head : HeadId) (rate : BitVec 3) (width : BitVec 5) (flit256 mld : Bool) (posted drs ndr : Option Nat) (s : State) : Out :=
  if s.host.heads[head].up ∨ !linkOk s head rate width flit256 then .next s
  else
    let many := decide (s.host.bifur = 0) && mld && offersMem s
    let s := s.modHead head fun x =>
      { x with up := true, rate := rate, width := width, flit256 := flit256, posted := posted, drs := drs, ndr := ndr }
    let own : LdId := if s.host.bifur = 0 then 0 else Fin.ofNat 16 head.val
    let lds : Vector Ld 16 := Vector.ofFn fun f : Fin 16 =>
      let l := s.ld f
      if f = own then { l with enabled := true }
      else if s.host.bifur = 0 ∧ !many then { l with enabled := false } else l
    .next { s with host := { s.host with
      lds := lds, mld := if s.host.bifur = 0 then many else false, ldCount := (lds.toList.filter Ld.enabled).length } }

/-- FUNCTION_LEVEL_RESET (R410): decoders are kept. -/
def execFunctionLevelReset (f : LdId) (s : State) : Out :=
  inOneCycle s <|
  if (s.ld f).enabled ∧ s.host.heads[headOf s f].up then .next (hostReset s (headOf s f) [f] 3) else .next s

/-- CXL_RESET (R410). -/
def execCxlReset (f : LdId) (s : State) : Out :=
  inOneCycle s <|
  if (s.ld f).enabled ∧ s.host.heads[headOf s f].up then .next (hostReset s (headOf s f) [f] 4) else .next s

/-- A stream of the head is active (R405). -/
def ideActive (s : State) (h : HeadId) : Bool :=
  ideRuns s.host.heads[h].ioPipe || ideRuns s.host.heads[h].memPipe || (ldsOf s h).any fun f => ideRuns (s.ld f).pipe

/-- IDE_CHECK_FAIL (R405): the stream ends and the head goes down with reason IDE. -/
def execIdeCheckFail (head : HeadId) (s : State) : Out :=
  inOneCycle s <|
  if s.host.heads[head].up && ideActive s head then .next (headDown s head 5) else .next s

/-- A function of a head has a message waiting. -/
def asksCredit (s : State) (h : HeadId) (f : LdId) : Bool := decide (headOf s f = h ∧ (s.fn f).waiting ≠ [])

/-- At most `n` waiting messages of a head's functions go out while it has credits, the functions served in turn (R484, R486). -/
def sendWaiting : Nat → State → HeadId → State
  | 0, s, _ => s
  | n + 1, s, h =>
    let x := s.host.heads[h]
    match if x.credit then grant 16 x.turn.val (fun f => asksCredit s h (Fin.ofNat 16 f)) else none with
    | none => s
    | some f =>
      let f : LdId := Fin.ofNat 16 f
      let v := (s.fn f).waiting.headD 0
      sendWaiting n (sendMsg (s.modFn f fun e => { e with waiting := e.waiting.tail }) f v) h

/-- Messages waiting at the functions of a head. -/
def waitingOf (s : State) (h : HeadId) : Nat :=
  (((List.finRange 16).filter fun f => decide (headOf s f = h)).map fun f => (s.fn f).waiting.length).sum

/-! ### CXL.mem responses (R482, R483) -/

/-- S2M slots of each kind a head has (R482). -/
def s2mSlots : Nat := 256

/-- Credits after `n` are used. -/
def useCredits (c : Option Nat) (n : Nat) : Option Nat := c.map (· - n)

/-- How many of the responses that wait the credits let out. -/
def lettable (c : Option Nat) (held : List S2m) : Nat := match c with | none => held.length | some n => min n held.length

/-- A response goes out against a credit, or waits in its slot until the host returns one (R480, R483): code 4 answers that it waits.
`drs`: it carries data. -/
def sendS2m (s : State) (h : HeadId) (drs : Bool) (data : List Byte) (code : Nat) : State :=
  let x := s.host.heads[h]
  let credit := if drs then x.drs else x.ndr
  let held := if drs then x.drsHeld else x.ndrHeld
  if held = [] ∧ credit ≠ some 0 then
    (s.modHead h fun x => if drs then { x with drs := useCredits x.drs 1 } else { x with ndr := useCredits x.ndr 1 }).respond data code
  else
    let r : S2m := { data := data, code := code }
    (s.modHead h fun x => if drs then { x with drsHeld := held ++ [r] } else { x with ndrHeld := held ++ [r] }).respond [] 4

/-- A request finds no S2M slot free: no M2S credit has been returned for it, so the host cannot send it (R480, R482). -/
def s2mFull (s : State) (h : HeadId) (drs : Bool) : Bool :=
  decide (s2mSlots ≤ (if drs then s.host.heads[h].drsHeld else s.host.heads[h].ndrHeld).length)

/-- The responses that the head's credits let out go out in their order. -/
def drainS2m (s : State) (h : HeadId) : State :=
  let x := s.host.heads[h]
  let n := lettable x.drs x.drsHeld
  let k := lettable x.ndr x.ndrHeld
  let out := x.drsHeld.take n ++ x.ndrHeld.take k
  let s := s.modHead h fun x =>
    { x with drs := useCredits x.drs n, ndr := useCredits x.ndr k, drsHeld := x.drsHeld.drop n, ndrHeld := x.ndrHeld.drop k }
  if out = [] then s else s.respond (out.flatMap S2m.data) ((out.getLast?.map S2m.code).getD 0)

/-- HOST_CREDITS_RETURNED (R483, R484): the messages and the responses that waited go out. -/
def execHostCreditsReturned (head : HeadId) (posted drs ndr : Nat) (s : State) : Out :=
  if s.host.heads[head].up then
    let s := s.modHead head fun x =>
      { x with posted := x.posted.map (· + posted), drs := x.drs.map (· + drs), ndr := x.ndr.map (· + ndr) }
    .next (drainS2m (sendWaiting (waitingOf s head) s head) head)
  else .next s

/-! ### CXL.mem (R402, R403) -/

/-- Where a device physical address lies. -/
inductive DpaRange where
  | view (t : TileId) (off : Nat)
  | push (off : Nat)
  | stage (t : TileId) (off : Nat)
  | reserved
  deriving DecidableEq, Repr

def dpaRange (d : Nat) : DpaRange :=
  if d < 0x200000000 then .view (Fin.ofNat 32 (d / 0x10000000)) (d % 0x10000000)
  else if d < 0x220000000 then .push (d - 0x200000000)
  else if 0x400000000 ≤ d ∧ d < 0x800000000 then .stage (Fin.ofNat 32 ((d - 0x400000000) / 0x20000000)) (d % 0x20000000)
  else .reserved

/-- One byte of an image view: 0xFF for bytes of blocks not verified or held, beyond the image, and without a copy. -/
def viewByte (x : Tile) (o : Nat) : Byte :=
  let b := o / 4096
  if mfImageLen x.verify.manifest ≤ o ∨ b ∉ x.verify.verified ∨ b ∈ x.verify.held then 0xFF else Sparse.get 0xFF x.mem.copy o

/-- A host owns the staging of a tile. -/
def hostOwned (x : Tile) : Bool := x.owned && decide (x.update.owner = 2)

/-- The bytes a read of a logical device returns. -/
def memRead (s : State) (f : LdId) (d n : Nat) : List Byte :=
  match dpaRange d with
  | .view t o => if fusedOff s t then List.replicate n 0xFF else (List.range n).map fun i => viewByte (s.tile t) (o + i)
  | .push o => if isOwner s f then Memory.read 0xFF s.memctl.push o n else List.replicate n 0xFF
  | .stage t o =>
    if isOwner s f && hostOwned (s.tile t) && decide (o + n ≤ stagingSize) then Memory.read 0xFF (s.tile t).mem.staging o n
    else List.replicate n 0xFF
  | .reserved => List.replicate n 0xFF

/-- A CXL.mem access to the Underlay ends self-refresh, and its tick is kept (R453). -/
def touchUnderlay (s : State) : State :=
  { s with memctl := { s.memctl with selfRefresh := false, memTick := some s.attic.tick } }

/-- A line that failed decode is kept for the poison list: image-view lines, up to 64 (R399). -/
def keepPoison (s : State) (d : Nat) : State :=
  match dpaRange d with
  | .view _ _ =>
    if d ∈ s.host.poison ∨ 64 ≤ s.host.poison.length then s
    else { s with host := { s.host with poison := s.host.poison ++ [d] } }
  | _ => s

/-- A line of a push or stage window that already failed decode (R448). -/
def windowPoison (s : State) (d : Nat) : Bool :=
  match dpaRange d with
  | .push o => poisonIn s 32 o 64
  | .stage t o => poisonIn s t.val o 64
  | _ => false

/-- The place of a line in an Underlay area, where a read by the logical device is served from there. -/
def memPlace (s : State) (f : LdId) (d : Nat) : Option Nat :=
  match dpaRange d with
  | .view t o =>
    let v := (s.tile t).verify
    if fusedOff s t ∨ mfImageLen v.manifest ≤ o ∨ o / 4096 ∉ v.verified ∨ o / 4096 ∈ v.held then none else some o
  | .push o => if isOwner s f then some o else none
  | .stage t o => if isOwner s f && hostOwned (s.tile t) && decide (o + 64 ≤ stagingSize) then some o else none
  | .reserved => none

/-- A read of the logical device waits (R403, R452): its block is under copy replacement, or its channel is being retrained. -/
def memWaits (s : State) (f : LdId) (d : Nat) : Bool :=
  (memPlace s f d).any fun o =>
    channelWaits s o || (match dpaRange d with | .view t _ => decide (o / 4096 ∈ (s.tile t).sweep.suspect) | _ => false)

/-- The line of a read on a channel marked down, which is uncorrectable (R452). -/
def memDown (s : State) (f : LdId) (d : Nat) : Option LineFault :=
  (memPlace s f d).bind fun o =>
    if !channelDown s o then none
    else some (match dpaRange d with
      | .view t _ => downLine s t.val 0 o
      | .stage t _ => downLine s t.val 3 o
      | _ => downLine s 32 3 o)

/-- The device physical address that a host address maps to through the logical device's committed decoders (R404). -/
def decodeHpa (s : State) (f : LdId) (hpa : Nat) : Option Nat :=
  (List.finRange 4).findSome? fun i =>
    match (s.ld f).decoders[i] with
    | some d => if d.base ≤ hpa ∧ hpa < d.base + d.size then some (d.dpa + (hpa - d.base)) else none
    | none => none

/-- CXL_MEM_READ (R403, R404): the 64-byte line; one that fails decode returns poison (code 2), and R448 says what follows; code 3 where the
read waits or has no slot (R480). A line of no committed decoder reads as ones (PRESUMED, log entry 9). -/
def execCxlMemRead (f : LdId) (hpa : Nat) (fault : Option LineFault) (s : State) : Out :=
  let h := headOf s f
  inOneCycle s <|
  if !offersMem s then .next s
  else if s2mFull s h true then .next (s.respond [] 3)
  else match decodeHpa s f (hpa / 64 * 64) with
  | none => .next (sendS2m s h true (List.replicate 64 0xFF) 0)
  | some d =>
    if memWaits s f d then .next (s.respond [] 3)
    else if (memPlace s f d).isNone then .next (sendS2m s h true (memRead s f d 64) 0)
    else
      let fault := fault.orElse fun _ => memDown s f d
      let s := touchUnderlay s
      match fault with
      | none => .next (if windowPoison s d then sendS2m s h true [] 2 else sendS2m s h true (memRead s f d 64) 0)
      | some l =>
        let s := s.fresh 1
        if lineCorrected l then
          let s := lineFault s l
          .next (if windowPoison s d then sendS2m s h true [] 2 else sendS2m s h true (memRead s f d 64) 0)
        else .next (sendS2m (lineFault (keepPoison s d) l) h true [] 2)

/-- EVD_HOST_DENY for a discarded write that concerns no tile, at most once per millisecond for each logical device (R403). -/
def hostDeny (s : State) (f : LdId) (d : Nat) : State :=
  let l := s.ld f
  let first := if l.denyCount = 0 then d else l.denyDpa
  if (match l.denyTick with | none => true | some k => decide (msTicks 1 ≤ since s k)) then
    let range := if 0x200000000 ≤ first ∧ first < 0x220000000 then 0 else 1
    let s := s.modLd f fun l => { l with denyTick := some s.attic.tick, denyCount := 0 }
    raise s 510 0xFF (payload [(0, 1, f.val), (1, 1, range), (8, 8, first), (0x10, 4, min 0xFFFFFFFF (l.denyCount + 1))])
  else s.modLd f fun l => { l with denyCount := l.denyCount + 1, denyDpa := first }

/-- EVT_FILTER_DENY with reason UNDERLAY for a discarded write to a tile's range, at most once per millisecond for each logical
device (R23, R403). -/
def tileDeny (s : State) (f : LdId) (t : TileId) : State :=
  let l := s.ld f
  if (match l.filtTick with | none => true | some k => decide (msTicks 1 ≤ since s k)) then
    let s := s.modLd f fun l => { l with filtTick := some s.attic.tick, filtCount := 0 }
    raiseT s t 4 (payload [(0, 1, 0x0A), (1, 1, (s.tile t).filter.protocol.toNat), (2, 1, 0xFF), (8, 4, 0xFFFFFFFF),
      (0x10, 4, l.filtCount)])
  else s.modLd f fun l => { l with filtCount := l.filtCount + 1 }

/-- The runs of enabled bytes of a write, from an offset. -/
def enabledRuns : Nat → List (Option Byte) → List (Nat × List Byte)
  | _, [] => []
  | o, none :: bs => enabledRuns (o + 1) bs
  | o, some b :: bs =>
    match enabledRuns (o + 1) bs with
    | (o', r) :: rs => if o' = o + 1 then (o, b :: r) :: rs else (o, [b]) :: (o', r) :: rs
    | [] => [(o, [b])]

/-- Bytes the bucket of the push and stage windows holds (R485). -/
def windowBucket : Nat := 65536

/-- Bytes the bucket holds `gap` nanoseconds after the last write: it fills at 24,000 MB/s (R485). -/
def windowTokens (s : State) (gap : Nat) : Nat := min windowBucket (s.host.tokens + 24 * gap)

/-- Bytes taken from the bucket. -/
def spendTokens (s : State) (gap n : Nat) : State := { s with host := { s.host with tokens := windowTokens s gap - n } }

/-- A range of the push and stage windows. -/
def windowRange (d : DpaRange) : Bool := match d with | .push _ | .stage _ _ => true | _ => false

/-- A write takes effect by the access rules (R60, R403, R444); a discarded one completes normally. -/
def writeDpa (s : State) (f : LdId) (d : Nat) (bytes : List (Option Byte)) : State :=
  match dpaRange d with
  | .view t _ => tileDeny s f t
  | .push o =>
    if isOwner s f ∧ o + bytes.length ≤ pushSize then (enabledRuns o bytes).foldl (fun s r => storePush s r.1 r.2) s
    else hostDeny s f d
  | .stage t o =>
    if isOwner s f ∧ hostOwned (s.tile t) ∧ o + bytes.length ≤ stagingSize then
      (enabledRuns o bytes).foldl (fun s r => (hostStage s t r.1 r.2).1) (wakeNow s)
    else tileDeny s f t
  | .reserved => hostDeny s f d

/-- CXL_MEM_WRITE (R403, R404, R480, R485): code 3 where no RwD credit has been returned for it, for want of a slot or of its bytes in the
bucket of the push and stage windows, and it waits at the host. A write to no committed decoder is dropped (PRESUMED, log entry 9). -/
def execCxlMemWrite (f : LdId) (hpa gap : Nat) (bytes : List (Option Byte)) (s : State) : Out :=
  inOneCycle s <|
  let h := headOf s f
  if !offersMem s then .next s
  else if s2mFull s h false then .next (s.respond [] 3)
  else match decodeHpa s f hpa with
  | none => .next (sendS2m s h false [] 0)
  | some d =>
    if windowRange (dpaRange d) ∧ windowTokens s gap < bytes.length then .next (s.respond [] 3)
    else
      let s := if windowRange (dpaRange d) then spendTokens s gap bytes.length else s
      .next (sendS2m (writeDpa (touchUnderlay s) f d bytes) h false [] 0)

/-! ### HDM decoders (R404) -/

/-- HDM_DECODER_COMMIT: code 1 is Error Not Committed; a locked decoder does not change. The DPA range begins at `dpa` plus the
skip. -/
def execHdmDecoderCommit (f : LdId) (idx : Fin 4) (base size dpa skip ways : Nat) (lock : Bool) (s : State) : Out :=
  let ds := (s.ld f).decoders
  let from_ := dpa + skip
  let overlap : Bool := (List.finRange 4).any fun j =>
    decide (j ≠ idx) && (ds[j]).any fun d => decide (from_ < d.dpa + d.size ∧ d.dpa < from_ + size)
  let locked : Bool := (ds[idx]).any Decoder.lock
  if !offersMem s then .next s
  else if locked ∨ ways ≠ 1 ∨ overlap ∨ 0x800000000 < from_ + size ∨ base % 0x10000000 ≠ 0 ∨ size % 0x10000000 ≠ 0 ∨ size = 0 then
    .next (s.respond [] 1)
  else
    .next ((s.modLd f fun l =>
      { l with decoders := l.decoders.set idx.val (some { base := base, size := size, dpa := from_, lock := lock }) idx.isLt }).respond
        [] 0)

/-! ### DOE (R400, R401) -/

/-- The protocols of R400, in order: vendor and type. -/
def doeProtocols : List (Nat × Nat) := [(0x0001, 0x00), (0x0001, 0x01), (0x0001, 0x02), (0x1E98, 0x02)]

/-- DOE Discovery: the protocol at an index and the next index, 0 after the last. -/
def doeDiscovery (data : List Byte) : List Byte :=
  let i := leAt 0 1 data
  match doeProtocols[i]? with
  | some p => leBytes 2 p.1 ++ [BitVec.ofNat 8 p.2, BitVec.ofNat 8 (if i + 1 < doeProtocols.length then i + 1 else 0)]
  | none => [0xFF, 0xFF, 0, 0]

/-- The three ranges of R402 that the CDAT describes: base and size. -/
def cdatRanges : List (Nat × Nat) := [(0, 0x200000000), (0x200000000, 0x20000000), (0x400000000, 0x400000000)]

/-- The CDAT (R401): a DSMAS entry for each range, each with its read latency of 300 ns and its bandwidth of 24,000 MB/s. -/
def cdatEntries (s : State) : List (List Byte) :=
  if offersMem s then
    (cdatRanges.zipIdx.flatMap fun (r, i) =>
      let n := BitVec.ofNat 8 i
      [[0, 0] ++ leBytes 2 24 ++ [n, 0, 0, 0] ++ leBytes 8 r.1 ++ leBytes 8 r.2,
       [1, 0] ++ leBytes 2 24 ++ [n, 0, 1, 0] ++ leBytes 8 1000 ++ leBytes 2 300 ++ leBytes 6 0,
       [1, 0] ++ leBytes 2 24 ++ [n, 0, 4, 0] ++ leBytes 8 1 ++ leBytes 2 24000 ++ leBytes 6 0])
  else []

/-- Its header: length, revision, and the checksum that makes the bytes of the table sum to zero. -/
def cdatHeader (s : State) : List Byte :=
  let body := (cdatEntries s).flatten
  let head := fun c : Nat => leBytes 4 (16 + body.length) ++ [1, BitVec.ofNat 8 c] ++ leBytes 6 0 ++ leBytes 4 0
  let sum := ((head 0 ++ body).map BitVec.toNat).sum
  head ((256 - sum % 256) % 256)

/-- A CDAT access: the entry of a handle and the next handle, 0xFFFF after the last. -/
def cdatRead (s : State) (data : List Byte) : List Byte :=
  let all := cdatHeader s :: cdatEntries s
  let i := leAt 2 2 data
  match all[i]? with
  | some e => [0, 0] ++ leBytes 2 (if i + 1 < all.length then i + 1 else 0xFFFF) ++ e
  | none => [0, 0] ++ leBytes 2 0xFFFF

/-- The transport of a DOE mailbox: that of a function, or of the FM-owned logical device. -/
def doeVia (f : Option LdId) : SpdmVia := match f with | some f => .doe f | none => .fm

/-- The DOE mailbox is there: the FM-owned logical device's in multi-logical-device operation only (R396, R405). -/
def doeThere (s : State) (f : Option LdId) : Bool := f.isSome || s.host.mld

def doeBusy (s : State) (f : Option LdId) : Bool := match f with | some f => (s.ld f).doeBusy | none => s.host.fmBusy

def setDoeBusy (s : State) (f : Option LdId) (b : Bool) : State :=
  match f with
  | some f => s.modLd f fun l => { l with doeBusy := b }
  | none => { s with host := { s.host with fmBusy := b } }

/-- DOE_REQUEST (R400): a protocol not offered, or an object longer than 4,096 bytes, gets no response (code 1); a function
still processing a request takes none (code 2). -/
def execDoeRequest (f : Option LdId) (vendor : BitVec 16) (type : BitVec 8) (data : List Byte) (s : State) : Out :=
  inOneCycle s <|
  let out := fun rsp : List Byte => s.respond rsp 0
  if !doeThere s f then .next s
  else if doeBusy s f then .next (s.respond [] 2)
  else if 4096 < data.length then .next (s.respond [] 1)
  else match vendor.toNat, type.toNat with
  | 0x0001, 0 => .next (out (doeDiscovery data))
  | 0x1E98, 2 => .next (out (cdatRead s data))
  | 0x0001, n =>
    if n = 1 ∨ n = 2 then
      match takeRequest ((setDoeBusy s f true).respond [] 0) (doeVia f) data (decide (n = 2)) with
      | (s, none) => .next s
      | (s, some rsp) => .next (deliver s (doeVia f) rsp false)
    else .next (s.respond [] 1)
  | _, _ => .next (s.respond [] 1)

/-- DOE_ABORT (R400): the request and any response are discarded. -/
def execDoeAbort (f : Option LdId) (s : State) : Out :=
  .next (setDoeBusy (modSpdm s (doeVia f) fun p => { p with request := none, locked := false, inSession := none }) f false)

/-! ### The fabric manager (R396) -/

/-- A completion of a CXL mailbox command: 0 Success, 2 Invalid Input, 3 Unsupported, 0xE Invalid Handle. -/
def cxlDone (s : State) (code : Nat) (data : List Byte) : Out := .next (s.respond data code)

/-- The FM API is answered in multi-logical-device operation. -/
def fmOnly (s : State) (k : Out) : Out := if s.host.mld then k else cxlDone s 3 []

/-- GET_LD_INFO (R396). -/
def execGetLdInfo (s : State) : Out :=
  fmOnly s (cxlDone s 0 (leBytes 8 0x800000000 ++ leBytes 2 16 ++ [Config.identifyByte 0x100]))

/-- Allocations as they stand: every enabled logical device has the full 32 GiB in units of 256 MiB (R396). -/
def ldAllocations (s : State) : List Byte :=
  [BitVec.ofNat 8 s.host.ldCount, 0, 0, BitVec.ofNat 8 s.host.ldCount] ++
    (List.range s.host.ldCount).flatMap fun _ => leBytes 8 128 ++ leBytes 8 0

/-- GET_LD_ALLOCATIONS (R396). -/
def execGetLdAllocations (s : State) : Out := fmOnly s (cxlDone s 0 (ldAllocations s))

/-- SET_LD_ALLOCATIONS (R396): accepted where every logical device enabled gets the full 32 GiB at a granularity of 256 MiB
(code 0); a reduction removes the highest logical devices, each as a surprise link down of it alone. -/
def execSetLdAllocations (granularity count : Nat) (sizes : List Nat) (s : State) : Out :=
  inOneCycle s <|
  fmOnly s <|
    if granularity ≠ 0 ∨ count < 1 ∨ 16 < count ∨ sizes.length ≠ count ∨ !sizes.all (fun n => decide (n = 128)) then cxlDone s 2 []
    else
      let removed := (List.finRange 16).filter fun f => decide (count ≤ f.val) && (s.ld f).enabled
      let s := removed.foldl (fun s f => hostReset s 0 [f] 6) s
      let lds : Vector Ld 16 := Vector.ofFn fun f : Fin 16 => { s.ld f with enabled := decide (f.val < count) }
      let s := { s with host := { s.host with lds := lds, ldCount := count } }
      cxlDone s 0 (ldAllocations s)

/-- GET_QOS_CONTROL (R396). -/
def execGetQosControl (s : State) : Out := fmOnly s (cxlDone s 0 s.host.qos)

/-- SET_QOS_CONTROL (R396). -/
def execSetQosControl (value : List Byte) (s : State) : Out :=
  fmOnly s (cxlDone { s with host := { s.host with qos := value } } 0 value)

/-- GET_QOS_STATUS (R396): the backpressure average, which the spec does not state. -/
def execGetQosStatus (s : State) : Out := fmOnly s (cxlDone (s.fresh 1) 0 [Config.freeByte s.freeCtr])

/-! ### The CXL memory device mailbox (R399) -/

/-- IDENTIFY_MEMORY_DEVICE: 32 GiB volatile, nothing persistent, no partition, a poison list of 64; what the spec does not state
is a constant of the part. -/
def execIdentifyMemoryDevice (_ : LdId) (s : State) : Out :=
  let b := fun off n => (List.range n).map fun i => Config.identifyByte (off + i)
  cxlDone s 0 (b 0 16 ++ leBytes 8 128 ++ leBytes 8 128 ++ leBytes 8 0 ++ leBytes 8 0 ++ b 16 8 ++ leBytes 4 0 ++ leBytes 3 64 ++
    b 24 2 ++ b 26 2)

/-- The commands the mailbox answers, with their effects, as the Command Effects Log lists them. -/
def celEntries : List (Nat × Nat) :=
  [(0x0100, 0), (0x0101, 0x10), (0x0300, 0), (0x0301, 0x08), (0x0400, 0), (0x0401, 0), (0x4000, 0), (0x4100, 0), (0x4300, 0)]

def celBytes : List Byte := celEntries.flatMap fun e => leBytes 2 e.1 ++ leBytes 2 e.2

/-- Identifier of the Command Effects Log. -/
def celUuid : List Byte := beBytes 16 0x0DA9C0B5BF414B788F7996B1623B3F17

/-- GET_SUPPORTED_LOGS. -/
def execGetSupportedLogs (_ : LdId) (s : State) : Out :=
  cxlDone s 0 (leBytes 2 1 ++ leBytes 6 0 ++ celUuid ++ leBytes 4 celBytes.length)

/-- GET_LOG of the Command Effects Log. -/
def execGetLog (_ : LdId) (offset len : Nat) (s : State) : Out :=
  if celBytes.length < offset + len then cxlDone s 2 [] else cxlDone s 0 (slice offset len celBytes)

/-- GET_EVENT_RECORDS: the spec gives the block no CXL event record, so every log is empty. -/
def execGetEventRecords (_ : LdId) (_ : Fin 4) (s : State) : Out := cxlDone s 0 (leBytes 32 0)

/-- CLEAR_EVENT_RECORDS: no handle exists. -/
def execClearEventRecords (_ : LdId) (_ : Fin 4) (handles : List Nat) (s : State) : Out :=
  cxlDone s (if handles = [] then 0 else 0x0E) []

/-- GET_TIMESTAMP: the value set and the time since, in ns; 0 while none has been set. -/
def execGetTimestamp (f : LdId) (s : State) : Out :=
  cxlDone s 0 (leBytes 8 (match (s.ld f).timestamp with | none => 0 | some (v, k) => v + since s k * 1000000000 / 32768))

/-- SET_TIMESTAMP. -/
def execSetTimestamp (f : LdId) (value : BitVec 64) (s : State) : Out :=
  cxlDone (s.modLd f fun l => { l with timestamp := some (value.toNat, s.attic.tick) }) 0 []

/-- GET_PARTITION_INFO: all of it volatile. -/
def execGetPartitionInfo (_ : LdId) (s : State) : Out := cxlDone s 0 (leBytes 8 128 ++ leBytes 8 0 ++ leBytes 8 0 ++ leBytes 8 0)

/-- GET_POISON_LIST (R399): image-view lines that returned poison since COLD; their source is not stated. -/
def execGetPoisonList (_ : LdId) (dpa len : Nat) (s : State) : Out :=
  let ls := s.host.poison.filter fun d => decide (dpa ≤ d ∧ d < dpa + 64 * len)
  cxlDone (s.fresh ls.length) 0 (leBytes 10 0 ++ leBytes 2 ls.length ++ leBytes 20 0 ++
    ls.zipIdx.flatMap fun (d, i) => leBytes 8 (d + Config.freeNat (s.freeCtr + i) % 8) ++ leBytes 4 1 ++ leBytes 4 0)

/-- Every other opcode completes with Unsupported (R399). -/
def execCxlMailboxUnsupported (_ : LdId) (opcode : BitVec 16) (s : State) : Out :=
  if celEntries.any fun e => decide (e.1 = opcode.toNat) then .next s else cxlDone s 3 []

end Sys2Proof.Machine
end

