-- ==== Sys2Proof/Machine/Otp.lean ====
section
/-! DEFINITION. The OTP_ commands and the re-sense (R327 to R336, R436). -/

namespace Sys2Proof.Machine

open Sys2Proof

/-- Modes in which Imvon answers (R329). -/
def imvonModes : List DevMode := servedModes ++ [.provision, .lockdown]

/-- Modes of the monotonic burns (R329). -/
def burnModes : List DevMode := [.serve, .doze, .maintain, .barren, .provision]

/-- What no programming command may meet: TRIAL overrides in force or L1 burned (R329, R336), then a controller that runs something
(R328). The answer is 0 or the status. -/
def otpClosed (s : State) (h : LdId) : Nat :=
  if s.otp.overrides ∨ s.otp.lcBurned then stDenied else if otpBusy s h then stBusy else 0

/-- The programming supply is in range where the pulses are driven from it (R327), and the operation starts. The answer is 0 or the
status that ends it, with its event. -/
def startBurn (s : State) (op : Nat) : State × Nat :=
  if s.gmode.mode = .provision ∧ !vppOk s then (otpFault s 0xFFFF 0xFF op 0 0 1 0, stFault)
  else (otpRuns s, 0)

/-- OTP_STATUS (R436). -/
def execOtpStatus (h : LdId) (s : State) : Out :=
  runCmd s h { row := 0x600 * 256, modes := imvonModes, len := fixedLen 0 } fun s _ _ =>
    .done s stOk (bytesOf 4 (gOtpRegion s) ++ bytesOf 4 (gOtpStat s))

/-- OTP_READ (R329, R436). -/
def execOtpRead (h : LdId) (s : State) : Out :=
  runCmd s h { row := 0x601 * 256, modes := imvonModes, len := fixedLen 4 } fun s m _ =>
    let first := m.arg 0 2
    let n := m.arg 2 2
    if n = 0 ∨ 2048 < first + n then .done s stBadArg [] else .done s stOk (shadowBytes s first n)

/-- Length OTP_PROGRAM accepts (R436). -/
def otpProgramLen (_ : State) (m : Mailbox) : Nat :=
  let n := m.length.toNat
  let k := m.arg 2 2
  if n < 4 then stShort else if n < 4 + 4 * k then stShort else if 4 + 4 * k < n then stLong else 0

/-- Rows OTP_PROGRAM may name: KEYRING, and the used rows of OWNER and POLICY (R317, R329). -/
def programmable (r : Nat) : Bool := decide (16 ≤ r ∧ r < 256 ∧ ¬(208 ≤ r ∧ r < 224)) && !zeroRow r

/-- A run of words programmed in order; the first that fails ends it. -/
def programRun (op : Nat) (burns : List Burn) : List (Nat × Word) → Nat → State → State × Nat
  | [], _, s => (s, stOk)
  | (r, v) :: rest, k, s =>
    let (s, out) := programWord s r v (burnAt burns k)
    if out.st = stOk then programRun op burns rest (k + 1) s
    else if out.st = stBadArg then (s, stBadArg)
    else (otpFault s r (rowRegion r) op v.toNat out.strict.toNat 0 out.pulses, stFault)

/-- The OWNER shadow rows. -/
def ownerShadow (s : State) : List Byte := shadowBytes s 224 12

/-- EVD_FUSE_MOVE for a changed OWNER shadow (R326, R460). -/
def ownerMove (before : State) (s : State) : State :=
  if ownerShadow before = ownerShadow s then s
  else fuseMove s 2 0 (b01 (fusedOwner s).isSome) (b01 (fusedOwner before).isSome)

/-- OTP_PROGRAM (R327, R329, R436). -/
def execOtpProgram (h : LdId) (burns : List Burn) (s : State) : Out :=
  runCmd s h { row := 0x602 * 256, modes := [.provision], len := otpProgramLen, role := loaderOnly } fun s m _ =>
    let first := m.arg 0 2
    let rows := (List.range (m.arg 2 2)).map fun i => (first + i, BitVec.ofNat 32 (m.arg (4 + 4 * i) 4))
    if m.arg 2 2 = 0 ∨ 192 < m.arg 2 2 ∨ !rows.all (fun x => programmable x.1) then .done s stBadArg []
    else if otpClosed s h ≠ 0 then .done s (otpClosed s h) []
    else if rows.any (fun x => match rowLock x.1 with
        | some l => decide (regionStatus s l ≠ .unfinalised)
        | none => true) then .done s stDenied []
    else
      let (s, st) := startBurn s 1
      if st ≠ 0 then .done s st []
      else
        let before := s
        let (s, st) := programRun 1 burns rows 0 s
        let s := ownerMove before s
        .done s st (leBytes 2 rows.length)

/-- The 256-bit value of the ROOT rows at NORMAL, through the redirections burned (R336). -/
def rootNow (s : State) : BitVec 256 :=
  ofBytes 256 ((List.range 8).flatMap fun i => bytesOf 4 (otpNormal s ((burnSpare s (8 + i)).getD (8 + i))))

/-- The next free redirection entry (R331, R332). -/
def freeEntry (s : State) : Option Nat := (List.range 64).find? fun e => !spareUsed s e

/-- A row redirected: its value into the spare of the next free entry, then the entry (R332). The answer is the status and
the entry. -/
def redirectRow (s : State) (op row : Nat) (v : Word) (b1 b2 : Burn) : State × Nat × Nat :=
  match freeEntry s with
  | none => (s, stExhausted, 0)
  | some e =>
    let (s, out) := programPlace s (2048 + e) v b1
    if out.st ≠ stOk then
      let s := { s with otp := { s.otp with badSpares := insertNat s.otp.badSpares e } }
      (otpFault s (2048 + e) 0xFF op (if rootRow row then 0 else v.toNat) (if rootRow row then 0 else out.strict.toNat) 0
        out.pulses, stFault, e)
    else
      let (s, out) := programPlace s (1984 + e) (redirWord row) b2
      if out.st ≠ stOk then
        (otpFault s (1984 + e) 9 op (redirWord row).toNat out.strict.toNat 0 out.pulses, stFault, e)
      else (s, stOk, e)

/-- A draw for the UDS with prediction resistance, a reseed before it, repeated while it is all zeros or all ones (R294, R336); the number
bounds the draws (DESIGN CHOICE, log entry 28). -/
def drawUds : Nat → State → State × Except Nat (List Byte)
  | 0, s => (s, .error stFault)
  | n + 1, s =>
    match drbg { s with eng := { s.eng with since0 := 0 } } 0 32 with
    | (s, .ok b) => if b.all (· = 0) || b.all (· = 0xFF) then drawUds n s else (s, .ok b)
    | (s, .error st) => (s, .error st)

/-- The UDS words burned, a failing word repaired on the Ridge path (R332, R336). -/
def burnUds (burns : List Burn) : List (Nat × Word) → Nat → State → State × Nat
  | [], _, s => (s, stOk)
  | (r, v) :: rest, k, s =>
    let (s, out) := programWord s r v (burnAt burns k)
    if out.st = stOk then burnUds burns rest (k + 1) s
    else
      let s := otpFault s r 2 2 0 0 0 out.pulses
      let (s, st, _) := redirectRow s 2 r v (burnAt burns (k + 1)) (burnAt burns (k + 2))
      if st = stOk then burnUds burns rest (k + 3) s
      else if st = stExhausted then (otpFault s r 2 2 0 0 3 0, stFault)
      else (s, st)

/-- OTP_UDS (R336). -/
def execOtpUds (h : LdId) (burns : List Burn) (s : State) : Out :=
  runCmd s h { row := 0x603 * 256, modes := [.provision], len := fixedLen 0, role := loaderOnly } fun s _ _ =>
    if otpClosed s h ≠ 0 then .done s (otpClosed s h) []
    else if !(List.range 8).all (fun i => decide (effNormal s (8 + i) = 0 ∧ effStrict s (8 + i) = 0)) then .done s stDenied []
    else
      let (s, st) := startBurn s 2
      if st ≠ 0 then .done s st []
      else
        match drawUds 8 s with
        | (s, .error st) => .done s st []
        | (s, .ok bytes) =>
          let rows := (List.range 8).map fun i => (8 + i, BitVec.ofNat 32 (leAt (4 * i) 4 bytes))
          let (s, st) := burnUds burns rows 0 s
          if st ≠ stOk then .done s st []
          else
            let s := { s with keys := { s.keys with uds := some (rootNow s) } }
            .done (deriveFromUds s) stOk []

/-- The value digest of a region (R330): over its shadow values; for ROOT over its rows on the Ridge path. -/
def regionDigest (s : State) (r : Fin 5) : List Byte :=
  let v := if r = 1 then bytesOf 32 (rootNow s) else shadowBytes s (lockRange r).1 (lockRange r).2
  (bytesOf 48 (Config.sha384 v)).take 16

/-- Status of a region set. -/
def setRegion (s : State) (r : Fin 5) (x : RegionStatus) : State :=
  { s with otp := { s.otp with status := s.otp.status.set r.val x r.isLt } }

/-- The slot of a region matches its digest at NORMAL (R330). -/
def slotMatches (s : State) (r : Fin 5) (k : Nat) (d : List Byte) : Bool :=
  decide ((slotRows r k).flatMap (fun x => bytesOf 4 (otpNormal s ((burnSpare s x).getD x))) = d)

/-- The region's lock bits programmed; a word that fails is recorded, and the region is LOCKED all the same (R327, R330). -/
def lockBits (s : State) (r : Fin 5) (b : Burn) : State :=
  let want := effNormal s 362 ||| (0xF#32 <<< (4 * r.val))
  let (s, out) := programWord s 362 want b
  if out.st = stFault then otpFault s 362 8 3 want.toNat out.strict.toNat 0 out.pulses else s

/-- OTP_FINALISE (R330, R436). -/
def execOtpFinalise (h : LdId) (burns : List Burn) (s : State) : Out :=
  runCmd s h { row := 0x604 * 256, modes := [.provision], len := fixedLen 4, role := loaderOnly
               range := fun _ m => decide (m.arg 0 1 ≤ 4) } fun s m _ =>
    let r : Fin 5 := Fin.ofNat 5 (m.arg 0 1)
    let st := regionStatus s r
    if !m.zero 1 3 then .done s stBadArg []
    else if otpClosed s h ≠ 0 then .done s (otpClosed s h) []
    else if st = .locked then .done s stOk (leBytes 1 st.code)
    else if st = .fault then .done s stDenied []
    else if r = 1 ∧ rootNow s = 0 then .done s stBadArg []
    else
      let (s, e) := startBurn s 3
      if e ≠ 0 then .done s e []
      else
        let d := regionDigest s r
        let k := if st = .unfinalised then 0 else 1
        let words := (slotRows r k).zipIdx.map fun (x, i) => (x, BitVec.ofNat 32 (leAt (4 * i) 4 d))
        let (s, e) := programRun 3 burns words 0 s
        let s := if e = stOk then lockBits s r (burnAt burns 4) else s
        let after : RegionStatus := if slotMatches s r k d then .locked else if k = 0 then .retry else .fault
        let s := setRegion s r after
        if e = stOk then .done s stOk (leBytes 1 after.code) else .done s stFault []

/-- OTP_LIFECYCLE (R320, R336). -/
def execOtpLifecycle (h : LdId) (burns : List Burn) (s : State) : Out :=
  runCmd s h { row := 0x605 * 256, modes := [.provision], len := fixedLen 4, role := loaderOnly } fun s m _ =>
    if !confirmed m "PROV" then .done s stBadArg []
    else if otpClosed s h ≠ 0 then .done s (otpClosed s h) []
    else if s.otp.lifecycle ≠ .blank ∨ regionStatus s 0 ≠ .locked ∨ regionStatus s 1 ≠ .locked ∨ regionStatus s 2 ≠ .locked
    then .done s stDenied []
    else
      let (s, st) := startBurn s 4
      if st ≠ 0 then .done s st []
      else
        let (s, st) := programRun 4 burns [(1, BitVec.allOnes 32)] 0 s
        let s := updateLifecycle s
        .done { s with otp := { s.otp with lcBurned := true } } st []

/-- The owner, or in PROVISION the loader (R329). -/
def burnRole (s : State) (h : LdId) : Bool := if s.gmode.mode = .provision then isLoader s h else isOwner s h

/-- OTP_REVOKE (R321, R329). -/
def execOtpRevoke (h : LdId) (burns : List Burn) (s : State) : Out :=
  runCmd s h { row := 0x606 * 256, modes := burnModes, len := fixedLen 4, role := burnRole
               range := fun _ m => decide (m.arg 0 1 ≤ 15) } fun s m _ =>
    let i := m.arg 0 1
    if !m.zero 1 3 then .done s stBadArg []
    else if otpClosed s h ≠ 0 then .done s (otpClosed s h) []
    else if revoked s i then .done s stOk []
    else
      let (s, st) := startBurn s 5
      if st ≠ 0 then .done s st []
      else
        let (s, st) := programRun 5 burns [(208 + i, BitVec.allOnes 32)] 0 s
        .done (if revoked s i then fuseMove s 0 i 1 0 else s) st []

/-- OTP_REPAIR (R331, R332): a re-pulse changes no shadow (R326). -/
def execOtpRepair (h : LdId) (burns : List Burn) (s : State) : Out :=
  runCmd s h { row := 0x607 * 256, modes := burnModes, len := fixedLen 4, role := burnRole } fun s m _ =>
    let row := m.arg 0 2
    let region := rowRegion row
    if !m.zero 2 2 then .done s stBadArg []
    else if otpClosed s h ≠ 0 then .done s (otpClosed s h) []
    else if zeroRow row ∨ 2048 ≤ row ∨ row ∉ s.otp.marginal then .done s stBadArg []
    else if region = 8 ∨ region = 9 then .done s stDenied []
    else
      let locked : Bool := match lockOf region with
        | some l => decide (regionStatus s l ≠ .unfinalised)
        | none => false
      if locked || decide (region = 2 ∧ s.gmode.mode ≠ .provision) then .done s stDenied []
      else
        let (s, st) := startBurn s 7
        if st ≠ 0 then .done s st []
        else
          let monotonic := decide ((lockOf region).isNone)
          let (s, out) :=
            if monotonic then
              let (t, out) := programWord s row (effNormal s row) (burnAt burns 0)
              let t := { t with otp := { t.otp with shadow := s.otp.shadow } }
              (if out.st = stFault then otpFault t row region 7 (effNormal s row).toNat out.strict.toNat 0 out.pulses else t, out)
            else (s, { st := stFault, pulses := 0, strict := 0 })
          let still := !monotonic || marginalRow s row
          if monotonic && !still then .done s out.st [0xFF]
          else
            let v := if rootRow row then effNormal s row else shadowRow s row
            let (s, st, e) := redirectRow s 7 row v (burnAt burns 1) (burnAt burns 2)
            .done s st [BitVec.ofNat 8 e]

/-! ### Re-sense (R333) -/

/-- A re-sense starts. -/
def startSense (s : State) (pass : Nat) : State :=
  { s with otp := { s.otp with busy := true, lastPass := BitVec.ofNat 2 pass } }

/-- OTP_RESENSE (R329, R333): completes when the re-sense ends. -/
def execOtpResense (h : LdId) (s : State) : Out :=
  runCmd s h { row := 0x608 * 256, modes := [.serve, .doze, .maintain, .barren], len := fixedLen 0, role := ownerOnly }
    fun s _ _ =>
    if otpBusy s h then .done s stBusy []
    else
      let s := startSense s 3
      .wait { s with otp := { s.otp with senser := some h } }

/-- 24 operating hours have passed since the last sense. -/
def senseDue (s : State) : Bool := decide (24 * 256 ≤ s.attic.hours - s.otp.senseHours)

/-- A site is 20 °C or more from its reading at the last sense (R333). -/
def tempSwing (s : State) : Bool := s.attic.sites.toList.any fun x => decide (200 ≤ (x.deci - x.atSense).natAbs)

/-- A periodic trigger (R333): it waits while an operation runs. -/
def execResenseTrigger (s : State) : Out :=
  if s.gmode.mode = .cold ∨ !(senseDue s || tempSwing s) then .next s
  else if s.otp.busy then .next { s with otp := { s.otp with senseWaiting := true } }
  else .next (startSense s (if senseDue s then 1 else 2))

/-- A word differs at a re-sense: its STRICT read from its shadow, or from its NORMAL read where no shadow shows it; an SVN row with a
bit below the highest that reads 0 stays marginal (R322). -/
def senseDiffers (s : State) (r : Nat) : Bool :=
  let hidden := rootRow r || zeroRow r || decide (1984 ≤ r) ||
    match rowLock r with
    | some l => decide (regionStatus s l = .fault ∨ regionStatus s l = .retry)
    | none => false
  if hidden then marginalRow s r else decide (effStrict s r ≠ shadowRow s r) || svnHole s r

/-- A re-sense ends (R333): new differences are reported, counts updated, no shadow changed; a trigger that waited starts another where
its condition still holds against the new readings. -/
def execResenseDone (drift : List OtpRead) (s : State) : Out :=
  inOneCycle s <|
  if !s.otp.busy then .next s
  else
    let s := applyReads s drift
    let diff := (List.range 2112).filter fun r => senseDiffers s r && !spareInEffect s r
    let new := diff.filter (· ∉ s.otp.marginal)
    let pass := s.otp.lastPass.toNat
    let s := new.foldl (fun s r => marginalEvent s r pass (effNormal s r) (effStrict s r) 3) s
    let h := s.otp.senser
    let again := s.otp.senseWaiting
    let s := { s with
      otp := { s.otp with
        busy := false, marginal := diff, marginalResense := diff.length, senseHours := s.attic.hours, senser := none
        senseWaiting := false }
      attic := { s.attic with sites := s.attic.sites.map fun x => { x with atSense := x.deci } } }
    let s := match h with
      | some h => finish s h stOk []
      | none => s
    .next (if again && (senseDue s || tempSwing s) then startSense s (if senseDue s then 1 else 2) else s)

end Sys2Proof.Machine
end

