-- ==== Sys2Proof/Machine/Registers.lean ====
section
/-! DEFINITION. Accesses to BAR0: the map and its blocks, reads with their RC fields, writes by byte enables (R14, R397, R398,
R416, R461 to R463, R477, R506 to R516), and the doorbell (R417, R418). -/

namespace Sys2Proof.Machine

open Sys2Proof

/-! ### The map (R510, R511) -/

/-- A block of BAR0. -/
inductive Block where
  | global
  | tile (t : TileId)
  | mailbox
  | events
  | msixTable
  | msixPending
  | ridge
  | config
  deriving DecidableEq, Repr

/-- Where the model numbers the function's configuration space: after the 32 MiB of BAR0 (DESIGN CHOICE, log entry 54). -/
def configBase : Nat := 0x2000000

/-- The block a BAR0 address of function `f` lies in, with its base and size; only its own mailbox is mapped (R397, R511). -/
def blockAt (f : LdId) (a : Nat) : Option (Block × Nat × Nat) :=
  let own := 0x200000 + 0x4000 * f.val
  if a < 0x100000 then some (.global, 0, 0x100000)
  else if a < 0x120000 then
    some (.tile (Fin.ofNat 32 ((a - 0x100000) / 0x1000)), a / 0x1000 * 0x1000, 0x1000)
  else if own ≤ a ∧ a < own + 0x4000 then some (.mailbox, own, 0x4000)
  else if 0x300000 ≤ a ∧ a < 0x341000 then some (.events, 0x300000, 0x41000)
  else if 0x400000 ≤ a ∧ a < 0x400400 then some (.msixTable, 0x400000, 0x400)
  else if 0x408000 ≤ a ∧ a < 0x408008 then some (.msixPending, 0x408000, 8)
  else if 0x500000 ≤ a ∧ a < 0x505000 then some (.ridge, 0x500000, 0x5000)
  else if configBase ≤ a ∧ a < configBase + 0x1000 then some (.config, configBase, 0x1000)
  else none

/-- An access of the function ran past its block, or fell on a region not mapped for it (R510, R513). -/
def noteOverrun (s : State) (f : LdId) (past : Bool) : State :=
  s.modFn f fun e =>
    { e with addrOver := e.addrOver || past, unmapped := e.unmapped || !past, overruns := satInc 0xFFFF e.overruns }

/-! ### Words as a read returns them -/

/-- Word of the global block at an offset (R512). -/
def globalWord (s : State) (f : LdId) (off : Nat) : Word :=
  match off with
  | 0x000 => gId | 0x004 => gFeature s | 0x008 => gMode s | 0x00C => gIssue
  | 0x010 => BitVec.ofNat 32 s.attic.hours | 0x014 => BitVec.ofNat 32 s.attic.cycles
  | 0x020 => gOtpRegion s | 0x024 => gOtpStat s | 0x028 => gKeyStat s
  | 0x030 => s.eng.retired | 0x034 => gEngineStat s | 0x038 => gEntropyStat s
  | 0x040 => gHostStat s | 0x044 => gHeadStat s 0 | 0x048 => gHeadStat s 1 | 0x04C => gHeadStat s 2
  | 0x050 => gHeadStat s 3
  | 0x060 => gMemStat s | 0x064 => gMemErr s | 0x068 => gMemPool s
  | 0x070 => discWord s.purlin.disc | 0x074 => packWord [(0, s.purlin.cfg.toNat)] | 0x078 => gPurlinStat s
  | 0x080 => gTemp s 0 | 0x084 => gTemp s 1 | 0x088 => gVmonStat s | 0x08C => gClkStat s
  | 0x090 => gCalStat s | 0x094 => gCalEaveHi s | 0x098 => gCalSoffit s
  | 0x0A0 => gAccessStat s f
  | _ => 0

/-- M_STATUS (R416). -/
def mStatus (m : Mailbox) : Word :=
  packWord [(0, b01 m.busy), (1, b01 m.done), (2, b01 m.ringIgnored), (3, b01 m.writeIgnored)]

/-- Word of a mailbox block at an offset (R416). -/
def mailboxWord (m : Mailbox) (off : Nat) : Word :=
  if 0x1000 ≤ off ∧ off < 0x3000 then BitVec.ofNat 32 (m.arg (off - 0x1000) 4)
  else match off with
    | 0x00 => packWord [(0, m.opcode.toNat), (16, m.flags.toNat)] | 0x04 => m.length | 0x08 => m.gen
    | 0x0C => packWord [(0, m.tag.toNat)] | 0x10 => packWord [(0, b01 m.go)] | 0x14 => mStatus m
    | 0x18 => packWord [(0, m.compStatus.toNat), (16, m.compTag.toNat)] | 0x1C => m.compLen | 0x20 => m.compGen
    | 0x24 => packWord [(0, m.fill)]
    | _ => 0

/-- G_EVT_PENDi of a function (R462, R477). -/
def evtPend (e : FnEvents) (i : Nat) : Word := (e.pend >>> (32 * i)).setWidth 32

/-- G_EVT_SUMMARY (R477). -/
def evtSummary (e : FnEvents) : Word :=
  packWord ((List.range 16).map fun i => (i, b01 (decide (evtPend e i ≠ 0))))

/-- G_EVT_ROUTEn (R463, R477). -/
def evtRoute (e : FnEvents) (n : Nat) : Word := ofBytes 32 (Memory.read 0xFF e.routes (4 * n) 4)

/-- The bytes of a ring slot; an empty slot has seq 0 (R465), and the spec does not state the rest of it. -/
def ringSlotBytes (s : State) (slot : Nat) : List Byte :=
  match ringAt s.gutter slot with
  | some r => recordBytes r
  | none => leBytes 8 0 ++ (List.range 56).map fun i => Config.ringByte (64 * slot + 8 + i)

/-- G_GUTTER_HEAD, G_GUTTER_LOW and G_GUTTER_JRNL, numbered 0, 1 and 2: the sequence number each shows (R477). -/
def gutterSeq (s : State) (which : Fin 3) : Nat :=
  match which with
  | 0 => match s.gutter.ring with | [] => 0 | _ => s.gutter.seq
  | 1 => ringLow s.gutter
  | 2 => s.gutter.jSeq

/-- The captured HI word of a sequence number (R477). -/
def FnEvents.captured (e : FnEvents) (which : Fin 3) : Option Word :=
  match which with | 0 => e.capHead | 1 => e.capLow | 2 => e.capJrnl

def FnEvents.capture (e : FnEvents) (which : Fin 3) (v : Option Word) : FnEvents :=
  match which with
  | 0 => { e with capHead := v }
  | 1 => { e with capLow := v }
  | 2 => { e with capJrnl := v }

/-- Which sequence number an event-window offset from 0x48 to 0x5F shows, and whether it is the HI word. -/
def seqOffset (off : Nat) : Option (Fin 3 × Bool) :=
  if 0x48 ≤ off ∧ off < 0x60 then some (Fin.ofNat 3 ((off - 0x48) / 8), decide (off % 8 = 4)) else none

/-- Word of the event window at an offset (R477). -/
def eventWord (s : State) (f : LdId) (off : Nat) : Word :=
  let e := s.fn f
  if off < 0x40 then evtPend e (off / 4)
  else if off = 0x40 then evtSummary e
  else if off = 0x44 then packWord [(0, e.quarter.toNat)]
  else if off = 0x60 then gGutterStat s
  else if off = 0x64 then BitVec.ofNat 32 s.gutter.drops
  else if 0x200 ≤ off ∧ off < 0x400 then evtRoute e ((off - 0x200) / 4)
  else if 0x1000 ≤ off then
    ofBytes 32 (slice (off % 64) 4 (ringSlotBytes s (4096 * e.quarter.toNat + (off - 0x1000) / 64)))
  else match seqOffset off with
    | some (w, hi) => if hi then (e.captured w).getD (Rows.seqWord (gutterSeq s w) true) else Rows.seqWord (gutterSeq s w) false
    | none => 0

/-- Word of the MSI-X table: message address, message data and vector control of a vector (R398). -/
def msixWord (e : FnEvents) (off : Nat) : Word :=
  let v := off / 16
  if off % 16 = 12 then packWord [(0, b01 (e.vecMask.getLsbD v))]
  else ((Sparse.get 0 e.msgAddr v) >>> (8 * (off % 16))).setWidth 32

/-- Word of the function's configuration space (R397, R398): a type 0 header with the identity, the class code and the two 64-bit
non-prefetchable BARs of R397, and the MSI-X capability of R398 at 0x40, with 64 vectors, its table and its pending-bit array in BAR0
(PRESUMED, log entry 54). What the spec leaves to PCIe and CXL 3.1, the DVSECs among it, is a constant of the part. -/
def configWord (e : FnEvents) (off : Nat) : Word :=
  match off with
  | 0x00 => packWord [(0, Config.vendorId.toNat), (16, 0x3216)]
  | 0x08 => packWord [(0, (Config.configByte 8).toNat), (8, 0x050210)]
  | 0x10 => (e.bars.1.setWidth 32) ||| 4#32
  | 0x14 => (e.bars.1 >>> 32).setWidth 32
  | 0x18 => (e.bars.2.setWidth 32) ||| 4#32
  | 0x1C => (e.bars.2 >>> 32).setWidth 32
  | 0x34 => packWord [(0, 0x40)]
  | 0x40 => packWord [(0, 0x11), (16, 63), (30, b01 e.msixMask), (31, b01 e.msixOn)]
  | 0x44 => 0x00400000#32
  | 0x48 => 0x00408000#32
  | _ => ofBytes 32 ((List.range 4).map fun i => Config.configByte (off + i))

/-- The word at offset `off` of a block. -/
def blockWord (s : State) (f : LdId) (b : Block) (off : Nat) : Word :=
  match b with
  | .global => globalWord s f off
  | .tile t => tileWord s t (off / 4)
  | .mailbox => mailboxWord (s.mb f) off
  | .events => eventWord s f off
  | .msixTable => msixWord (s.fn f) off
  | .msixPending => ((s.fn f).pending >>> (8 * off)).setWidth 32
  | .ridge => ofBytes 32 (slice (off % 64) 4 (ridgeEntry (s.reg (Fin.ofNat 320 (off / 64)))))
  | .config => configWord (s.fn f) off

/-! ### What a read changes -/

/-- An RC count after a read of its word: zero where the read covers bytes `first` to `last` of it (R507). -/
def rcAfter (lo hi first last n : Nat) : Nat := if lo ≤ first ∧ last < hi then 0 else n

/-- RC fields of the global block cleared by a read of bytes `lo` to `hi - 1` of the word at `off` (R507). -/
def globalClear (s : State) (f : LdId) (off lo hi : Nat) : State :=
  let rc := rcAfter lo hi
  match off with
  | 0x028 => { s with keys := { s.keys with tagFailures := rc 3 3 s.keys.tagFailures } }
  | 0x038 => { s with eng := { s.eng with rct := rc 1 1 s.eng.rct, apt := rc 2 2 s.eng.apt } }
  | 0x044 => s.modHead 0 fun x => { x with downs := rc 2 2 x.downs }
  | 0x048 => s.modHead 1 fun x => { x with downs := rc 2 2 x.downs }
  | 0x04C => s.modHead 2 fun x => { x with downs := rc 2 2 x.downs }
  | 0x050 => s.modHead 3 fun x => { x with downs := rc 2 2 x.downs }
  | 0x064 => { s with memctl := { s.memctl with
      corrected := rc 0 1 s.memctl.corrected, uncorrU := rc 2 2 s.memctl.uncorrU, uncorrS := rc 3 3 s.memctl.uncorrS } }
  | 0x078 => { s with purlin := { s.purlin with
      mapErrors := rc 1 1 s.purlin.mapErrors, errors := rc 2 2 s.purlin.errors } }
  | 0x08C => { s with attic := { s.attic with relocks := rc 2 2 s.attic.relocks } }
  | 0x0A0 => s.modFn f fun e => { e with overruns := rc 2 3 e.overruns }
  | _ => s

/-- RC fields of a tile block cleared by a read (R174, R214, R361, R390, R507). -/
def tileClear (s : State) (t : TileId) (off lo hi : Nat) : State :=
  let rc := rcAfter lo hi
  if fusedOff s t then s
  else match off with
    | 0x024 => s.modTile t fun x => { x with eave := { x.eave with
        readErrors := rc 2 2 x.eave.readErrors, writeErrors := rc 3 3 x.eave.writeErrors } }
    | 0x0A4 => s.modTile t fun x => { x with filter := { x.filter with
        denyCount := rc 0 0 x.filter.denyCount, frameBad := rc 1 1 x.filter.frameBad
        busyIgn := rc 2 2 x.filter.busyIgn, noWel := rc 3 3 x.filter.noWel } }
    | 0x0A8 => s.modTile t fun x => { x with serve := { x.serve with
        underruns := rc 0 1 x.serve.underruns, outside := rc 2 3 x.serve.outside } }
    | 0x0AC => s.modTile t fun x => { x with side := { x.side with
        statBad := rc 1 1 x.side.statBad, statUnder := rc 2 2 x.side.statUnder, statSkips := rc 3 3 x.side.statSkips } }
    | _ => s

/-- A LO read captures the HI word, and the function's next HI read takes the capture (R477, log entry 10). -/
def eventCapture (s : State) (f : LdId) (off : Nat) : State :=
  match seqOffset off with
  | some (w, hi) => s.modFn f fun e => e.capture w (if hi then none else some (Rows.seqWord (gutterSeq s w) true))
  | none => s

/-- What a read of bytes `lo` to `hi - 1` of a word changes. -/
def afterRead (s : State) (f : LdId) (b : Block) (off lo hi : Nat) : State :=
  match b with
  | .global => globalClear s f off lo hi
  | .tile t => tileClear s t off lo hi
  | .events => eventCapture s f off
  | _ => s

/-- `n` bytes read from offset `off` of a block, word by word in ascending order; `words` bounds the words. -/
def barBytes (f : LdId) (b : Block) : Nat → Nat → Nat → State → State × List Byte
  | 0, _, _, s => (s, [])
  | _, _, 0, s => (s, [])
  | words + 1, off, n, s =>
    let lo := off % 4
    let k := min n (4 - lo)
    let bytes := slice lo k (bytesOf 4 (blockWord s f b (off - lo)))
    let r := barBytes f b words (off + k) (n - k) (afterRead s f b (off - lo) lo (lo + k))
    (r.1, bytes ++ r.2)

/-- A read of BAR0 (R14, R397, R506, R507, R510): what lies past the block, or is not mapped, reads zero. -/
def barRead (s : State) (f : LdId) (a n : Nat) : State :=
  match blockAt f a with
  | none => (noteOverrun s f false).respond (List.replicate n 0) 0
  | some (b, base, size) =>
    let k := min n (base + size - a)
    let r := barBytes f b (k + 1) (a - base) k s
    let s := if k < n then noteOverrun r.1 f true else r.1
    s.respond (r.2 ++ List.replicate (n - k) 0) 0

/-! ### Writes -/

/-- The pending message of a vector that nothing masks any more is sent (R463). -/
def sendPending (s : State) (f : LdId) (v : Nat) : State :=
  let e := s.fn f
  if e.pending.getLsbD v && !e.vecMask.getLsbD v && !e.msixHeld then
    sendMsg (s.modFn f fun e => { e with pending := putBit e.pending v false }) f v
  else s

/-- A mask bit is removed: a pending message of the vector is sent, unless the function's MSI-X as a whole is masked (R463). -/
def unmask (s : State) (f : LdId) (v : Nat) : State :=
  sendPending (s.modFn f fun e => { e with vecMask := putBit e.vecMask v false }) f v

/-- The enable and the function mask of MSI-X written: what waits of the vectors not masked is sent (R463). -/
def setMsix (s : State) (f : LdId) (on mask : Bool) : State :=
  (List.range 64).foldl (fun s v => sendPending s f v) (s.modFn f fun e => { e with msixOn := on, msixMask := mask })

/-- Byte `k` of a word replaced. -/
def setByte {w : Nat} (x : BitVec w) (k : Nat) (b : Byte) : BitVec w :=
  (x &&& ~~~(0xFF#w <<< (8 * k))) ||| (b.setWidth w <<< (8 * k))

/-- A byte of the MSI-X table (R398). -/
def writeMsix (s : State) (f : LdId) (off : Nat) (b : Byte) : State :=
  let v := off / 16
  if off % 16 < 12 then
    s.modFn f fun e => { e with msgAddr := Sparse.set 0 e.msgAddr v (setByte (Sparse.get 0 e.msgAddr v) (off % 16) b) }
  else if off % 16 = 12 then
    if bitOf b 0 then s.modFn f fun e => { e with vecMask := putBit e.vecMask v true } else unmask s f v
  else s

/-- A byte of configuration space: the BARs, 32 MiB and 64 KiB in size (R397), and the MSI-X control. -/
def writeConfig (s : State) (f : LdId) (off : Nat) (b : Byte) : State :=
  if 0x10 ≤ off ∧ off < 0x18 then
    s.modFn f fun e => { e with bars := (setByte e.bars.1 (off - 0x10) b &&& ~~~0x1FFFFFF#64, e.bars.2) }
  else if 0x18 ≤ off ∧ off < 0x20 then
    s.modFn f fun e => { e with bars := (e.bars.1, setByte e.bars.2 (off - 0x18) b &&& ~~~0xFFFF#64) }
  else if off = 0x43 then setMsix s f (bitOf b 7) (bitOf b 6)
  else s

/-- A byte of the header or payload (R416, R417, R419): discarded while busy; a payload byte advances fill. -/
def writeRequest (m : Mailbox) (off : Nat) (b : Byte) : Mailbox :=
  if m.busy then { m with writeIgnored := true }
  else if 0x1000 ≤ off then
    { m with payload := Sparse.set 0 m.payload (off - 0x1000) b, fill := max m.fill (off - 0x1000 + 1) }
  else if off < 2 then { m with opcode := setByte m.opcode off b }
  else if off < 4 then { m with flags := setByte m.flags (off - 2) b }
  else if off < 8 then { m with length := setByte m.length (off - 4) b }
  else if off < 0xC then { m with gen := setByte m.gen (off - 8) b }
  else if off < 0xE then { m with tag := setByte m.tag (off - 0xC) b }
  else m

/-- The RW1C bits of M_STATUS (R416). -/
def clearStatus (m : Mailbox) (b : Byte) : Mailbox :=
  { m with
    done := m.done && !bitOf b 1, ringIgnored := m.ringIgnored && !bitOf b 2
    writeIgnored := m.writeIgnored && !bitOf b 3 }

/-- A byte of the function's own mailbox (R416 to R418). -/
def writeMailbox (s : State) (f : LdId) (off : Nat) (b : Byte) : State :=
  if off < 0x10 ∨ (0x1000 ≤ off ∧ off < 0x3000) then s.modMb f fun m => writeRequest m off b
  else if off = 0x10 then (if bitOf b 0 then ring s f else s)
  else if off = 0x14 then s.modMb f fun m => clearStatus m b
  else s

/-- The RW1C bits of G_ACCESS_STAT; payload_busy is M_STATUS.write_ignored (R513). -/
def clearAccess (s : State) (f : LdId) (b : Byte) : State :=
  let s := s.modFn f fun e => { e with addrOver := e.addrOver && !bitOf b 0, unmapped := e.unmapped && !bitOf b 1 }
  s.modMb f fun m => { m with writeIgnored := m.writeIgnored && !bitOf b 2 }

/-- Latches of a function cleared by a mask over the 512 sources (R462). -/
def clearPend (s : State) (f : LdId) (mask : BitVec 512) : State := s.modFn f fun e => { e with pend := e.pend &&& ~~~mask }

/-- One enabled byte written at offset `off` of a block; RO and RSVD fields ignore it (R12, R508). -/
def writeByte (s : State) (f : LdId) (blk : Block) (off : Nat) (b : Byte) : State :=
  match blk with
  | .global => if off = 0xA0 then clearAccess s f b else s
  | .mailbox => writeMailbox s f off b
  | .events =>
    if off < 0x40 then clearPend s f (b.setWidth 512 <<< (8 * off))
    else if off = 0x44 then s.modFn f fun e => { e with quarter := b.setWidth 2 }
    else s
  | .msixTable => writeMsix s f off b
  | .config => writeConfig s f off b
  | .tile _ | .msixPending | .ridge => s

/-- A write within one aligned 8-byte unit acts in one cycle, so a doorbell in it rings after the rest; a longer one goes word
by word (R506, R508). -/
def doorbellLast (blk : Block) (off n : Nat) (bs : List (Nat × Byte)) : List (Nat × Byte) :=
  if blk = .mailbox ∧ off % 8 + n ≤ 8 then bs.filter (fun c => decide (c.1 ≠ 0x10)) ++ bs.filter (fun c => decide (c.1 = 0x10))
  else bs

/-- A write of BAR0, with its byte enables (R14, R397, R506, R508, R510). -/
def barWrite (s : State) (f : LdId) (a : Nat) (bytes : List (Option Byte)) : State :=
  match blockAt f a with
  | none => noteOverrun s f false
  | some (b, base, size) =>
    let k := min bytes.length (base + size - a)
    let enabled := ((bytes.take k).zipIdx (a - base)).filterMap fun (x, o) => x.map fun v => (o, v)
    let s := (doorbellLast b (a - base) bytes.length enabled).foldl (fun s c => writeByte s f b c.1 c.2) s
    if k < bytes.length then noteOverrun s f true else s

/-! ### The commands -/

/-- DOORBELL (R417). -/
def execDoorbell (h : LdId) (s : State) : Out := .next (ring s h)

/-- DOORBELL_WHILE_BUSY (R418). -/
def execDoorbellWhileBusy (h : LdId) (s : State) : Out :=
  if (s.mb h).busy then .next (s.modMb h fun m => { m with ringIgnored := true }) else .next s

/-- MAILBOX_WRITE_WHILE_BUSY (R417): a write to the header or payload, discarded. -/
def execMailboxWriteWhileBusy (h : LdId) (offset : Nat) (bytes : List Byte) (s : State) : Out :=
  let hit := (List.range bytes.length).any fun i =>
    decide (offset + i < 0x10 ∨ (0x1000 ≤ offset + i ∧ offset + i < 0x3000))
  if (s.mb h).busy && hit then .next (s.modMb h fun m => { m with writeIgnored := true }) else .next s

/-- EVT_PEND_CLEAR (R462). -/
def execEvtPendClear (f : LdId) (word : Fin 16) (mask : Word) (s : State) : Out :=
  .next (clearPend s f (mask.setWidth 512 <<< (32 * word.val)))

/-- MSIX_UNMASK (R463). -/
def execMsixUnmask (f : LdId) (vec : Fin 64) (s : State) : Out := .next (unmask s f vec.val)

/-- RC_READ (R507): a read of BAR0, with the RC fields it covers. -/
def execRcRead (f : LdId) (addr len : Nat) (s : State) : Out := .next (barRead s f addr len)

/-- GUTTER_LO_READ (R477): 0 HEAD, 1 LOW, 2 JRNL. -/
def execGutterLoRead (f : LdId) (which : Fin 3) (s : State) : Out := .next (barRead s f (0x300048 + 8 * which.val) 4)

/-- BAR_ACCESS_OVERRUN (R14, R510): the read that runs past its block or falls on a region not mapped. -/
def execBarAccessOverrun (f : LdId) (addr len : Nat) (s : State) : Out := .next (barRead s f addr len)

/-- A write by the Loft: of the registers it has no row for, it writes G_PURLIN_CFG (R361); every other field ignores it (R508). -/
def loftWrite (s : State) (addr : Nat) (bytes : List (Option Byte)) : State :=
  match if addr ≤ 0x74 then (bytes.drop (0x74 - addr)).head? else none with
  | some (some b) => { s with purlin := { s.purlin with cfg := b.setWidth 4 } }
  | _ => s

/-- REGISTER_WRITE (R508), by a function, or with none by the Loft. -/
def execRegisterWrite (f : Option LdId) (addr : Nat) (bytes : List (Option Byte)) (s : State) : Out :=
  inOneCycle s <| .next (match f with | some f => barWrite s f addr bytes | none => loftWrite s addr bytes)

end Sys2Proof.Machine
end

