-- ==== Sys2Proof/Machine/Startup.lean ====
section
/-! DEFINITION. The commands of power and start-up: the COLD sequence and loss of power (R41 to R45, R70). A command whose
moment has not come finds nothing to do: the state does not change. -/

namespace Sys2Proof.Machine

open Sys2Proof

/-- VDD_AON is applied (R41 step 1, R491): the Attic domain starts on its RC, the counters from zero. -/
def execVddAonOn (s : State) : Out :=
  inOneCycle s <|
  if s.boot.vddAon then .next s
  else
    let n := keepStored s State.reset
    .next { n with
      boot := { n.boot with vddAon := true, phase := .attic }
      attic := { n.attic with cycles := 1, countersFresh := true } }

/-- VDD_AON falls out of range (R70): every domain loses its state. -/
def execVddAonLoss (s : State) : Out := inOneCycle s <| .next (keepStored s State.reset)

/-- Every supply is within range (R37, R41): the device is in COLD, with cause POWER_ON, or SUPPLY after a supply
action. -/
def execSuppliesInRange (s : State) : Out :=
  inOneCycle s <|
  if !s.boot.vddAon || s.boot.suppliesOk then .next s
  else
    let t := { s with boot := { s.boot with suppliesOk := true } }
    if s.boot.phase = .supplyStop then
      .next (enterCold (countCycle t) s.gmode.prev .supply)
    else .next (enterCold t .cold .powerOn)

/-- t_POR expires (R41 step 2, R393, R490, R496): straps and banks are sampled, a crystal in range is taken. -/
def execPorExpiry (straps : BitVec 2) (crystal : Bool) (bank3v3 : BitVec 4) (s : State) : Out :=
  if s.boot.phase ≠ .por then .next s
  else
    let s := setBifurcation s straps
    .next { s with
      boot := { s.boot with phase := .pll }
      attic := { s.attic with crystal := crystal, bank3v3 := bank3v3 } }

/-- The FABRIC, LOFT, EAVE and SPAR PLLs lock (R41 steps 2 and 3): pair A starts the boot ROM. -/
def execPllLock (s : State) : Out :=
  if s.boot.phase ≠ .pll then .next s
  else
    .next { s with
      boot := { s.boot with phase := .sram }
      attic := { s.attic with locked := s.attic.locked ||| 0xF#5 }
      loft := { s.loft with run := .bootRom } }

/-- Every SRAM line is written and the lanes have run their known-answer tests (R277); the OTP array is sensed (R41 step 4,
R323) and the feature set is put in force (R1 to R6, R394). -/
def execSramInitDone (katFail : List Nat) (drift : List OtpRead) (s : State) : Out :=
  inOneCycle s <|
  if s.boot.phase ≠ .sram then .next s
  else
    let s := retireLanes s 3 0xFF (katFail.map fun l => (l, 0xFF))
    let s := senseOtp s drift
    let s := setBifurcation s s.host.straps
    let s := { s with
      boot := { s.boot with phase := .sense }
      tiles := Vector.ofFn fun t : Fin 32 =>
        let x := s.tile t
        if fusedOff s t then { x with ctl := { x.ctl with state := .absent, rstHeld := true } } else x }
    .next s

/-- The Ridge domain is powered from the end of sensing, whether or not its PLL locks (R18, R20): registers 0 and 2 are extended and the
keys of COLD step 5 derived (R32, R242, R304, R309, R473). -/
def execOtpSenseDone (romDigest : Digest) (ridgeLocks : Bool) (s : State) : Out :=
  inOneCycle s <|
  if s.boot.phase ≠ .sense then .next s
  else
    let s := { s with boot := { s.boot with
      phase := .ridge, romDigest := romDigest, romMatch := decide (romDigest = Config.ridgeRomRef) } }
    let s := { s with ridge := { s.ridge with powered := true } }
    if !ridgeLocks then .next { s with boot := { s.boot with ridgeHeld := true } }
    else
      let s := releaseRidge { s with attic := { s.attic with locked := s.attic.locked ||| 0x10#5 } }
      let s := extendReg s 0 1 0 0 romDigest
      let s := extendReg s 2 1 0 0 (Config.sha384 (otpConfigRecord s))
      let s := coldKeys s
      let s := if s.gmode.barren then generateOwnerKey s
        else if s.keys.uds.isSome then deriveFromUds s else s
      .next (deriveJournalKey s)

/-- The Ridge ROM check is done: the boot ROM measures itself and makes the start-up decision (R41 step 6, R43); `burns`: those
it repeats where COLD ends in DEPOT (R67). -/
def execRidgeRomChecked (burns : List Burn) (s : State) : Out :=
  inOneCycle s <|
  if s.boot.phase ≠ .ridge then .next s
  else
    let s := extendReg s 1 2 0 0 Config.bootRomId
    .next (endCold { s with boot := { s.boot with
      phase := .decided, decision := some (decide43 s s.boot.romMatch (s.attic.locked.getLsbD 4)) } } burns)

/-- The COLD phases in which step 7 may end; it runs on where the Loft has stopped (R41, R533). -/
def trainingPhase (p : ColdPhase) : Bool :=
  decide (p = .pll ∨ p = .sram ∨ p = .sense ∨ p = .ridge ∨ p = .decided ∨ p = .ended)

/-- Underlay training ends (R41 step 7): channels, Purlin discovery within the 100 MHz limit and, once
the trims are applied, in the profile of the trimmed port (R344, R360), calibration (R501), recorder mode (R468,
R470), and the owner configuration's read (R407); `burns` as for RIDGE_ROM_CHECKED. -/
def execUnderlayTrained (channels : BitVec 8) (answer : FlashAnswer) (sig : RafterRun) (burns : List Burn) (s : State) : Out :=
  inOneCycle s <|
  if !trainingPhase s.boot.phase || s.boot.underlayDone then .next s
  else
    let up := decide ((discover false 0 none answer).result.val = 0)
    let s := { s with
      memctl := { s.memctl with channelUp := channels }
      purlin := { s.purlin with disc := some (discover false 0 none answer), state := if up then 1 else 0 }
      boot := { s.boot with underlayDone := true, ownerRun := if up then some sig else none } }
    let s := if up then s else purlinFault s 0 (discover false 0 none answer).result.val 0xFF 0xFFFFFFFF 0
    let s := applyCal s
    let s := { s with purlin := { s.purlin with disc := some (discoverOn s 32 none answer) } }
    let s :=
      if up then { s with gutter := { s.gutter with overwrite := false, jState := 0 } }
      else
        let s := { s with gutter := { s.gutter with
          overwrite := true, jState := 3, started := true, seq := s.attic.keptSeq, mac := 0, verdict := 5 } }
        note s 0x01 1 0xFF (payload [(0, 1, 5)])
    .next (endCold s burns)

/-- A supply falls below its warning threshold (R70). -/
def execSupplyWarning (s : State) : Out := inOneCycle s <| if running s then .next (supplyStop s) else .next s

end Sys2Proof.Machine
end

