-- ==== Sys2Proof/Machine/Dispatch.lean ====
section
/-! DEFINITION. One arm per command (R16): each calls the command's meaning. -/

namespace Sys2Proof.Machine

open Sys2Proof

def exec (i : Instr) (s : State) : Host.Outcome State Fault Refusal :=
  match i with
  | .vddAonOn => Sys2Proof.Machine.execVddAonOn s
  | .vddAonLoss => Sys2Proof.Machine.execVddAonLoss s
  | .suppliesInRange => Sys2Proof.Machine.execSuppliesInRange s
  | .porExpiry straps crystal bank3v3 => Sys2Proof.Machine.execPorExpiry straps crystal bank3v3 s
  | .pllLock => Sys2Proof.Machine.execPllLock s
  | .sramInitDone katFail drift => Sys2Proof.Machine.execSramInitDone katFail drift s
  | .otpSenseDone romDigest ridgeLocks => Sys2Proof.Machine.execOtpSenseDone romDigest ridgeLocks s
  | .ridgeRomChecked burns => Sys2Proof.Machine.execRidgeRomChecked burns s
  | .underlayTrained channels purlin sig burns => Sys2Proof.Machine.execUnderlayTrained channels purlin sig burns s
  | .gateMaxExpiry => Sys2Proof.Machine.execGateMaxExpiry s
  | .awaitWindowExpiry => Sys2Proof.Machine.execAwaitWindowExpiry s
  | .purlinFwLoadDone readOk sig runs => Sys2Proof.Machine.execPurlinFwLoadDone readOk sig runs s
  | .fwClaim h => Sys2Proof.Machine.execFwClaim h s
  | .fwManifest h sig => Sys2Proof.Machine.execFwManifest h sig s
  | .fwTree h runs => Sys2Proof.Machine.execFwTree h runs s
  | .fwBlock h run => Sys2Proof.Machine.execFwBlock h run s
  | .fwStatus h => Sys2Proof.Machine.execFwStatus h s
  | .fwAbort h => Sys2Proof.Machine.execFwAbort h s
  | .fwActivate h => Sys2Proof.Machine.execFwActivate h s
  | .fwWindow h => Sys2Proof.Machine.execFwWindow h s
  | .fwSvnCommit h burns => Sys2Proof.Machine.execFwSvnCommit h burns s
  | .fwPurlinStore h readBackOk => Sys2Proof.Machine.execFwPurlinStore h readBackOk s
  | .imvonReady => Sys2Proof.Machine.execImvonReady s
  | .fwReadyTimeout => Sys2Proof.Machine.execFwReadyTimeout s
  | .loadIdleExpiry => Sys2Proof.Machine.execLoadIdleExpiry s
  | .lockstepMismatch => Sys2Proof.Machine.execLockstepMismatch s
  | .takeoverEnd us => Sys2Proof.Machine.execTakeoverEnd us s
  | .dozeHoldExpiry => Sys2Proof.Machine.execDozeHoldExpiry s
  | .dozeWake => Sys2Proof.Machine.execDozeWake s
  | .supplyWarning => Sys2Proof.Machine.execSupplyWarning s
  | .ridgePllLoss => Sys2Proof.Machine.execRidgePllLoss s
  | .ridgeRelockResult locked => Sys2Proof.Machine.execRidgeRelockResult locked s
  | .pllLockLoss pll => Sys2Proof.Machine.execPllLockLoss pll s
  | .pllRelockResult pll locked us => Sys2Proof.Machine.execPllRelockResult pll locked us s
  | .crystalLoss => Sys2Proof.Machine.execCrystalLoss s
  | .tempSample site deci => Sys2Proof.Machine.execTempSample site deci s
  | .vmonCrossing mon mv => Sys2Proof.Machine.execVmonCrossing mon mv s
  | .hoursTick => Sys2Proof.Machine.execHoursTick s
  | .deviceStatus h => Sys2Proof.Machine.execDeviceStatus h s
  | .deviceReset h => Sys2Proof.Machine.execDeviceReset h s
  | .deviceDoze h => Sys2Proof.Machine.execDeviceDoze h s
  | .deviceWake h => Sys2Proof.Machine.execDeviceWake h s
  | .deviceTrial h => Sys2Proof.Machine.execDeviceTrial h s
  | .deviceLockdown h => Sys2Proof.Machine.execDeviceLockdown h s
  | .deviceDepot h burns => Sys2Proof.Machine.execDeviceDepot h burns s
  | .deviceOwnerCfg h sig readBackOk => Sys2Proof.Machine.execDeviceOwnerCfg h sig readBackOk s
  | .tileStatus h => Sys2Proof.Machine.execTileStatus h s
  | .tileEnable h => Sys2Proof.Machine.execTileEnable h s
  | .tileDisable h => Sys2Proof.Machine.execTileDisable h s
  | .tilePowerOn h => Sys2Proof.Machine.execTilePowerOn h s
  | .tilePowerOff h => Sys2Proof.Machine.execTilePowerOff h s
  | .tileFetch h => Sys2Proof.Machine.execTileFetch h s
  | .tileReset h => Sys2Proof.Machine.execTileReset h s
  | .tileRestore h => Sys2Proof.Machine.execTileRestore h s
  | .tilePolicy h lost => Sys2Proof.Machine.execTilePolicy h lost s
  | .tileFilter h lost => Sys2Proof.Machine.execTileFilter h lost s
  | .bankSwitch t => Sys2Proof.Machine.execBankSwitch t s
  | .pwrEnAssert t => Sys2Proof.Machine.execPwrEnAssert t s
  | .pwrOffDelayExpiry t => Sys2Proof.Machine.execPwrOffDelayExpiry t s
  | .pgoodRise t => Sys2Proof.Machine.execPgoodRise t s
  | .pgoodLoss t => Sys2Proof.Machine.execPgoodLoss t s
  | .pgoodTimeout t => Sys2Proof.Machine.execPgoodTimeout t s
  | .pgoodSettled t => Sys2Proof.Machine.execPgoodSettled t s
  | .alertAssert t => Sys2Proof.Machine.execAlertAssert t s
  | .chatterExit t alert => Sys2Proof.Machine.execChatterExit t alert s
  | .alertStuck t => Sys2Proof.Machine.execAlertStuck t s
  | .alertUnstuck t => Sys2Proof.Machine.execAlertUnstuck t s
  | .resetLimitHourEnd t => Sys2Proof.Machine.execResetLimitHourEnd t s
  | .rerelease t => Sys2Proof.Machine.execRerelease t s
  | .release t mirror => Sys2Proof.Machine.execRelease t mirror s
  | .earlyRelease t mirror => Sys2Proof.Machine.execEarlyRelease t mirror s
  | .discoveryDone t main twin twinFitted => Sys2Proof.Machine.execDiscoveryDone t main twin twinFitted s
  | .discoveryRetryExpiry t main twin twinFitted => Sys2Proof.Machine.execDiscoveryRetryExpiry t main twin twinFitted s
  | .selectDone t main twin slotA slotB => Sys2Proof.Machine.execSelectDone t main twin slotA slotB s
  | .manifestReadDone t bytes => Sys2Proof.Machine.execManifestReadDone t bytes s
  | .signatureResult t sig => Sys2Proof.Machine.execSignatureResult t sig s
  | .treeNodeRead t level idx node other runs otherRuns => Sys2Proof.Machine.execTreeNodeRead t level idx node other runs otherRuns s
  | .openStageDone t ranges => Sys2Proof.Machine.execOpenStageDone t ranges s
  | .groupLanded t g read => Sys2Proof.Machine.execGroupLanded t g read s
  | .eaveEntryComplete port words work code who data queued => Sys2Proof.Machine.execEaveEntryComplete port words work code who data queued s
  | .pollTimeout port words work who queued => Sys2Proof.Machine.execPollTimeout port words work who queued s
  | .contTimeout port words work who queued => Sys2Proof.Machine.execContTimeout port words work who queued s
  | .laneKat lane pass => Sys2Proof.Machine.execLaneKat lane pass s
  | .sweepPassStart t main twin => Sys2Proof.Machine.execSweepPassStart t main twin s
  | .sweepGroup t g twin read copyRuns copyLeafRuns heldRuns => Sys2Proof.Machine.execSweepGroup t g twin read copyRuns copyLeafRuns heldRuns s
  | .sweepAreaCompare t twin area level idx data other runs => Sys2Proof.Machine.execSweepAreaCompare t twin area level idx data other runs s
  | .resyncDone t twin other nodes readBack => Sys2Proof.Machine.execResyncDone t twin other nodes readBack s
  | .repairDone t twin nodes readBack => Sys2Proof.Machine.execRepairDone t twin nodes readBack s
  | .refillDone t block main twin runs => Sys2Proof.Machine.execRefillDone t block main twin runs s
  | .readArray t sel n late faults => Sys2Proof.Machine.execReadArray t sel n late faults s
  | .readSfdp t sel n => Sys2Proof.Machine.execReadSfdp t sel n s
  | .readId t sel n => Sys2Proof.Machine.execReadId t sel n s
  | .readStatus t sel n => Sys2Proof.Machine.execReadStatus t sel n s
  | .readFlag t sel n => Sys2Proof.Machine.execReadFlag t sel n s
  | .clearFlag t sel => Sys2Proof.Machine.execClearFlag t sel s
  | .writeEnable t sel => Sys2Proof.Machine.execWriteEnable t sel s
  | .writeDisable t sel => Sys2Proof.Machine.execWriteDisable t sel s
  | .writeStatus t sel data => Sys2Proof.Machine.execWriteStatus t sel data s
  | .readConfig t sel n => Sys2Proof.Machine.execReadConfig t sel n s
  | .writeConfig t sel data => Sys2Proof.Machine.execWriteConfig t sel data s
  | .enter4b t sel => Sys2Proof.Machine.execEnter4b t sel s
  | .exit4b t sel => Sys2Proof.Machine.execExit4b t sel s
  | .resetEnable t sel => Sys2Proof.Machine.execResetEnable t sel s
  | .reset t sel => Sys2Proof.Machine.execReset t sel s
  | .suspend t sel => Sys2Proof.Machine.execSuspend t sel s
  | .resume t sel => Sys2Proof.Machine.execResume t sel s
  | .nop t sel => Sys2Proof.Machine.execNop t sel s
  | .program t sel data => Sys2Proof.Machine.execProgram t sel data s
  | .erase t sel => Sys2Proof.Machine.execErase t sel s
  | .opcodeDeny t sel => Sys2Proof.Machine.execOpcodeDeny t sel s
  | .selectUnanswered t sel => Sys2Proof.Machine.execSelectUnanswered t sel s
  | .selectMalformed t sel reason => Sys2Proof.Machine.execSelectMalformed t sel reason s
  | .selectOverlap t edges => Sys2Proof.Machine.execSelectOverlap t edges s
  | .flashWriteDone t twin readBack => Sys2Proof.Machine.execFlashWriteDone t twin readBack s
  | .stageQuietExpiry t region => Sys2Proof.Machine.execStageQuietExpiry t region s
  | .stageUnitRewriteDone t twin readBack => Sys2Proof.Machine.execStageUnitRewriteDone t twin readBack s
  | .sidebandBadFrame t f => Sys2Proof.Machine.execSidebandBadFrame t f s
  | .sidebandNop t f => Sys2Proof.Machine.execSidebandNop t f s
  | .replay t f => Sys2Proof.Machine.execReplay t f s
  | .sidebandRead t f => Sys2Proof.Machine.execSidebandRead t f s
  | .sidebandWrite t f => Sys2Proof.Machine.execSidebandWrite t f s
  | .bootOk t f => Sys2Proof.Machine.execBootOk t f s
  | .resetReq t f => Sys2Proof.Machine.execResetReq t f s
  | .updateCommit t f => Sys2Proof.Machine.execUpdateCommit t f s
  | .updateAbandon t f => Sys2Proof.Machine.execUpdateAbandon t f s
  | .openCommit t f => Sys2Proof.Machine.execOpenCommit t f s
  | .measureExtendSb t f => Sys2Proof.Machine.execMeasureExtendSb t f s
  | .spdmSend t f => Sys2Proof.Machine.execSpdmSend t f s
  | .spdmSbResponse t => Sys2Proof.Machine.execSpdmSbResponse t s
  | .restoreSourceDone t flash sig runs => Sys2Proof.Machine.execRestoreSourceDone t flash sig runs s
  | .pushWaitExpiry t => Sys2Proof.Machine.execPushWaitExpiry t s
  | .restoreFlashWriteDone t main twin => Sys2Proof.Machine.execRestoreFlashWriteDone t main twin s
  | .switchRecordWrite t main twin => Sys2Proof.Machine.execSwitchRecordWrite t main twin s
  | .updateVerified t sig runs => Sys2Proof.Machine.execUpdateVerified t sig runs s
  | .updateWriteStepDone t main twin => Sys2Proof.Machine.execUpdateWriteStepDone t main twin s
  | .updateReadbackDone t main twin => Sys2Proof.Machine.execUpdateReadbackDone t main twin s
  | .updateArmed t => Sys2Proof.Machine.execUpdateArmed t s
  | .trialExpiry t => Sys2Proof.Machine.execTrialExpiry t s
  | .orphanExpiry => Sys2Proof.Machine.execOrphanExpiry s
  | .imageStage h => Sys2Proof.Machine.execImageStage h s
  | .imageWrite h => Sys2Proof.Machine.execImageWrite h s
  | .imageCommit h => Sys2Proof.Machine.execImageCommit h s
  | .imageAbandon h => Sys2Proof.Machine.execImageAbandon h s
  | .imageConfirm h => Sys2Proof.Machine.execImageConfirm h s
  | .imageRecover h opens sig runs => Sys2Proof.Machine.execImageRecover h opens sig runs s
  | .imageGolden h => Sys2Proof.Machine.execImageGolden h s
  | .goldenPurlinWriteDone t ok => Sys2Proof.Machine.execGoldenPurlinWriteDone t ok s
  | .imageSvnCommit h burns => Sys2Proof.Machine.execImageSvnCommit h burns s
  | .imageFormat h => Sys2Proof.Machine.execImageFormat h s
  | .imageFormatDone t main twin => Sys2Proof.Machine.execImageFormatDone t main twin s
  | .imageOpenErase h => Sys2Proof.Machine.execImageOpenErase h s
  | .extend requester reg digest => Sys2Proof.Machine.execExtend requester reg digest s
  | .record lost => Sys2Proof.Machine.execRecord lost s
  | .journalWriteDone n ok => Sys2Proof.Machine.execJournalWriteDone n ok s
  | .journalHeadFound torn => Sys2Proof.Machine.execJournalHeadFound torn s
  | .journalScanDone => Sys2Proof.Machine.execJournalScanDone s
  | .purlinProbe answer => Sys2Proof.Machine.execPurlinProbe answer s
  | .purlinMappedRead addr len => Sys2Proof.Machine.execPurlinMappedRead addr len s
  | .purlinMappedWrite addr => Sys2Proof.Machine.execPurlinMappedWrite addr s
  | .purlinResumeExpiry => Sys2Proof.Machine.execPurlinResumeExpiry s
  | .mapWaitExpiry addr => Sys2Proof.Machine.execMapWaitExpiry addr s
  | .measureRead h => Sys2Proof.Machine.execMeasureRead h s
  | .measureLog h => Sys2Proof.Machine.execMeasureLog h s
  | .measureExtend h => Sys2Proof.Machine.execMeasureExtend h s
  | .measureQuote h run => Sys2Proof.Machine.execMeasureQuote h run s
  | .measureBlock h => Sys2Proof.Machine.execMeasureBlock h s
  | .getVersion via => Sys2Proof.Machine.execGetVersion via s
  | .getCapabilities via => Sys2Proof.Machine.execGetCapabilities via s
  | .negotiateAlgorithms via => Sys2Proof.Machine.execNegotiateAlgorithms via s
  | .getDigests via => Sys2Proof.Machine.execGetDigests via s
  | .getCertificate via => Sys2Proof.Machine.execGetCertificate via s
  | .challenge via run => Sys2Proof.Machine.execChallenge via run s
  | .getMeasurements via run => Sys2Proof.Machine.execGetMeasurements via run s
  | .keyExchange via run => Sys2Proof.Machine.execKeyExchange via run s
  | .finish via => Sys2Proof.Machine.execFinish via s
  | .endSession via => Sys2Proof.Machine.execEndSession via s
  | .heartbeat via => Sys2Proof.Machine.execHeartbeat via s
  | .keyUpdate via => Sys2Proof.Machine.execKeyUpdate via s
  | .chunkSend via run => Sys2Proof.Machine.execChunkSend via run s
  | .chunkGet via => Sys2Proof.Machine.execChunkGet via s
  | .getEncapsulatedRequest via => Sys2Proof.Machine.execGetEncapsulatedRequest via s
  | .deliverEncapsulatedResponse via => Sys2Proof.Machine.execDeliverEncapsulatedResponse via s
  | .getCsr via run => Sys2Proof.Machine.execGetCsr via run s
  | .setCertificate via => Sys2Proof.Machine.execSetCertificate via s
  | .spdmUnsupported via => Sys2Proof.Machine.execSpdmUnsupported via s
  | .keyGenerate who => Sys2Proof.Machine.execKeyGenerate who s
  | .keyDerive who => Sys2Proof.Machine.execKeyDerive who s
  | .keyImportPlain who => Sys2Proof.Machine.execKeyImportPlain who s
  | .keyImportWrapped who => Sys2Proof.Machine.execKeyImportWrapped who s
  | .keyExport who => Sys2Proof.Machine.execKeyExport who s
  | .keyPublic who => Sys2Proof.Machine.execKeyPublic who s
  | .keyInfo who => Sys2Proof.Machine.execKeyInfo who s
  | .keyDestroy who => Sys2Proof.Machine.execKeyDestroy who s
  | .keyProve who run => Sys2Proof.Machine.execKeyProve who run s
  | .keyRandom who => Sys2Proof.Machine.execKeyRandom who s
  | .keyHashOpen who bound runs => Sys2Proof.Machine.execKeyHashOpen who bound runs s
  | .keyHashUpdate who runs => Sys2Proof.Machine.execKeyHashUpdate who runs s
  | .keyHashFinal who runs => Sys2Proof.Machine.execKeyHashFinal who runs s
  | .keyHashFinalCompare who runs => Sys2Proof.Machine.execKeyHashFinalCompare who runs s
  | .keyHashHash who bound runs => Sys2Proof.Machine.execKeyHashHash who bound runs s
  | .keyHashClose who => Sys2Proof.Machine.execKeyHashClose who s
  | .keyCipherOpen who => Sys2Proof.Machine.execKeyCipherOpen who s
  | .keyCipherAad who => Sys2Proof.Machine.execKeyCipherAad who s
  | .keyCipherText who => Sys2Proof.Machine.execKeyCipherText who s
  | .keyCipherFinal who => Sys2Proof.Machine.execKeyCipherFinal who s
  | .keyCipherSeal who => Sys2Proof.Machine.execKeyCipherSeal who s
  | .keyCipherOpenSealed who => Sys2Proof.Machine.execKeyCipherOpenSealed who s
  | .keyCipherWrap who => Sys2Proof.Machine.execKeyCipherWrap who s
  | .keyCipherUnwrap who => Sys2Proof.Machine.execKeyCipherUnwrap who s
  | .keyCipherClose who => Sys2Proof.Machine.execKeyCipherClose who s
  | .keySign who run => Sys2Proof.Machine.execKeySign who run s
  | .keyVerify who run => Sys2Proof.Machine.execKeyVerify who run s
  | .keyEcdh who run => Sys2Proof.Machine.execKeyEcdh who run s
  | .rafterJobDone op run tag tile => Sys2Proof.Machine.execRafterJobDone op run tag tile s
  | .ctxIdleExpiry h spar ctx => Sys2Proof.Machine.execCtxIdleExpiry h spar ctx s
  | .sparPllIdleStop => Sys2Proof.Machine.execSparPllIdleStop s
  | .healthTestFail apt rawBits => Sys2Proof.Machine.execHealthTestFail apt rawBits s
  | .startupTestDone pass rawBits => Sys2Proof.Machine.execStartupTestDone pass rawBits s
  | .drbgReseed inst1 => Sys2Proof.Machine.execDrbgReseed inst1 s
  | .tagScan upsets => Sys2Proof.Machine.execTagScan upsets s
  | .otpStatus h => Sys2Proof.Machine.execOtpStatus h s
  | .otpRead h => Sys2Proof.Machine.execOtpRead h s
  | .otpProgram h burns => Sys2Proof.Machine.execOtpProgram h burns s
  | .otpUds h burns => Sys2Proof.Machine.execOtpUds h burns s
  | .otpFinalise h burns => Sys2Proof.Machine.execOtpFinalise h burns s
  | .otpLifecycle h burns => Sys2Proof.Machine.execOtpLifecycle h burns s
  | .otpRevoke h burns => Sys2Proof.Machine.execOtpRevoke h burns s
  | .otpRepair h burns => Sys2Proof.Machine.execOtpRepair h burns s
  | .otpResense h => Sys2Proof.Machine.execOtpResense h s
  | .resenseTrigger => Sys2Proof.Machine.execResenseTrigger s
  | .resenseDone drift => Sys2Proof.Machine.execResenseDone drift s
  | .logReadRing h => Sys2Proof.Machine.execLogReadRing h s
  | .logReadJournal h => Sys2Proof.Machine.execLogReadJournal h s
  | .logRoute h => Sys2Proof.Machine.execLogRoute h s
  | .calRead h => Sys2Proof.Machine.execCalRead h s
  | .calWrite h readBackOk => Sys2Proof.Machine.execCalWrite h readBackOk s
  | .doorbell h => Sys2Proof.Machine.execDoorbell h s
  | .doorbellWhileBusy h => Sys2Proof.Machine.execDoorbellWhileBusy h s
  | .mailboxWriteWhileBusy h offset bytes => Sys2Proof.Machine.execMailboxWriteWhileBusy h offset bytes s
  | .evtPendClear f word mask => Sys2Proof.Machine.execEvtPendClear f word mask s
  | .msixUnmask f vec => Sys2Proof.Machine.execMsixUnmask f vec s
  | .rcRead f addr len => Sys2Proof.Machine.execRcRead f addr len s
  | .gutterLoRead f which => Sys2Proof.Machine.execGutterLoRead f which s
  | .barAccessOverrun f addr len => Sys2Proof.Machine.execBarAccessOverrun f addr len s
  | .registerWrite f addr bytes => Sys2Proof.Machine.execRegisterWrite f addr bytes s
  | .linkDown head reason => Sys2Proof.Machine.execLinkDown head reason s
  | .linkUp head rate width flit256 mld posted drs ndr => Sys2Proof.Machine.execLinkUp head rate width flit256 mld posted drs ndr s
  | .functionLevelReset f => Sys2Proof.Machine.execFunctionLevelReset f s
  | .cxlReset f => Sys2Proof.Machine.execCxlReset f s
  | .ideCheckFail head => Sys2Proof.Machine.execIdeCheckFail head s
  | .cxlMemRead f hpa fault => Sys2Proof.Machine.execCxlMemRead f hpa fault s
  | .cxlMemWrite f hpa gap bytes => Sys2Proof.Machine.execCxlMemWrite f hpa gap bytes s
  | .hdmDecoderCommit f idx base size dpa skip ways lock => Sys2Proof.Machine.execHdmDecoderCommit f idx base size dpa skip ways lock s
  | .doeRequest f vendor type data => Sys2Proof.Machine.execDoeRequest f vendor type data s
  | .doeAbort f => Sys2Proof.Machine.execDoeAbort f s
  | .getLdInfo => Sys2Proof.Machine.execGetLdInfo s
  | .getLdAllocations => Sys2Proof.Machine.execGetLdAllocations s
  | .setLdAllocations granularity count sizes => Sys2Proof.Machine.execSetLdAllocations granularity count sizes s
  | .getQosControl => Sys2Proof.Machine.execGetQosControl s
  | .setQosControl value => Sys2Proof.Machine.execSetQosControl value s
  | .getQosStatus => Sys2Proof.Machine.execGetQosStatus s
  | .identifyMemoryDevice f => Sys2Proof.Machine.execIdentifyMemoryDevice f s
  | .getSupportedLogs f => Sys2Proof.Machine.execGetSupportedLogs f s
  | .getLog f offset len => Sys2Proof.Machine.execGetLog f offset len s
  | .getEventRecords f log => Sys2Proof.Machine.execGetEventRecords f log s
  | .clearEventRecords f log handles => Sys2Proof.Machine.execClearEventRecords f log handles s
  | .getTimestamp f => Sys2Proof.Machine.execGetTimestamp f s
  | .setTimestamp f value => Sys2Proof.Machine.execSetTimestamp f value s
  | .getPartitionInfo f => Sys2Proof.Machine.execGetPartitionInfo f s
  | .getPoisonList f dpa len => Sys2Proof.Machine.execGetPoisonList f dpa len s
  | .cxlMailboxUnsupported f opcode => Sys2Proof.Machine.execCxlMailboxUnsupported f opcode s
  | .patrolScrub passDone fault => Sys2Proof.Machine.execPatrolScrub passDone fault s
  | .channelRetrainDone ch ok => Sys2Proof.Machine.execChannelRetrainDone ch ok s
  | .channelRetry ch ok => Sys2Proof.Machine.execChannelRetry ch ok s
  | .underlayInitDone => Sys2Proof.Machine.execUnderlayInitDone s
  | .selfRefreshEntry => Sys2Proof.Machine.execSelfRefreshEntry s
  | .flashReadyExpiry t => Sys2Proof.Machine.execFlashReadyExpiry t s
  | .reloadCopyDone blocks runs => Sys2Proof.Machine.execReloadCopyDone blocks runs s
  | .fwWindowVerified sig runs => Sys2Proof.Machine.execFwWindowVerified sig runs s
  | .hostCreditsReturned head posted drs ndr => Sys2Proof.Machine.execHostCreditsReturned head posted drs ndr s

end Sys2Proof.Machine
end

