-- ==== Sys2Proof/Safety.lean ====
section
/-! DEFINITION. What counts as a safe step, and the terms the statements use: a command that completes with a property of
its next state, a mailbox command that is next to be taken, its completion, and what a completion leaves alone. -/

namespace Sys2Proof.Machine

open Sys2Proof

/-- A step is safe where it answers a next state. -/
def SafeStep (s : State) : Prop := ∃ t, step s = .next t

/-- The Underlay answers (R452, R493): the FABRIC clock runs, no channel is marked down and none is being retrained. -/
structure MemoryServes (s : State) : Prop where
  clock : s.attic.clocksHeld.getLsbD 0 = false
  up    : ∀ off, channelDown s off = false
  still : ∀ off, channelWaits s off = false

/-- A command answers a next state, and `P` holds of it. -/
def Completes (c : Instr) (s : State) (P : State → Prop) : Prop := ∃ t, exec c s = .next t ∧ P t

/-- The command in mailbox `h` is next at the responder and belongs to a row of the table, and the device mode answers it
(R423, R425). -/
structure Taken (s : State) (h : LdId) (row : Nat) : Prop where
  front  : s.responder.head? = some h
  isRow  : rowOf (s.mb h) = row
  mode   : answer s (s.mb h).opcode.toNat = .take

/-- The length of the request in mailbox `h` (R416). -/
def lengthOf (s : State) (h : LdId) : Nat := (s.mb h).length.toNat

/-- The tile command in mailbox `h` names tile `x`, which the variant has, and is based on its generation (R421, R422). -/
structure Names (s : State) (h : LdId) (x : TileId) : Prop where
  tile  : (s.mb h).arg 0 4 = x.val
  inUse : fusedOff s x = false
  gen   : (s.mb h).gen = (s.tile x).ctl.gen

/-- Mailbox `h` of `t` holds the completion of the command `s` held there: status, tag, length, the response from payload
offset 0 and zeros after it, M_FILL zero, go and busy cleared, done set (R417). -/
structure Completed (s t : State) (h : LdId) (st : Nat) (resp : List Byte) : Prop where
  done    : (t.mb h).done = true
  busy    : (t.mb h).busy = false
  go      : (t.mb h).go = false
  status  : (t.mb h).compStatus = BitVec.ofNat 8 st
  tag     : (t.mb h).compTag = (s.mb h).tag
  length  : (t.mb h).compLen = BitVec.ofNat 32 resp.length
  fill    : (t.mb h).fill = 0
  payload : ∀ a, Sparse.get 0 (t.mb h).payload a = resp.getD a 0
  gone    : h ∉ t.responder

/-- A head but for its posted credits and the turn of its functions. -/
def Head.link (x : Head) : Head := { x with posted := none, turn := 0 }

/-- What a completion leaves alone: everything but the mailboxes, the responder's queue, the counts of a takeover in
progress, and what the completion source touches: latches, the functions' messages and the credits of the heads. -/
structure MailFrame (s t : State) : Prop where
  pending : t.pending = s.pending
  gmode   : t.gmode = s.gmode
  boot    : t.boot = s.boot
  run     : t.loft.run = s.loft.run
  pair    : t.loft.onPairB = s.loft.onPairB
  taking  : t.loft.takeover.isSome = s.loft.takeover.isSome
  fw      : t.fw = s.fw
  attic   : t.attic = s.attic
  cal     : t.cal = s.cal
  otp     : t.otp = s.otp
  ridge   : t.ridge = s.ridge
  keys    : t.keys = s.keys
  eng     : t.eng = s.eng
  tiles   : t.tiles = s.tiles
  purlin  : t.purlin = s.purlin
  memctl  : t.memctl = s.memctl
  resp    : t.resp = s.resp
  freeCtr : t.freeCtr = s.freeCtr
  host    : t.host = { s.host with heads := t.host.heads }
  links   : ∀ k : HeadId, (t.host.heads[k]).link = (s.host.heads[k]).link
  gutter  : t.gutter = { s.gutter with loft := t.gutter.loft }

/-- What a requester `o` loses where its work ends (R154, R263, R270, R305, R307): its own contexts and queue entries are given
up, slots of SPDM sessions in the Loft's range return to EMPTY, at once or, while the Ridge port is held, at its release (R20), and
contexts that loaded one of those are closed; no other key slot, context or part of the key store and the engines differs. -/
structure GivenUp (o : JobOwner) (s t : State) : Prop where
  keys    : t.keys = { s.keys with slots := t.keys.slots, held := t.keys.held }
  held    : ∃ l : List (Fin 256), t.keys.held = s.keys.held ++ l.map KeyReq.destroy ∧ ∀ i ∈ l, 16 ≤ i.val ∧ i.val < 128
  slots   : ∀ i : Fin 256, t.slot i = s.slot i ∨ (16 ≤ i.val ∧ i.val < 128 ∧ t.slot i = .reset)
  eng     : t.eng = { s.eng with
              thatch := t.eng.thatch, spar := t.eng.spar, sparQ := t.eng.sparQ, rafterQ := t.eng.rafterQ }
  hashes  : ∀ i : Fin 512, t.eng.thatch[i] = s.eng.thatch[i] ∨
              t.eng.thatch[i] = s.eng.thatch[i].map (fun c => { c with closed := true }) ∨
              (t.eng.thatch[i] = none ∧ ∃ c, thatchAt o c = some i)
  ciphers : ∀ i : Fin 128, t.eng.spar[i] = s.eng.spar[i] ∨
              t.eng.spar[i] = s.eng.spar[i].map (fun c => { c with key := [], closed := true }) ∨
              (t.eng.spar[i] = none ∧ ∃ c, sparAt o c = some i)
  queues  : t.eng.sparQ.filter (· ≠ o) = s.eng.sparQ.filter (· ≠ o) ∧
              t.eng.rafterQ.filter (· ≠ o) = s.eng.rafterQ.filter (· ≠ o)

/-- Tile `x` and what belongs to it may change, beside the mail, the events, the mode and the clocks; nothing else does: no
other tile, no ridge register but the tile's eight, no fuse, Purlin byte, firmware or logical device; of keys and engines only
what the gate holds for the tile and what its SPDM session held is given up. -/
structure OnlyTile (x : TileId) (s t : State) : Prop where
  pending : t.pending = s.pending
  boot    : t.boot = s.boot
  run     : t.loft.run = s.loft.run
  fw      : t.fw = s.fw
  cal     : t.cal = s.cal
  otp     : t.otp = s.otp
  given   : GivenUp (.inr (.gate x)) s t
  purlin  : t.purlin = s.purlin
  resp    : t.resp = s.resp
  freeCtr : t.freeCtr = s.freeCtr
  lds     : t.host.lds = s.host.lds
  others  : ∀ u, u ≠ x → t.tile u = s.tile u
  regs    : ∀ r : Fin 320, (r.val < 64 + 8 * x.val ∨ 72 + 8 * x.val ≤ r.val) → t.reg r = s.reg r

/-- Tile `x` has made one change (R76, R77): state, previous state, cause, T_GEN advanced by one, PLT_RST_N as the state
has it. -/
structure Moved (x : TileId) (s t : State) (dst : TileState) (cause : TileCause) : Prop where
  state : (t.tile x).ctl.state = dst
  prev  : (t.tile x).ctl.prev = (s.tile x).ctl.state
  cause : (t.tile x).ctl.cause = cause
  gen   : (t.tile x).ctl.gen = (s.tile x).ctl.gen + 1
  rst   : (t.tile x).ctl.rstHeld = !dst.released

/-- The mode after a command that wakes the device from DOZE (R60). -/
def wokenMode (s : State) : GMode :=
  if s.gmode.mode = .doze then { s.gmode with mode := .serve, prev := .doze, cause := .wake } else s.gmode

/-- Mailbox `h` holds a tile command of the owner for tile `x` (R422, R424): taken, of its length, in a served mode. -/
structure OwnerTile (s : State) (h : LdId) (x : TileId) (row len : Nat) : Prop where
  taken : Taken s h row
  names : Names s h x
  len   : lengthOf s h = len
  role  : ownerOnly s h = true
  mode  : s.gmode.mode ∈ servedModes

/-- Response of a tile command: T_STATE and T_GEN of the tile as the command leaves it. -/
def tileAnswer (t : State) (x : TileId) : List Byte :=
  bytesOf 4 (tState (t.tile x).ctl) ++ bytesOf 4 (t.tile x).ctl.gen

/-- Modes whose entry touches no tile. -/
def quietMode (d : DevMode) : Bool := decide (d ≠ .lockdown ∧ d ≠ .provision ∧ d ≠ .depot)

/-- Mailbox `h` holds a command of the loader in LOAD that names no tile: taken and of its length (R50, R424). -/
def LoaderCommand (s : State) (h : LdId) (row len : Nat) : Prop :=
  Taken s h row ∧ lengthOf s h = len ∧ s.gmode.mode = .load ∧ s.fw.fromPurlin = false ∧ s.fw.claimMb = h

/-- Mailbox `h` holds a command of the owner that names no tile: taken and of its length (R408, R424). -/
def OwnerCommand (s : State) (h : LdId) (row len : Nat) : Prop :=
  Taken s h row ∧ lengthOf s h = len ∧ isOwner s h = true

/-- The parts of State, as frames name them. `mail` is the mailboxes, the responder's queue and what a completion source
touches; `events` is the recorder, the functions' latches and messages, and the posted credits they use. -/
inductive Part where
  | gmode | boot | loft | fw | attic | cal | otp | ridge | keys | eng | events | mail | tiles | host | purlin | memctl
  | resp | freeCtr
  deriving DecidableEq, Repr

/-- Nothing but the parts listed differs between two states; commands waiting outside stay as they are. -/
structure Only (ps : List Part) (s t : State) : Prop where
  pending : t.pending = s.pending
  gmode   : .gmode ∉ ps → t.gmode = s.gmode
  boot    : .boot ∉ ps → t.boot = s.boot
  loft    : .loft ∉ ps → t.loft.run = s.loft.run ∧ t.loft.onPairB = s.loft.onPairB ∧
              t.loft.takeover.isSome = s.loft.takeover.isSome
  fw      : .fw ∉ ps → t.fw = s.fw
  attic   : .attic ∉ ps → t.attic = s.attic
  cal     : .cal ∉ ps → t.cal = s.cal
  otp     : .otp ∉ ps → t.otp = s.otp
  ridge   : .ridge ∉ ps → t.ridge = s.ridge
  keys    : .keys ∉ ps → t.keys = s.keys
  eng     : .eng ∉ ps → t.eng = s.eng
  tiles   : .tiles ∉ ps → t.tiles = s.tiles
  purlin  : .purlin ∉ ps → t.purlin = s.purlin
  memctl  : .memctl ∉ ps → t.memctl = s.memctl
  resp    : .resp ∉ ps → t.resp = s.resp
  freeCtr : .freeCtr ∉ ps → t.freeCtr = s.freeCtr
  host    : .host ∉ ps → t.host = { s.host with heads := t.host.heads } ∧
              ∀ k : HeadId, (t.host.heads[k]).link = (s.host.heads[k]).link
  mail    : .mail ∉ ps → t.mbs = s.mbs ∧ t.responder = s.responder ∧ (.loft ∉ ps → t.loft = s.loft)
  gutter  : .events ∉ ps → t.gutter = { s.gutter with loft := t.gutter.loft }
  quiet   : .events ∉ ps → .mail ∉ ps → t.gutter = s.gutter ∧ t.fns = s.fns ∧ (.host ∉ ps → t.host = s.host)

/-- Command `c` of mailbox `h` completes with a status and a response, and touches nothing but the mail. -/
def Replies (c : Instr) (s : State) (h : LdId) (st : Nat) (resp : List Byte) : Prop :=
  Completes c s fun t => Only [.mail] s t ∧ Completed s t h st resp

/-- A record of source `src` joined the recorder's queue, where the queue had room (R467). -/
def Logged (s t : State) (src : Nat) : Prop :=
  s.gutter.queue.length + 64 ≤ 256 → ∃ w ∈ t.gutter.queue.drop s.gutter.queue.length, w.source = src

/-- The device has gone to LOCKDOWN (R38, R64, R102): a tile in FETCH or RESTORE is in HELD, every other keeps its state, no
power-on request stays, and beyond the parts `ps` nothing differs but mode, start-up bookkeeping, tiles and events. -/
structure LockedDown (ps : List Part) (s t : State) (cause : ModeCause) : Prop where
  mode  : t.gmode = { s.gmode with mode := .lockdown, prev := s.gmode.mode, cause := cause }
  boot  : t.boot = { s.boot with windowRunning := false, heldClaim := none }
  tiles : ∀ x : TileId, (t.tile x).ctl.pwrPending = false ∧
            (t.tile x).ctl.state =
              if (s.tile x).ctl.state = .fetch ∨ (s.tile x).ctl.state = .restore then .held else (s.tile x).ctl.state
  only  : Only ([.gmode, .boot, .attic, .memctl, .tiles, .eng, .events] ++ ps) s t

/-- A LOCKDOWN cause is acted on at once (R38, R58), and no claim is held from GATE that it would end (R37). -/
def LockableNow (s : State) : Prop :=
  s.boot.heldClaim = none ∧ s.gmode.mode ∉ [DevMode.cold, .lockdown, .depot] ∧ ¬(s.gmode.mode = .maintain ∧ s.loft.run = .reload)

/-- Mailbox `h` holds a command of the loader host in PROVISION: taken and of its length (R424). -/
def ProvisionCommand (s : State) (h : LdId) (row len : Nat) : Prop :=
  Taken s h row ∧ lengthOf s h = len ∧ s.gmode.mode = .provision ∧ s.gmode.loaderMb = h

/-- The OTP controller takes the burn of mailbox `h` (R327 to R329, R336): nothing overridden, nothing burned after L1, no operation
running or started by a command it waited behind, the programming supply in range. -/
def OtpReady (s : State) (h : LdId) : Prop := otpClosed s h = 0 ∧ vppOk s = true

/-- Row `r` may be burned to `v` in its own place (R327, R331): no redirection names it, no burned bit is missing from `v`,
and it does not read `v` yet. -/
def BurnReady (s : State) (r : Nat) (v : Word) : Prop :=
  (∀ x ∈ redirections s, x.1 ≠ r) ∧ (∀ x ∈ s.otp.redirected, x.1 ≠ r) ∧ otpNormal s r &&& ~~~v = 0 ∧ otpStrict s r ≠ v

/-- Every sparse store is in canonical form: indices strictly rising, no entry equal to what an unlisted index reads as. -/
structure Canonical (s : State) : Prop where
  normal  : Sparse.wfFrom (0 : Word) 0 s.otp.normal = true
  strict  : Sparse.wfFrom (0 : Word) 0 s.otp.strict = true
  shadow  : Sparse.wfFrom (0 : Word) 0 s.otp.shadow = true
  purlin  : Memory.wf 0xFF s.purlin.contents = true
  push    : Memory.wf 0xFF s.memctl.push = true
  copy    : ∀ x : TileId, Memory.wf 0xFF (s.tile x).mem.copy = true
  opens   : ∀ x : TileId, Memory.wf 0xFF (s.tile x).mem.opens = true
  staging : ∀ x : TileId, Memory.wf 0xFF (s.tile x).mem.staging = true
  buffer  : ∀ x : TileId, Memory.wf 0 (s.tile x).side.buffer = true
  port    : ∀ x : TileId, Memory.wf 0 (s.tile x).eave.buffer = true
  own     : Memory.wf 0 s.purlin.buffer = true
  payload : ∀ h : LdId, Memory.wf 0 (s.mb h).payload = true
  routes  : ∀ f : LdId, Memory.wf 0xFF (s.fn f).routes = true
  message : ∀ f : LdId, Sparse.wfFrom (0 : BitVec 96) 0 (s.fn f).msgAddr = true

/-- Every tile's reset line is held exactly while its state is not a released one (R71). -/
def ResetLines (s : State) : Prop := ∀ x : TileId, (s.tile x).ctl.rstHeld = !(s.tile x).ctl.state.released

/-- Mailbox `h` holds a KEY_ command: taken, of its length, in a mode of its row, the Ridge port not held (R20, R433) and the SPAR
clock running (R493). -/
def KeyCommand (s : State) (h : LdId) (row len : Nat) : Prop :=
  Taken s h row ∧ lengthOf s h = len ∧ s.gmode.mode ∈ servedModes ++ [.provision] ∧ s.boot.ridgeHeld = false ∧
    s.attic.clocksHeld.getLsbD 3 = false

/-- Domain `d` makes a request of a KEY_ row of the length `len` (R29, R268): it is there, and the port is not held. -/
structure DirectRequest (s : State) (d : Domain) (request : List Byte) (row len : Nat) : Prop where
  up     : domainUp s d = true
  isRow  : rowOf (requestOf (row / 256) request) = row
  length : request.length = len
  ridge  : s.boot.ridgeHeld = false
  spar   : s.attic.clocksHeld.getLsbD 3 = false

/-- The request of a domain read as a mailbox would hold it. -/
abbrev directArg (row : Nat) (request : List Byte) : Mailbox := requestOf (row / 256) request

/-- Work on the engines wakes the device from DOZE (R60); nothing differs but the parts `ps` and what waking does. -/
structure Woke (ps : List Part) (s t : State) : Prop where
  mode  : t.gmode = wokenMode s
  only  : Only (ps ++ [.gmode, .attic, .memctl, .events]) s t
  awake : s.gmode.mode ≠ .doze → Only ps s t

/-- The same for a command that is a wake trigger and leaves no tile busy: in SERVE it also cancels an entry to DOZE at that moment
(R61). -/
structure WokeNow (ps : List Part) (s t : State) : Prop where
  mode  : t.gmode = wokenMode s
  boot  : t.boot = if s.gmode.mode = .serve then { s.boot with wakeTick := some s.attic.tick } else s.boot
  only  : Only (ps ++ [.gmode, .attic, .memctl, .events]) { s with boot := t.boot } t
  awake : s.gmode.mode ≠ .doze → Only ps { s with boot := t.boot } t

/-- The engines' queues have an entry for mailbox `h` (R268, R269). -/
structure EntriesFree (s : State) (h : LdId) : Prop where
  spar   : entryFree s.eng.sparQ (.inl h) 12 = true
  rafter : entryFree s.eng.rafterQ (.inl h) 2 = true
/-- The tag of a slot holds (R303). -/
def TagHolds (s : State) (i : Fin 256) : Prop := (s.slot i).tag = slotTag s.keys.storeKey i.val (s.slot i)

/-- Slot `i` is VALID, of mailbox `h`, its tag holds and it permits use `u` (R301, R303, R305). -/
structure Usable (s : State) (h : LdId) (i : Fin 256) (u : Nat) : Prop where
  own   : ownSlot (.mailbox h) i.val = true
  valid : (s.slot i).state = .valid
  tag   : TagHolds s i
  may   : (s.slot i).may u = true

/-- Slot `i` of `t` is as a command of mailbox `h` writes it: VALID under its tag with the attributes given, its owner the
mailbox; no other slot differs (R299 to R306). -/
structure Wrote (s t : State) (h : LdId) (i : Fin 256) (ty n usage : Nat) (origin : BitVec 2) : Prop where
  valid  : (t.slot i).state = .valid
  tag    : TagHolds t i
  ty     : (t.slot i).ty = BitVec.ofNat 4 ty
  bytes  : (t.slot i).keyBytes = BitVec.ofNat 7 n
  usage  : (t.slot i).usage = BitVec.ofNat 10 usage
  origin : (t.slot i).origin = origin
  owner  : (t.slot i).owner = BitVec.ofNat 5 (3 + h.val)
  system : (t.slot i).system = false
  others : ∀ j, j ≠ i → t.slot j = s.slot j
  only   : Only [.keys, .eng, .mail] s t

/-- The entropy source and DRBG unit `inst` answer (R294, R295). -/
def DrbgReady (s : State) (inst : Nat) : Prop :=
  s.eng.source = 1 ∧ (if inst = 0 then s.eng.inst0Ready else s.eng.inst1Ready) = true

/-- No lane gave a wrong digest. -/
def cleanRuns : CmpRuns := { runs := [], again := [], katFail := [] }

/-- Tile `x` is in FETCH with its walker in a phase, in a mode that permits fetching it, outside GATE (R39, R129). -/
structure Fetching (s : State) (x : TileId) (phase : BitVec 4) : Prop where
  state   : (s.tile x).ctl.state = .fetch
  phase   : (s.tile x).verify.phase = phase
  allowed : fetchAllowed s x = true
  inUse   : fusedOff s x = false
  mode    : s.gmode.mode ≠ .gate

/-- The fetch or the image of tile `x` has failed (R80, R157): EVT_VERIFY_FAIL is recorded, the tile is in RESTORE, or in
QUARANTINE where no source is left or the cause forbids one; the manifest in force stays that of the last release. -/
structure FetchFailed (x : TileId) (s t : State) : Prop where
  state  : (t.tile x).ctl.state = .restore ∨ (t.tile x).ctl.state = .quarantine
  force  : (t.tile x).force.manifest = (s.tile x).force.manifest
  reset  : (t.tile x).ctl.rstHeld = true
  logged : Logged s t (x.val * 14 + 2)
  only   : OnlyTile x s t
  parts  : Only [.gmode, .attic, .memctl, .tiles, .ridge, .keys, .eng, .events] s t

/-- Tile `x` has been released with its fetched image (R85, R131, R244): the manifest in force is the one verified, and the
emulated flash registers start afresh (R187, R193, R195). -/
structure Released (x : TileId) (s t : State) (dst : TileState) (cause : TileCause) (kind : BitVec 8) : Prop where
  moved    : Moved x s t dst cause
  manifest : (t.tile x).force.manifest = (s.tile x).verify.manifest
  digest   : (t.tile x).force.digest = (s.tile x).verify.digest
  kind     : (t.tile x).force.lastKind = kind
  copy     : (t.tile x).force.copyValid = true
  emulated : (t.tile x).filter.wel = false ∧ (t.tile x).filter.addr4 = false ∧ (t.tile x).filter.protocol = 0 ∧
               (t.tile x).filter.statusHi = 0
  image    : (s.reg (tileReg x 0)).counter = 0 → (s.reg (tileReg x 0)).saturated = false →
               (t.reg (tileReg x 0)).value = Config.sha384 (bytesOf 48 (s.reg (tileReg x 0)).value ++
                 bytesOf 48 (s.tile x).verify.digest)
  only     : OnlyTile x s t
  parts    : Only [.tiles, .ridge, .memctl, .events] s t

/-- A select of CS_FLASH_N whose entry carries it out (R72, R188 to R190): the tile is released, the command whole, the entry
of an action and function permitted in the protocol mode, WEL set where the entry needs it, WIP clear unless it permits. -/
structure Select (s : State) (x : TileId) (sel : Sel) (action func : Nat) : Prop where
  inUse    : fusedOff s x = false
  released : (s.tile x).ctl.state.released = true
  framed   : octal (s.tile x) = true → sel.op2 = ~~~sel.op
  proto    : optProto (selEntry (s.tile x) sel) (s.tile x).filter.protocol.toNat = true
  action   : optAction (selEntry (s.tile x) sel) = action
  func     : optFunc (selEntry (s.tile x) sel) = func
  wel      : (optWel (selEntry (s.tile x) sel) = true ∨ optWrites (selEntry (s.tile x) sel) = true) →
               (s.tile x).filter.wel = true
  busy     : selBusy (s.tile x) (selEntry (s.tile x) sel) = false

/-- The emulated registers once an emulated command is accepted: WEL cleared where its entry has wel, RESET disarmed (R189,
R192). -/
def acceptedRegs (x : Tile) (sel : Sel) : TileFilter :=
  { x.filter with resetArmed := false, wel := x.filter.wel && !optWel (selEntry x sel) }

/-- A select is done: the bytes driven, the tile's emulated registers, and nothing else. -/
structure SelectDone (s t : State) (x : TileId) (data : List Byte) (f : TileFilter) : Prop where
  resp   : t.resp = { data := data, code := 0 }
  tile   : t.tile x = { s.tile x with filter := f }
  others : ∀ u, u ≠ x → t.tile u = s.tile u
  only   : Only [.tiles, .resp] s t

/-- A platform write is denied with a reason (R199): WEL cleared, PROT_ERR set, counted, EVT_FILTER_DENY recorded unless its
hold-off runs, nothing written or queued. -/
structure DeniedWrite (s t : State) (x : TileId) (reason : Nat) : Prop where
  resp   : t.resp = { data := [], code := 1 }
  wel    : (t.tile x).filter.wel = false
  prot   : (t.tile x).filter.protErr = true
  count  : (t.tile x).filter.denyCount = satInc 0xFF (s.tile x).filter.denyCount
  mem    : (t.tile x).mem = (s.tile x).mem
  queue  : (t.tile x).filter.queue = (s.tile x).filter.queue ∧ (t.tile x).filter.changed = (s.tile x).filter.changed
  ctl    : (t.tile x).ctl = (s.tile x).ctl
  others : ∀ u, u ≠ x → t.tile u = s.tile u
  only   : Only [.tiles, .events, .resp] s t
  logged : (∀ h ∈ (s.tile x).filter.holdoffs, h.key ≠ reason) → Logged s t (x.val * 14 + 4)

/-- A frame that passes every check and is of a command (R369 to R371): the sideband answers, and every word of the reply driven
meanwhile was ready. -/
structure GoodFrame (s : State) (x : TileId) (f : Frame) (cmd : Nat) : Prop where
  answers : sbAnswers s x f = true
  good    : frameReason f = none
  command : sbCmd (sbHeader f) = cmd
  ready   : f.late = []

/-- A good frame has been carried out (R373, R374): the reply due was driven, the frame and its alive are counted, and its own
reply is built; no other tile differs. -/
structure FrameDone (s t : State) (x : TileId) (f : Frame) (result : Nat) (words : List Word) (past : Bool) : Prop where
  driven : t.resp = { data := (replyWords (s.tile x).side.reply (sbLen (sbHeader f)) f.words.length).flatMap
                        fun w => (bytesOf 4 w).reverse
                      code := 0 }
  reply  : (t.tile x).side.reply = mkReply
             { cmd := sbCmd (sbHeader f), alive := sbAlive (sbHeader f), badFrame := false, underrun := false
               addrOver := past
               skip := (match (s.tile x).side.alive with
                 | some a => decide (BitVec.ofNat 4 (sbAlive (sbHeader f)) ≠ a + 1) | none => false)
               result := result } words
  alive  : (t.tile x).side.alive = some (BitVec.ofNat 4 (sbAlive (sbHeader f)))
  frames : (t.tile x).side.frames = (s.tile x).side.frames + 1
  bad    : (t.tile x).side.bad = (s.tile x).side.bad
  others : ∀ u, u ≠ x → t.tile u = s.tile u

/-- A request waits at an SPDM responder in clear and is handled (R20, R259): its message, with its code and version 1.3, and the
Ridge port takes what it needs of that domain. -/
structure Asks (s : State) (via : SpdmVia) (code : Nat) (m : List Byte) : Prop where
  request : (spdmOf s via).request = some m
  clear   : (spdmOf s via).inSession = none
  opened  : (spdmOf s via).locked = false
  ridge   : s.boot.ridgeHeld = true → asksRidge (spdmOf s via) m = false
  served  : spdmServed s = true
  code    : leAt 1 1 m = code
  version : leAt 0 1 m = 0x13
  whole   : 4 ≤ m.length

/-- A slot of the Loft's range holds a whole session key that a direction may use (R29, R303): to decrypt requests or encrypt responses. -/
structure SessionKey (s : State) (i : LoftSlot) (decrypt : Bool) : Prop where
  valid : (s.slot (loftSlot i)).state = .valid
  tag   : TagHolds s (loftSlot i)
  ty    : (s.slot (loftSlot i)).ty = 1
  use   : (s.slot (loftSlot i)).may uSession = true ∧ (s.slot (loftSlot i)).may (b01 decrypt) = true

/-- The same within an SPDM session, whose key for responses is whole and may protect another message (R263, R303). -/
structure AsksIn (s : State) (via : SpdmVia) (code : Nat) (m : List Byte) (x : Session) : Prop where
  request : (spdmOf s via).request = some m
  within  : (spdmOf s via).inSession = some x.id
  opened  : (spdmOf s via).locked = false
  ridge   : s.boot.ridgeHeld = false
  slots   : x.reqSlot ≠ x.rspSlot
  clock   : s.attic.clocksHeld.getLsbD 3 = false
  key     : SessionKey s x.rspSlot false
  room    : (s.slot (loftSlot x.reqSlot)).counter.toNat < 2 ^ 48 ∧ (s.slot (loftSlot x.rspSlot)).counter.toNat + 1 < 2 ^ 48
  session : sessionBy s via x.id = some x
  served  : spdmServed s = true
  code    : leAt 1 1 m = code
  version : leAt 0 1 m = 0x13
  whole   : 4 ≤ m.length

/-- A responder has sent its response (R386, R400): on DOE at once, on a sideband as the answer that waits; beyond this
responder and the parts `ps` nothing differs. -/
structure Sent (ps : List Part) (s t : State) (via : SpdmVia) (rsp : List Byte) (secured : Bool) : Prop where
  request : (spdmOf t via).request = none
  out     : (∀ f, via = .doe f → t.resp = { data := rsp, code := 0 } ∧ (t.ld f).doeBusy = false) ∧
              (∀ x, via = .sb x → (spdmOf t via).response = some (rsp, secured) ∧ t.resp = s.resp)
  others  : ∀ v, v ≠ via → spdmOf t v = spdmOf s v
  tiles   : ∀ u, t.tile u = { s.tile u with side := { (s.tile u).side with spdm := (t.tile u).side.spdm } }
  lds     : ∀ f, t.ld f = { s.ld f with spdm := (t.ld f).spdm, doeBusy := (t.ld f).doeBusy }
  host    : t.host = { s.host with heads := t.host.heads, lds := t.host.lds } ∧
              ∀ k : HeadId, (t.host.heads[k]).link = (s.host.heads[k]).link
  only    : Only ([.tiles, .host, .resp] ++ ps) s t

/-- What a reset of logical device `f` takes away (R263, R270, R305, R410): its mailbox and what its function holds, its key
slots (held at the boundary while the Ridge domain's port is, R20), its contexts, its SPDM connection and its responder entry. -/
structure LdCleared (t : State) (f : LdId) : Prop where
  mailbox  : t.mb f = .reset
  queue    : f ∉ t.responder
  function : (t.fn f).routes = FnEvents.reset.routes ∧ (t.fn f).msgAddr = FnEvents.reset.msgAddr ∧ (t.fn f).waiting = []
  slots    : ∀ k : Fin 8, if t.boot.ridgeHeld then KeyReq.destroy (slotOf f k) ∈ t.keys.held
               else (t.slot (slotOf f k)).state = .empty
  hashes   : ∀ c : Fin 12, ∀ i, thatchAt (.inl f) c.val = some i → t.eng.thatch[i] = none
  ciphers  : ∀ c : Fin 6, ∀ i, sparAt (.inl f) c.val = some i → t.eng.spar[i] = none
  spdm     : (t.ld f).spdm = Ld.reset.spdm ∧ (t.ld f).doeBusy = false ∧ (t.ld f).pipe = []

/-- Only logical devices `fs` of the block were reset, with EVD_HOST_LINK_DOWN: mode, tiles' states, every other logical device
and its slots and contexts stay. -/
structure LdsReset (fs : List LdId) (s t : State) : Prop where
  cleared : ∀ f ∈ fs, LdCleared t f
  gmode   : t.gmode = s.gmode
  tiles   : ∀ x : TileId, (t.tile x).ctl = (s.tile x).ctl ∧ (t.tile x).mem = (s.tile x).mem
  lds     : ∀ f, f ∉ fs → t.ld f = s.ld f
  slots   : ∀ f, f ∉ fs → ∀ k : Fin 8, (t.slot (slotOf f k)).material = (s.slot (slotOf f k)).material
  logged  : Logged s t 509
  only    : Only [.boot, .otp, .ridge, .keys, .eng, .tiles, .host, .events, .mail, .loft] s t

end Sys2Proof.Machine
end

