-- ==== Sys2Proof/Certificates/Slice0/Obligations.lean ====
section
/-! DEFINITION. The statements about the model, one def per obligation; each docstring names the rules it formalises. -/

section

open Sys2Proof Sys2Proof.Machine

/-! ### The queue of commands, reset, and what every step keeps -/

/-- A step takes the command at the front of the queue and runs it on the state with the queue's rest. The model's choices it
rests on are in log entry 15. -/
def Obligations.StepRunsFrontCommand : Prop :=
  ∀ (c : Instr) (rest : List Instr) (s : State), step { s with pending := c :: rest } = exec c { s with pending := rest }

/-- Every command answers a next state: none faults and none is refused. The model's choices it rests on are in log entry 16.
-/
def Obligations.EveryCommandAnswersANextState : Prop :=
 ∀ (c : Instr) (s : State), ∃ t, exec c s = .next t

/-- On an empty queue a step is one tick of the Attic clock (the model's choice, log entry 1): the tick count and the trial
timers of tiles on trial in RUN advance, and nothing else changes; without VDD_AON nothing changes. -/
def Obligations.IdleStepIsOneTick : Prop :=
  ∀ s : State, s.pending = [] →
    (s.boot.vddAon = false → step s = .next s) ∧
    (s.boot.vddAon = true → ∃ t, step s = .next t ∧ t.attic = { s.attic with tick := s.attic.tick + 1 } ∧
      Only [.attic, .tiles] s t ∧ ∀ x : TileId,
        t.tile x = { s.tile x with update := (t.tile x).update } ∧
        ((s.tile x).ctl.state ≠ .run ∨ (s.tile x).update.trial = none → t.tile x = s.tile x) ∧
        ((s.tile x).ctl.state = .run → (s.tile x).update.trial ≠ none →
          (t.tile x).update.trialTick = (s.tile x).update.trialTick + 1 ∧
          (t.tile x).update.runMs = ticksMs ((s.tile x).update.trialTick + 1)))

/-- Reset: the block waits for VDD_AON in COLD, with no command waiting, every tile OFF with its reset line held and no power,
generation 0, every measurement register zero, every key slot EMPTY, no context open, every mailbox idle, the recorder, the
event latches and the copies empty; every store is in canonical form and every reset line follows its tile's state. The
model's choices it rests on are in log entries 12, 61. -/
def Obligations.ResetState : Prop :=
  let s := State.reset
  s.pending = [] ∧ s.gmode.mode = .cold ∧ s.boot.phase = .off ∧ s.boot.vddAon = false ∧ s.loft.run = .off ∧
    (∀ x : TileId, (s.tile x).ctl.state = .off ∧ (s.tile x).ctl.gen = 0 ∧ (s.tile x).ctl.rstHeld = true ∧
      (s.tile x).ctl.pwrEn = false ∧ (s.tile x).mem.copy = [] ∧ (s.tile x).mem.opens = [] ∧ (s.tile x).mem.staging = [] ∧
      (s.tile x).verify.accepted = false ∧ (s.tile x).update.phase = 0) ∧
    (∀ r : Fin 320, (s.reg r).value = 0 ∧ (s.reg r).counter = 0) ∧ s.ridge.log = [] ∧
    (∀ i : Fin 256, (s.slot i).state = .empty) ∧ s.keys.uds = none ∧
    (∀ i : Fin 512, s.eng.thatch[i] = none) ∧ (∀ i : Fin 128, s.eng.spar[i] = none) ∧ s.eng.sparQ = [] ∧ s.eng.rafterQ = [] ∧
    (∀ h : LdId, (s.mb h).busy = false ∧ (s.mb h).done = false ∧ (s.mb h).payload = [] ∧ (s.fn h).pend = 0) ∧
    s.responder = [] ∧ s.gutter.ring = [] ∧ s.gutter.queue = [] ∧ s.otp.shadow = [] ∧
    Canonical s ∧ ResetLines s

/-- Every command keeps the canonical form of every sparse store: indices strictly rising, no entry equal to what an unlisted
index reads as. The model's choices it rests on are in log entry 61. -/
def Obligations.CanonicalFormIsKept : Prop :=
 ∀ (c : Instr) (s t : State), exec c s = .next t → Canonical s → Canonical t

/-- Every command keeps PLT_RST_N of every tile held exactly in the states that are not released (R71). -/
def Obligations.ResetLineFollowsTheState : Prop :=
  ∀ (c : Instr) (s t : State), exec c s = .next t → ResetLines s → ResetLines t

/-- R85: the Shakan ceases to drive PLT_RST_N of a tile only in a change to EARLY or RUN, and only when the tile is settled:
its power good has settled and the mode permits it (R80). What is released has been verified: from FETCH with every SEALED
block verified, or early with its watermark verified; from HELD with its copy verified whole; from RESTORE with a verified
image. -/
def Obligations.TilesAreReleasedOnlySettledAndVerified : Prop :=
  ∀ (c : Instr) (s t : State) (x : TileId), exec c s = .next t → ResetLines s →
    (s.tile x).ctl.rstHeld = true → (t.tile x).ctl.rstHeld = false →
    let v := (s.tile x).verify
    ((t.tile x).ctl.state = .early ∨ (t.tile x).ctl.state = .run) ∧ settled s x = true ∧
    (((s.tile x).ctl.state = .fetch ∧ sealedDone v = true ∧ v.openDone = true ∧ (t.tile x).ctl.state = .run) ∨
      ((s.tile x).ctl.state = .fetch ∧ v.accepted = true ∧ v.watermark ≤ v.prefixLen ∧ v.openDone = true ∧
        (s.tile x).active.earlyAllowed = true ∧ (s.tile x).ctl.noEarly = false ∧ (t.tile x).ctl.state = .early) ∨
      ((s.tile x).ctl.state = .held ∧ (s.tile x).force.copyValid = true ∧ v.phase = 8 ∧ (t.tile x).ctl.state = .run) ∨
      ((s.tile x).ctl.state = .restore ∧ (s.tile x).restore.ready = true ∧ (t.tile x).ctl.state = .run))

/-- R418: a doorbell rung while busy is 1 is ignored and sets ring_ignored, and nothing else changes: the command in progress,
its place in the responder's queue and its completion space stay as they were. So a doorbell never gives a mailbox a second
command: where each queued mailbox is busy and queued once, that still holds after any doorbell. It says of each of these that
it completes, with its own effect: .doorbell, .doorbellWhileBusy. -/
def Obligations.DoorbellWhileBusyIsIgnored : Prop :=
  ∀ (s : State) (h : LdId),
    ((s.mb h).busy = true → ∀ c ∈ [Instr.doorbell h, .doorbellWhileBusy h],
      exec c s = .next { s with mbs := s.mbs.set h.val { s.mb h with ringIgnored := true } h.isLt }) ∧
    (s.responder.Nodup → (∀ u ∈ s.responder, (s.mb u).busy = true) →
      Completes (.doorbell h) s fun t => t.responder.Nodup ∧ ∀ u ∈ t.responder, (t.mb u).busy = true)

/-- R111: where a read of the soffit view returns the hold pattern (a block of a SEALED or WATCHED region that is not
verified, or held back), the byte at view address a is hold_pattern[a mod 16] of the manifest in force, whatever the entry,
the interface mode and the length of the read. It says of each of these that it completes, with its own effect: .readArray. -/
def Obligations.HoldPatternBytes : Prop :=
  ∀ (s : State) (x : TileId) (sel : Sel) (n : Nat), Select s x sel 1 0 → MemoryServes s → (s.tile x).sweep.suspect = [] →
    Completes (.readArray x sel n none []) s fun t => t.resp.data.length = n ∧
      ∀ i, i < n →
        let a := (readAddrs (s.tile x) (selEntry (s.tile x) sel) (selAddr (s.tile x) (selEntry (s.tile x) sel) sel) n).getD i 0
        missAt (s.tile x) a ≠ none →
        t.resp.data.getD i 0 = BitVec.ofNat 8 (leAt (0x40 + a % 16) 1 (s.tile x).force.manifest)

/-! ### Tile commands (R78, R80, R429, R430) -/

/-- TILE_STATUS from any sender completes with the tile's registers in the order of R429, and changes nothing else. A tile
command whose generation matches but which the tile's state does not accept completes with ST_BAD_ARG and leaves the tile
unchanged (R78). A tile command based on another generation completes with ST_STALE and the 8 bytes of T_STATE and T_GEN, and
changes nothing (R422). It says of each of these that it completes, with its own effect: .tileStatus, .tileEnable,
.tileDisable, .tilePowerOn, .tilePowerOff, .tileFetch, .tileReset, .tileRestore, .tilePolicy, .tileFilter. -/
def Obligations.TileCommandsThatChangeNothing : Prop :=
  (∀ (s : State) (h : LdId) (x : TileId), Taken s h (0x200 * 256) → (s.mb h).arg 0 4 = x.val → fusedOff s x = false →
     lengthOf s h = 4 → s.gmode.mode ∈ servedModes ++ [.lockdown, .provision] →
     Completes (.tileStatus h) s fun t => MailFrame s t ∧
       Completed s t h 0 (([tState (s.tile x).ctl, (s.tile x).ctl.gen, tVerify s x, tProgress (s.tile x).verify,
         tWmark (s.tile x).verify, tRestore s x, tUpdate (s.tile x).update, tTrial (s.tile x).update,
         tSweepStat (s.tile x).sweep, tEaveStat (s.tile x)].flatMap (bytesOf 4)) ++
         leBytes 8 (mfVersion (s.tile x).force.manifest) ++ leBytes 4 (mfSvn (s.tile x).force.manifest) ++
         leBytes 1 (svnCount s x.val) ++ leBytes 3 (b01 (s.tile x).eave.format.isSome) ++ bytesOf 48 (s.tile x).force.digest)) ∧
  (∀ (s : State) (h : LdId) (x : TileId),
     (OwnerTile s h x (0x201 * 256) 4 → (s.tile x).ctl.state ≠ .absent →
       Completes (.tileEnable h) s fun t => MailFrame s t ∧ Completed s t h 6 []) ∧
     (OwnerTile s h x (0x202 * 256) 4 → (s.tile x).ctl.state ≠ .off → (s.tile x).ctl.stage = false →
       (s.tile x).eave.format = none →
       Completes (.tileDisable h) s fun t => MailFrame s t ∧ Completed s t h 6 []) ∧
     (OwnerTile s h x (0x203 * 256 + 1) 8 → (s.tile x).ctl.state ≠ .off →
       Completes (.tilePowerOn h) s fun t => MailFrame s t ∧ Completed s t h 6 []) ∧
     (OwnerTile s h x (0x203 * 256) 8 →
       ((s.tile x).ctl.state = .absent ∨ (s.tile x).ctl.state = .off ∧ (s.tile x).ctl.pwrPending = false) →
       Completes (.tilePowerOff h) s fun t => MailFrame s t ∧ Completed s t h 6 []) ∧
     (OwnerTile s h x (0x204 * 256) 4 → (s.tile x).ctl.state ∉ [TileState.held, .early, .run, .quarantine] →
       Completes (.tileFetch h) s fun t => MailFrame s t ∧ Completed s t h 6 []) ∧
     (OwnerTile s h x (0x205 * 256) 4 → (s.tile x).ctl.state ∉ [TileState.early, .run] →
       Completes (.tileReset h) s fun t => MailFrame s t ∧ Completed s t h 6 []) ∧
     (OwnerTile s h x (0x206 * 256) 4 → (s.tile x).ctl.state ∉ [TileState.held, .run, .quarantine] →
       Completes (.tileRestore h) s fun t => MailFrame s t ∧ Completed s t h 6 [])) ∧
  (∀ (s : State) (h : LdId) (x : TileId), (s.mb h).arg 0 4 = x.val → fusedOff s x = false → ownerOnly s h = true →
     s.gmode.mode ∈ servedModes → (s.mb h).gen ≠ (s.tile x).ctl.gen →
     ∀ c row len, (c, row, len) ∈ [(Instr.tileEnable h, 0x201 * 256, 4), (.tileDisable h, 0x202 * 256, 4),
         (.tilePowerOn h, 0x203 * 256 + 1, 8), (.tilePowerOff h, 0x203 * 256, 8), (.tileFetch h, 0x204 * 256, 4),
         (.tileReset h, 0x205 * 256, 4), (.tileRestore h, 0x206 * 256, 4), (.tilePolicy h none, 0x207 * 256, 28),
         (.tileFilter h none, 0x208 * 256, 0x40C)] →
       Taken s h row → lengthOf s h = len →
       Completes c s fun t => MailFrame s t ∧ Completed s t h 2 (tileAnswer s x))

/-- The transitions of R80 that the owner's tile commands make, each based on the tile's generation: the tile makes one change
and nothing beyond the tile changes; each completes with the resulting T_STATE and T_GEN (R78). TILE_POWER on from OFF (R80,
R88): with its power switched by the board (power_ctl), or with nothing to wait for, the tile enters FETCH under auto_fetch
without a reusable copy, and HELD otherwise; a request that must wait only sets pwr_pending. The model's choices it rests on
are in log entry 59. It says of each of these that it completes, with its own effect: .tileEnable, .tileDisable,
.tilePowerOff, .tileFetch, .tileReset, .tileRestore, .tilePowerOn. -/
def Obligations.OwnerTileCommandsMoveTheTile : Prop :=
  (∀ (s : State) (h : LdId) (x : TileId),
     (OwnerTile s h x (0x201 * 256) 4 → (s.tile x).ctl.state = .absent →
       Completes (.tileEnable h) s fun t => Moved x s t .off .enable ∧ OnlyTile x s t ∧ Completed s t h 0 (tileAnswer t x)) ∧
     (OwnerTile s h x (0x202 * 256) 4 → (s.tile x).ctl.state = .off → (s.tile x).ctl.stage = false →
       (s.tile x).eave.format = none →
       Completes (.tileDisable h) s fun t =>
         Moved x s t .absent .disable ∧ (t.tile x).ctl.pwrPending = false ∧ OnlyTile x s t ∧
           Completed s t h 0 (tileAnswer t x)) ∧
     (OwnerTile s h x (0x203 * 256) 8 → (s.tile x).ctl.state ≠ .absent → (s.tile x).ctl.state ≠ .off →
       Completes (.tilePowerOff h) s fun t =>
         Moved x s t .off .powerOff ∧ (t.tile x).power.pwrDropPending = (s.tile x).ctl.pwrEn ∧ OnlyTile x s t ∧
           Completed s t h 0 (tileAnswer t x)) ∧
     (Taken s h (0x203 * 256) → Names s h x → lengthOf s h = 8 → ownerOnly s h = true → s.gmode.mode = .lockdown →
       (s.tile x).ctl.state ≠ .absent → (s.tile x).ctl.state ≠ .off →
       Completes (.tilePowerOff h) s fun t =>
         Moved x s t .off .powerOff ∧ t.gmode = s.gmode ∧ OnlyTile x s t ∧ Completed s t h 0 (tileAnswer t x)) ∧
     (OwnerTile s h x (0x204 * 256) 4 →
       (s.tile x).ctl.state ∈ [TileState.held, .early, .run, .quarantine] →
       Completes (.tileFetch h) s fun t =>
         Moved x s t .fetch .fetchCmd ∧ (t.tile x).ctl.switchPending = false ∧ (t.tile x).mem.copy = [] ∧
           t.gmode = wokenMode s ∧ OnlyTile x s t ∧ Completed s t h 0 (tileAnswer t x)) ∧
     (OwnerTile s h x (0x205 * 256) 4 → (s.tile x).ctl.state = .run → (s.tile x).ctl.switchPending = false →
       Completes (.tileReset h) s fun t =>
         Moved x s t .held .tileReset ∧ t.gmode = s.gmode ∧ OnlyTile x s t ∧ Completed s t h 0 (tileAnswer t x)) ∧
     (OwnerTile s h x (0x205 * 256) 4 → (s.tile x).ctl.state = .early →
       Completes (.tileReset h) s fun t =>
         Moved x s t .fetch .tileReset ∧ (t.tile x).power.resumed = true ∧ (t.tile x).mem = (s.tile x).mem ∧
           t.gmode = s.gmode ∧ OnlyTile x s t ∧ Completed s t h 0 (tileAnswer t x)) ∧
     (OwnerTile s h x (0x206 * 256) 4 → (s.tile x).ctl.state ∈ [TileState.held, .run, .quarantine] →
       bitOf (s.tile x).active.recover 3 = true → (s.tile x).active.pushWait ≠ 0 →
       Completes (.tileRestore h) s fun t =>
         Moved x s t .restore .restoreCmd ∧ t.gmode = wokenMode s ∧ OnlyTile x s t ∧ Completed s t h 0 (tileAnswer t x))) ∧
  (∀ (s : State) (h : LdId) (x : TileId), OwnerTile s h x (0x203 * 256 + 1) 8 → (s.mb h).arg 4 4 = 1 →
     (s.tile x).ctl.state = .off → (s.tile x).eave.format = none → (s.tile x).ctl.pwrPending = false →
     let atOnce := (s.tile x).power.powerCtl ∨ (offMinOk s x = true ∧ spacingOk s = true ∧ sequenceRuns s x = false)
     (atOnce → (s.tile x).active.autoFetch = true → reusable (s.tile x) = false →
       Completes (.tilePowerOn h) s fun t => Moved x s t .fetch .powerOn ∧ OnlyTile x s t ∧
         Completed s t h 0 (tileAnswer t x)) ∧
     (atOnce → ((s.tile x).active.autoFetch = false ∨ reusable (s.tile x) = true) → (s.tile x).ctl.switchPending = false →
       Completes (.tilePowerOn h) s fun t => Moved x s t .held .powerOn ∧ OnlyTile x s t ∧
         Completed s t h 0 (tileAnswer t x)) ∧
     (¬ atOnce → Completes (.tilePowerOn h) s fun t =>
       (t.tile x).ctl = { (s.tile x).ctl with pwrPending := true } ∧ OnlyTile x s t ∧ t.gmode = s.gmode ∧
         Completed s t h 0 (tileAnswer t x)))

/-- TILE_POLICY and TILE_FILTER write the tile's inactive bank; in EARLY and RUN they wait for the switch, which makes it the
bank in force and completes them; elsewhere no platform command is under way and they complete at once; a line of the bank
that does not decode ends them with ST_FAULT and is reported (R448); none of them advances T_GEN (R430). The model's choices
it rests on are in log entry 31. It says of each of these that it completes, with its own effect: .tilePolicy, .tileFilter,
.bankSwitch. -/
def Obligations.BankCommitsWaitForTheSwitch : Prop :=
  ∀ (s : State) (h : LdId) (x : TileId),
    let w := fun off => BitVec.ofNat 32 ((s.mb h).arg off 4)
    let policy := fun b : Tables =>
      { b with policy := w 4, policy2 := w 8, serve := w 12, sweep := w 16, recover := w 20, cls := w 24 }
    let filter := fun b : Tables =>
      { b with filter := w 4, ident := w 8, optab := Vector.ofFn fun i : Fin 256 => w (0x0C + 4 * i.val) }
    (OwnerTile s h x (0x207 * 256) 28 → policyWordsOk (s.mb h) = true →
      ((s.tile x).switching = none → (s.tile x).ctl.state.released = true →
        Completes (.tilePolicy h none) s fun t =>
          t.tile x = { s.tile x with switching := some h, inactive := policy (s.tile x).active } ∧ OnlyTile x s t ∧
            t.gmode = s.gmode ∧ t.mb h = s.mb h ∧ h ∉ t.responder) ∧
      ((s.tile x).switching = none → (s.tile x).ctl.state.released = false →
        Completes (.tilePolicy h none) s fun t => (t.tile x).active = policy (s.tile x).active ∧
          (t.tile x).inactive = policy (s.tile x).active ∧ (t.tile x).switching = none ∧
          (t.tile x).ctl = { (s.tile x).ctl with resetsCapped := (t.tile x).ctl.resetsCapped } ∧ OnlyTile x s t ∧
          t.gmode = s.gmode ∧ Completed s t h 0 (tileAnswer t x)) ∧
      ∀ line, Completes (.tilePolicy h (some line)) s fun t =>
        t.tile x = { s.tile x with inactive := (s.tile x).active } ∧ Completed s t h 11 [] ∧ t.gmode = s.gmode ∧
          Logged s t 482 ∧ (∀ u, u ≠ x → t.tile u = s.tile u) ∧ Only [.mail, .tiles, .events, .memctl] s t) ∧
    (OwnerTile s h x (0x208 * 256) 0x40C → filterWordsOk (s.mb h) = true →
      ((s.tile x).switching = none → (s.tile x).ctl.state.released = true →
        Completes (.tileFilter h none) s fun t =>
          t.tile x = { s.tile x with switching := some h, inactive := filter (s.tile x).active } ∧ OnlyTile x s t ∧
            t.gmode = s.gmode ∧ t.mb h = s.mb h ∧ h ∉ t.responder) ∧
      ((s.tile x).switching = none → (s.tile x).ctl.state.released = false →
        Completes (.tileFilter h none) s fun t => (t.tile x).active = filter (s.tile x).active ∧
          (t.tile x).inactive = filter (s.tile x).active ∧ (t.tile x).switching = none ∧
          (t.tile x).ctl = { (s.tile x).ctl with resetsCapped := (t.tile x).ctl.resetsCapped } ∧ OnlyTile x s t ∧
          t.gmode = s.gmode ∧ Completed s t h 0 (tileAnswer t x)) ∧
      ∀ line, Completes (.tileFilter h (some line)) s fun t =>
        t.tile x = { s.tile x with inactive := (s.tile x).active } ∧ Completed s t h 11 [] ∧ t.gmode = s.gmode ∧
          Logged s t 482 ∧ (∀ u, u ≠ x → t.tile u = s.tile u) ∧ Only [.mail, .tiles, .events, .memctl] s t) ∧
    ((s.tile x).switching = some h →
      Completes (.bankSwitch x) s fun t =>
        t.tile x = ({ s.tile x with active := (s.tile x).inactive, switching := none } : Tile).capResets ∧ OnlyTile x s t ∧
          t.gmode = s.gmode ∧ Completed s t h 0 (tileAnswer t x))

/-- Platform power (R88, R89): PLT_PWR_EN of a pending request is asserted in the cycle the tile enters FETCH or HELD, and
deasserted when pwr_off_delay expires, which starts t_PWR_OFF_MIN of 10 ms. PLT_PGOOD counts as settled after pgood_settle
(R80), and the hour of the reset limit ends with its count (R101). Conditioned inputs (R80, R90 to R95): a qualified PLT_PGOOD
under 64 edges is the effective level; its loss powers a powered tile down with cause PGOOD_LOSS; its absence for t_PGOOD_WAIT
with cause PGOOD_TIMEOUT, but not in LOCKDOWN; under power_ctl EXTERNAL its rise requests power (R80); an alert with action
EVENT changes no state, one with action RESET takes a tile in RUN to HELD; CHATTER and STUCK begin and end as R93 and R94
give. The model's choices it rests on are in log entry 27. It says of each of these that it completes, with its own effect:
.pwrEnAssert, .pwrOffDelayExpiry, .pgoodSettled, .resetLimitHourEnd, .pgoodRise, .pgoodLoss, .pgoodTimeout, .alertAssert,
.chatterExit, .alertStuck, .alertUnstuck. -/
def Obligations.PlatformPowerAndInputs : Prop :=
  (∀ (s : State) (x : TileId),
     ((s.tile x).ctl.state = .off → (s.tile x).ctl.pwrPending = true → (s.tile x).power.pwrDropPending = false →
       fusedOff s x = false → (s.tile x).ctl.switchPending = false →
       Completes (.pwrEnAssert x) s fun t =>
         (t.tile x).ctl.pwrEn = true ∧ (t.tile x).ctl.pwrPending = false ∧ t.attic.pwrTick = some s.attic.tick ∧
           OnlyTile x s t ∧
           Moved x s t (if (s.tile x).active.autoFetch && !reusable (s.tile x) then .fetch else .held)
             (s.tile x).power.pwrCause) ∧
     ((s.tile x).power.pwrDropPending = true →
       Completes (.pwrOffDelayExpiry x) s fun t =>
         t.tile x = { s.tile x with
           ctl := { (s.tile x).ctl with pwrEn := false }
           power := { (s.tile x).power with pwrDropPending := false, offUntil := s.attic.tick + 328 } } ∧
           OnlyTile x s t ∧ t.mbs = s.mbs ∧ t.gmode = s.gmode) ∧
     ((s.tile x).ctl.pgood = true → (s.tile x).ctl.state ≠ .absent → (s.tile x).ctl.state ≠ .off →
       Completes (.pgoodSettled x) s fun t =>
         t.tile x = { s.tile x with power := { (s.tile x).power with settled := true } } ∧ OnlyTile x s t ∧ t.mbs = s.mbs ∧
           t.gmode = s.gmode) ∧
     Completes (.resetLimitHourEnd x) s fun t =>
       t.tile x = { s.tile x with
         ctl := { (s.tile x).ctl with resetsCapped := false }, power := { (s.tile x).power with autoResets := 0 } } ∧
         OnlyTile x s t ∧ t.mbs = s.mbs ∧ t.gmode = s.gmode) ∧
  (∀ (s : State) (x : TileId), s.boot.vddAon = true → fusedOff s x = false →
     ((s.tile x).power.pgoodQ = false → (s.tile x).ctl.pgoodCond = 0 → (s.tile x).power.pgoodEdges.length < 64 →
       ((s.tile x).ctl.state ≠ .off ∨ (s.tile x).power.powerCtl = false ∨ fetchAllowed s x = false) →
       Completes (.pgoodRise x) s fun t =>
         (t.tile x).ctl = { (s.tile x).ctl with pgood := true } ∧ (t.tile x).power.pgoodQ = true ∧ OnlyTile x s t ∧
           t.gmode = s.gmode) ∧
     ((s.tile x).power.pgoodQ = false → (s.tile x).ctl.pgoodCond = 0 → (s.tile x).power.pgoodEdges.length < 64 →
       (s.tile x).ctl.state = .off → (s.tile x).power.powerCtl = true → fetchAllowed s x = true →
       (s.tile x).ctl.switchPending = false →
       Completes (.pgoodRise x) s fun t => (t.tile x).ctl.pgood = true ∧ OnlyTile x s t ∧
         Moved x s t (if (s.tile x).active.autoFetch && !reusable (s.tile x) then .fetch else .held) .pgoodRise) ∧
     ((s.tile x).power.pgoodQ = true → (s.tile x).ctl.pgood = true → (s.tile x).ctl.pgoodCond = 0 →
       (s.tile x).power.pgoodEdges.length < 64 → (s.tile x).ctl.state ≠ .absent → (s.tile x).ctl.state ≠ .off →
       s.gmode.mode ≠ .gate →
       Completes (.pgoodLoss x) s fun t =>
         Moved x s t .off .pgoodLoss ∧ (t.tile x).ctl.pgood = false ∧ OnlyTile x s t ∧ t.gmode = s.gmode) ∧
     (((s.tile x).ctl.state = .held ∨ (s.tile x).ctl.state = .fetch) → (s.tile x).ctl.pwrEn = true →
       (s.tile x).ctl.pgood = false → (s.tile x).active.pgoodTimeout ≠ 0 → s.gmode.mode ≠ .lockdown →
       Completes (.pgoodTimeout x) s fun t => Moved x s t .off .pgoodTimeout ∧ OnlyTile x s t ∧ t.gmode = s.gmode) ∧
     ((s.tile x).active.alertAction = 0 → (s.tile x).ctl.alertCond = 0 → (s.tile x).power.alertEdges.length < 63 →
       Completes (.alertAssert x) s fun t =>
         (t.tile x).ctl = { (s.tile x).ctl with alert := true } ∧ (t.tile x).power.alertQ = true ∧ OnlyTile x s t ∧
           t.gmode = s.gmode) ∧
     ((s.tile x).active.alertAction = 1 → (s.tile x).ctl.alertCond = 0 → (s.tile x).power.alertEdges.length < 63 →
       (s.tile x).ctl.state = .run → (s.tile x).ctl.switchPending = false → s.gmode.mode ≠ .lockdown →
       Completes (.alertAssert x) s fun t =>
         Moved x s t .held .alertReset ∧ (t.tile x).ctl.alert = true ∧ OnlyTile x s t ∧ t.gmode = s.gmode) ∧
     ((s.tile x).ctl.alertCond = 1 →
       Completes (.chatterExit x true) s fun t =>
         (t.tile x).ctl = { (s.tile x).ctl with alertCond := 0, alert := (s.tile x).power.alertQ } ∧ OnlyTile x s t) ∧
     ((s.tile x).power.alertQ = true → (s.tile x).ctl.alertCond = 0 →
       Completes (.alertStuck x) s fun t =>
         (t.tile x).ctl = { (s.tile x).ctl with alertCond := 2, alert := false } ∧ OnlyTile x s t) ∧
     ((s.tile x).power.alertQ = true → (s.tile x).ctl.alertCond = 2 → (s.tile x).power.alertEdges.length < 64 →
       Completes (.alertUnstuck x) s fun t =>
         (t.tile x).ctl = { (s.tile x).ctl with alertCond := 0, alert := false } ∧ (t.tile x).power.alertQ = false ∧
           OnlyTile x s t))

/-! ### Power and start-up (R41 to R45, R70, R393, R490, R491) -/

/-- VDD_AON, the supplies and steps 1 to 3 of COLD (R41): what each starts, and what a loss of power keeps (the OTP array and
the Purlin flash). The model's choices it rests on are in log entries 12, 20. It says of each of these that it completes, with
its own effect: .vddAonOn, .vddAonLoss, .suppliesInRange, .porExpiry, .pllLock, .supplyWarning. -/
def Obligations.PowerAndFirstColdSteps : Prop :=
  ∀ s : State,
    (s.boot.vddAon = false →
      Completes .vddAonOn s fun t => t.boot.vddAon = true ∧ t.boot.phase = .attic ∧ t.attic.cycles = 1 ∧
        t.attic.countersFresh = true ∧ t.gmode = GMode.reset ∧ t.otp.normal = s.otp.normal ∧ t.otp.strict = s.otp.strict ∧
        t.purlin.contents = s.purlin.contents ∧ t.pending = s.pending) ∧
    (Completes .vddAonLoss s fun t => t.boot = Boot.reset ∧ t.tiles = State.reset.tiles ∧ t.mbs = State.reset.mbs ∧
      t.ridge = Ridge.reset ∧ t.otp.normal = s.otp.normal ∧ t.otp.strict = s.otp.strict ∧
      t.purlin.contents = s.purlin.contents ∧ t.pending = s.pending) ∧
    (s.boot.vddAon = true → s.boot.suppliesOk = false → s.boot.phase ≠ .supplyStop →
      Completes .suppliesInRange s fun t => t.gmode.mode = .cold ∧ t.gmode.cause = .powerOn ∧ t.boot.phase = .por ∧
        t.boot.suppliesOk = true ∧ t.attic = s.attic) ∧
    (s.boot.vddAon = true → s.boot.suppliesOk = false → s.boot.phase = .supplyStop →
      Completes .suppliesInRange s fun t => t.gmode.mode = .cold ∧ t.gmode.cause = .supply ∧ t.gmode.prev = s.gmode.prev ∧
        t.boot.phase = .por ∧ t.attic.cycles = (s.attic.cycles + 1) % 2 ^ 32) ∧
    (∀ straps crystal bank, s.boot.phase = .por → s.otp.feature = 0 →
      Completes (.porExpiry straps crystal bank) s fun t => t.boot.phase = .pll ∧ t.attic.crystal = crystal ∧
        t.attic.bank3v3 = bank ∧ t.host.straps = straps ∧ t.host.bifur = (if straps = 3 then 0 else straps) ∧
        t.host.bifCapped = false ∧ t.tiles = s.tiles) ∧
    (s.boot.phase = .pll →
      Completes .pllLock s fun t => t.boot.phase = .sram ∧ t.attic.locked = s.attic.locked ||| 0xF#5 ∧
        t.loft.run = .bootRom ∧ t.tiles = s.tiles) ∧
    (s.boot.vddAon = true → s.boot.suppliesOk = true →
      Completes .supplyWarning s fun t => t.boot.phase = .supplyStop ∧ t.boot.suppliesOk = false ∧
        t.gmode.prev = s.gmode.mode ∧ t.attic.tick = s.attic.tick ∧ t.attic.cycles = s.attic.cycles ∧
        ∀ x : TileId, (t.tile x).ctl.state = .off ∧ (t.tile x).ctl.gen = 0 ∧ (t.tile x).ctl.pwrEn = (s.tile x).ctl.pwrEn)

/-- Steps 4 to 7 of COLD (R41): the sense leaves fused-off tiles ABSENT (R3), step 5 powers the Ridge domain and, its PLL
locked, extends its ROM digest into register 0 (R242); without lock its requests are held (R20); and the training of the
Underlay is reported with the Purlin port's state (R360). The start-up decision (R43): the end of the Ridge ROM check chooses
the mode that follows COLD, and while the Underlay is untrained the device waits in COLD. The model's choices it rests on are
in log entries 20, 22, 59. It says of each of these that it completes, with its own effect: .sramInitDone, .otpSenseDone,
.underlayTrained, .ridgeRomChecked. -/
def Obligations.SenseTrainingAndDecision : Prop :=
  (∀ s : State,
     (∀ kats drift, s.boot.phase = .sram → s.gmode.mode = .cold →
       Completes (.sramInitDone kats drift) s fun t => t.boot.phase = .sense ∧
         ∀ x : TileId, (t.tile x).ctl.state = if fusedOff t x then .absent else (s.tile x).ctl.state) ∧
     (∀ d, s.boot.phase = .sense →
       Completes (.otpSenseDone d false) s fun t => t.boot.phase = .ridge ∧ t.ridge = { s.ridge with powered := true } ∧
         t.boot.ridgeHeld = true ∧ t.keys = s.keys ∧ t.gmode = s.gmode) ∧
     (∀ d, s.boot.phase = .sense → s.ridge.held = [] → (s.reg 0).saturated = false →
       Completes (.otpSenseDone d true) s fun t => t.boot.phase = .ridge ∧ t.ridge.powered = true ∧
         (t.reg 0).value = Config.sha384 (bytesOf 48 (s.reg 0).value ++ bytesOf 48 d) ∧
         (t.reg 0).counter = (s.reg 0).counter + 1 ∧ (t.reg 0).lastBy = 1 ∧ t.boot.ridgeHeld = false ∧ t.gmode = s.gmode) ∧
     (∀ channels answer sig burns, s.boot.phase ∈ [ColdPhase.pll, .sram, .sense, .ridge] → s.boot.underlayDone = false →
       Completes (.underlayTrained channels answer sig burns) s fun t => t.boot.underlayDone = true ∧
         t.memctl.channelUp = channels ∧ t.boot.phase = s.boot.phase ∧ t.gmode = s.gmode ∧
         let found := (discover false 0 none answer).result.val
         t.purlin.state = (if found = 0 then 1 else 0) ∧
         (found ≠ 0 → t.gutter.jState = 3 ∧ t.gutter.overwrite = true))) ∧
  (∀ (s : State) (burns : List Burn), s.boot.phase = .ridge → s.boot.underlayDone = false →
     Completes (.ridgeRomChecked burns) s fun t => t.boot.phase = .decided ∧ t.gmode = s.gmode ∧
       t.boot.decision = some (
         if s.attic.locked.getLsbD 4 = false then (.lockdown, .ridgeClock)
         else if s.boot.romMatch = false then (.lockdown, .ridgeRom)
         else if s.otp.undecodable then (.lockdown, .lifecycle)
         else match s.otp.lifecycle with
           | .raw => (.cold, .raw)
           | .blank => (.await, .blank)
           | .depot => (.depot, .depotFuse)
           | .provisioned =>
             if (regionStatus s 4 = .locked ∨ regionStatus s 4 = .unfinalised) ∧ anchors s ≠ [] then (.gate, .anchors)
             else (.await, .noAnchors)))

/-! ### Firmware loading (R50 to R58, R432) -/

/-- A claim (R50, R57): in AWAIT the device enters LOAD for the claiming mailbox, in a served mode of the owner it enters
MAINTAIN and keeps the mode to return to; both with nothing loaded yet. The loader's content (R53, R54): an accepted manifest
is kept with its digest and nothing verified; a node that matches its verified parent's entry is kept, one that does not gives
ST_FAULT and is not; a block that matches its leaf is kept, one that does not advances the rejected count. No lane computes a
wrong digest in these runs. The model's choices it rests on are in log entry 25. It says of each of these that it completes,
with its own effect: .fwClaim, .fwManifest, .fwTree, .fwBlock. -/
def Obligations.FirmwareLoadThroughAMailbox : Prop :=
  (∀ (s : State) (h : LdId),
     (Taken s h (0x800 * 256) → lengthOf s h = 0 → s.gmode.mode = .await →
       Completes (.fwClaim h) s fun t => t.gmode = { s.gmode with mode := .load, prev := .await, cause := .claim } ∧
         t.fw.phase = .claimed ∧ t.fw.claimMb = h ∧ t.fw.image = none ∧ t.fw.rejected = 0 ∧ t.boot.windowRunning = false ∧
         t.tiles = s.tiles ∧ Completed s t h 0 []) ∧
     (OwnerCommand s h (0x800 * 256) 0 → s.gmode.mode ∈ [DevMode.serve, .barren, .trial] →
       Completes (.fwClaim h) s fun t =>
         t.gmode = { s.gmode with mode := .maintain, prev := s.gmode.mode, cause := .maintainBegin } ∧
         t.boot.maintainFrom = s.gmode.mode ∧ t.fw.phase = .claimed ∧ t.fw.image = none ∧ t.tiles = s.tiles ∧
         Completed s t h 0 []) ∧
     (Taken s h (0x800 * 256) → lengthOf s h = 0 → s.gmode.mode = .gate → s.boot.heldClaim = none →
       Completes (.fwClaim h) s fun t => t.boot.heldClaim = some h ∧ t.gmode = s.gmode ∧ t.mb h = s.mb h) ∧
     (Taken s h (0x800 * 256) → lengthOf s h = 0 → s.gmode.mode = .load →
       Completes (.fwClaim h) s fun t => MailFrame s t ∧ Completed s t h 1 [])) ∧
  (∀ (s : State) (h : LdId), let clean : CmpRuns := { runs := [], again := [], katFail := [] }
     (∀ sig n, LoaderCommand s h (0x801 * 256) n → s.fw.image = none → s.fw.windowRun = none → 256 ≤ n → n ≤ 0x2000 →
       (s.mb h).arg 8 4 = n →
       let m := (s.mb h).bytes 0 n
       Completes (.fwManifest h sig) s fun t =>
         ((checkFirmware s m sig).2 = 0 →
           t.fw.image = some { manifest := m, digest := manifestDigest m, nodes := [], blocks := [] } ∧
           t.fw.phase = .manifest ∧ t.gmode = s.gmode ∧ Completed s t h 0 []) ∧
         ((checkFirmware s m sig).2 ≠ 0 → t.fw.image = none ∧
           (t.mb h).compStatus = BitVec.ofNat 8 (rejectStatus (checkFirmware s m sig).2))) ∧
     (∀ (img : FwImage) (p : Digest), LoaderCommand s h (0x802 * 256) (8 + 1536) → s.fw.image = some img →
       (s.mb h).arg 1 1 = 1 → (s.mb h).arg 2 2 = 0 →
       let level := (s.mb h).arg 0 1
       let idx := (s.mb h).arg 4 4
       let node := (s.mb h).bytes 8 1536
       1 ≤ level → level ≤ treeDepth (blockCount img.manifest) → idx < nodesAt (blockCount img.manifest) level →
       parentEntry img.manifest img.nodes level idx = some p →
       Completes (.fwTree h [clean]) s fun t => t.gmode = s.gmode ∧
         (Config.sha384 node = p →
           t.fw = { s.fw with image := some { img with nodes := assocSet img.nodes (nodeKey level idx) node } } ∧
           Completed s t h 0 []) ∧
         (Config.sha384 node ≠ p → t.fw = s.fw ∧ Completed s t h 11 [])) ∧
     (∀ (img : FwImage) (leaf : Digest) (n : Nat), LoaderCommand s h (0x803 * 256) n → s.fw.image = some img →
       let i := (s.mb h).arg 0 4
       n = 8 + blockLen img.manifest i → i < blockCount img.manifest → (s.mb h).arg 4 4 = 0 →
       leafEntry img.nodes i = some leaf → assocGet img.blocks i = none → img.blocks.length + 1 < blockCount img.manifest →
       s.fw.rejected < 15 →
       let data := (s.mb h).bytes 8 (blockLen img.manifest i)
       Completes (.fwBlock h clean) s fun t => t.gmode = s.gmode ∧
         (Config.sha384 data = leaf →
           t.fw = { s.fw with image := some { img with blocks := assocSet img.blocks i data }, phase := .blocks } ∧
           Completed s t h 0 []) ∧
         (Config.sha384 data ≠ leaf → t.fw = { s.fw with rejected := s.fw.rejected + 1 } ∧ Completed s t h 11 [])))

/-- The ends of a load and the owner's steps in MAINTAIN (R55, R57, R58, R432): FW_ABORT and the idle timer return to AWAIT or
to the mode MAINTAIN came from; FW_ACTIVATE begins the reload of a verified image; FW_WINDOW names push-buffer content;
FW_STATUS reports and changes nothing. FW_PURLIN_STORE writes the image to the Purlin slot the boot ROM would not load, and
FW_SVN_COMMIT burns the increments that are missing (R235, R236). The model's choices it rests on are in log entries 25, 26.
It says of each of these that it completes, with its own effect: .fwAbort, .fwActivate, .fwWindow, .fwStatus, .fwPurlinStore,
.fwSvnCommit. -/
def Obligations.FirmwareCommandsOfMaintain : Prop :=
  ∀ (s : State) (h : LdId),
    (LoaderCommand s h (0x805 * 256) 0 → s.boot.heldClaim = none →
      Completes (.fwAbort h) s fun t => t.gmode = { s.gmode with mode := .await, prev := .load, cause := .loadAbort } ∧
        t.fw.phase = .idle ∧ t.fw.image = none ∧ t.tiles = s.tiles ∧ Completed s t h 0 []) ∧
    (OwnerCommand s h (0x805 * 256) 0 → s.gmode.mode = .maintain → quietMode s.boot.maintainFrom = true →
      Completes (.fwAbort h) s fun t =>
        t.gmode = { s.gmode with mode := s.boot.maintainFrom, prev := .maintain, cause := .maintainAbort } ∧
        t.fw.phase = .idle ∧ t.fw.image = none ∧ t.fw.slot1 = none ∧ t.tiles = s.tiles ∧ Completed s t h 0 []) ∧
    (OwnerCommand s h (0x806 * 256) 0 → s.gmode.mode = .maintain → s.fw.phase = .verified → s.fw.slot0.isSome = true →
      s.otp.senser ≠ some h →
      Completes (.fwActivate h) s fun t => t.loft.run = .reload ∧ t.fw.phase = .reload ∧ t.fw.running = none ∧
        t.gmode = s.gmode ∧ (t.mb h).done = true ∧ (t.mb h).compStatus = 0 ∧ t.responder = [] ∧
        ∀ c i, thatchAt (.inr .loft) c = some i → t.eng.thatch[i] = none) ∧
    (OwnerCommand s h (0x807 * 256) 8 → s.gmode.mode = .maintain → s.fw.image = none → s.fw.windowRun = none →
      (s.mb h).arg 0 4 + (s.mb h).arg 4 4 ≤ 0x20000000 →
      Completes (.fwWindow h) s fun t =>
        t.fw = { s.fw with windowRun := some ((s.mb h).arg 0 4, (s.mb h).arg 4 4) } ∧ t.gmode = s.gmode ∧
        t.tiles = s.tiles ∧ Completed s t h 0 []) ∧
    (Taken s h (0x804 * 256) → lengthOf s h = 0 → s.gmode.mode ∈ DevMode.load :: servedModes →
      Completes (.fwStatus h) s fun t => MailFrame s t ∧
        Completed s t h 0 (packBytes 0x14 [(0, 1, s.fw.phase.code), (1, 1, s.fw.claimMb.val),
          (2, 2, min 0xFFFF s.fw.rejected), (4, 4, fwBlocks s),
          (8, 4, match s.fw.image with | some i => i.blocks.length | none => 0),
          (0x0C, 4, match s.fw.image with | some i => i.nodes.length | none => 0), (0x10, 4, mfSvn (fwManifest s))] ++
          bytesOf 48 (fwDigest s))) ∧
    (∀ img, OwnerCommand s h (0x809 * 256) 0 → s.gmode.mode ∈ [DevMode.serve, .maintain, .barren] →
      s.fw.slot0 = some img → s.purlin.state = 1 →
      Completes (.fwPurlinStore h true) s fun t =>
        t.purlin = { s.purlin with
          contents := pushWrite s.purlin.contents (if bootSlot s then 0x1000000 else 0x1800000) 0x800000 img true } ∧
        t.gmode = s.gmode ∧ t.tiles = s.tiles ∧ t.fw = s.fw ∧ Completed s t h 0 []) ∧
    (∀ img, OwnerCommand s h (0x808 * 256) 4 → s.gmode.mode ∈ [DevMode.serve, .barren] → s.otp.overrides = false →
      s.fw.running = some img → (s.mb h).arg 0 4 ≤ svnCount s 32 → (s.mb h).arg 0 4 ≤ mfSvn img.manifest →
      (s.mb h).arg 0 4 ≤ 64 →
      Completes (.fwSvnCommit h []) s fun t => MailFrame s t ∧ Completed s t h (if otpBusy s h then 1 else 0) []) ∧
    (∀ img, OwnerCommand s h (0x808 * 256) 4 → s.gmode.mode ∈ [DevMode.serve, .doze, .barren] → s.otp.overrides = false →
      s.fw.running = some img → otpBusy s h = false →
      let n := svnCount s 32
      let row := 320 + n / 32
      let want := otpNormal s row ||| 1#32 <<< (n % 32)
      (s.mb h).arg 0 4 = n + 1 → n + 1 ≤ 64 → n + 1 ≤ mfSvn img.manifest → BurnReady s row want →
      otpNormal s row = shadowRow s row →
      Completes (.fwSvnCommit h []) s fun t => svnCount t 32 = n + 1 ∧ otpStrict t row = want ∧ shadowRow t row = want ∧
        (∀ q, q ≠ row → otpNormal t q = otpNormal s q ∧ shadowRow t q = shadowRow s q) ∧ Logged s t 466 ∧
        Only [.otp, .ridge, .events, .mail] s t ∧ Completed s t h 0 [])

/-- Firmware events: the windows that end without a claim, the Purlin copy that is loaded or refused (R51, R236), Imvon's
readiness and its absence (R48, R51, R55, R58), the verified push-buffer content (R432), and the copy of a reload. Lockstep
(R33, R34): a mismatch of pair A hands over to pair B, which finishes every waiting command; one of pair B stops the Loft and
locks the device down, from COLD too (R533); the end of a takeover lets the mailboxes accept commands again. The model's
choices it rests on are in log entries 25, 30, 31, 62. It says of each of these that it completes, with its own effect:
.gateMaxExpiry, .awaitWindowExpiry, .purlinFwLoadDone, .imvonReady, .fwReadyTimeout, .loadIdleExpiry, .reloadCopyDone,
.fwWindowVerified, .lockstepMismatch, .takeoverEnd. -/
def Obligations.FirmwareEventsAndTakeover : Prop :=
  (∀ s : State,
     (s.gmode.mode = .gate → s.boot.heldClaim = none →
       Completes .gateMaxExpiry s fun t => t.gmode = { s.gmode with mode := .await, prev := .gate, cause := .gateDone } ∧
         t.fw.phase = .idle ∧ t.tiles = s.tiles) ∧
     (∀ u, s.gmode.mode = .gate → s.boot.heldClaim = some u →
       Completes .gateMaxExpiry s fun t => t.gmode = { s.gmode with mode := .load, prev := .await, cause := .claim } ∧
         t.fw.phase = .claimed ∧ t.fw.claimMb = u ∧ t.tiles = s.tiles ∧ Completed s t u 0 []) ∧
     (s.gmode.mode = .await → s.boot.windowRunning = true →
       Completes .awaitWindowExpiry s fun t => t.gmode = { s.gmode with mode := .load, prev := .await, cause := .window } ∧
         t.fw.fromPurlin = true ∧ t.fw.phase = .claimed ∧ t.boot.windowRunning = false ∧ t.tiles = s.tiles) ∧
     (∀ sig, s.gmode.mode = .load → s.fw.fromPurlin = true → s.loft.run = .bootRom → s.purlin.state = 1 →
       s.boot.ridgeHeld = false → (s.reg 4).saturated = false → s.boot.heldClaim = none →
       let m := fun f1 => (purlinImage s f1).manifest
       let first := checkFirmware s (m false) sig
       let second := checkFirmware first.1 (m true) sig
       let f1 := chooseSlot (passes9 first.2) (passes9 second.2) (m false) (m true)
       let img := purlinImage s f1
       let sound := (if f1 then second.2 else first.2) = 0 ∧ (imageOk second.1 img []).2 = true
       Completes (.purlinFwLoadDone true sig []) s fun t =>
         (sound → t.loft.run = .released ∧ t.fw.phase = .verified ∧
           t.fw.running = some img ∧ t.fw.slot0 = some img ∧ t.gmode = s.gmode ∧ t.tiles = s.tiles ∧
           (t.reg 4).value = Config.sha384 (bytesOf 48 (s.reg 4).value ++ bytesOf 48 img.digest)) ∧
         (¬sound → t.gmode = { s.gmode with mode := .await, prev := .load, cause := .purlinBad } ∧
           t.boot.purlinBlocked = true ∧ t.loft.run = .bootRom)) ∧
     (∀ sig runs, s.gmode.mode = .load → s.fw.fromPurlin = true → s.loft.run = .bootRom → s.boot.heldClaim = none →
       Completes (.purlinFwLoadDone false sig runs) s fun t =>
         t.gmode = { s.gmode with mode := .await, prev := .load, cause := .purlinBad } ∧ t.boot.purlinBlocked = true ∧
         t.boot.windowRunning = false) ∧
     (s.loft.run = .released → s.gmode.mode = .load →
       Completes .imvonReady s fun t => t.loft.run = .imvon ∧ t.gmode = { s.gmode with
           mode := if s.otp.lifecycle = .blank then .provision else if s.gmode.barren then .barren else .serve
           prev := .load, cause := .loadDone
           fwFromPurlin := s.fw.fromPurlin, loaderMb := if s.fw.fromPurlin then 0 else s.fw.claimMb } ∧
         t.host.loaderAlive = (!s.fw.fromPurlin && (upLds s).getLsbD s.fw.claimMb.val) ∧
         t.host.stayed = upLds s ∧ t.fw.phase = .idle ∧
         (s.otp.lifecycle ≠ .blank → t.tiles = s.tiles)) ∧
     (s.loft.run = .reload → s.fw.running.isSome = true → s.fw.image.isSome = true → s.gmode.mode = .maintain →
       quietMode s.boot.maintainFrom = true → s.boot.heldLockdown = none →
       Completes .imvonReady s fun t => t.loft.run = .imvon ∧ t.loft.onPairB = false ∧
         t.gmode = { s.gmode with
           mode := s.boot.maintainFrom, prev := .maintain, cause := .maintainDone
           fwFromPurlin := false, loaderMb := s.fw.claimMb } ∧
         t.host.loaderAlive = (s.host.loaderAlive && s.host.stayed.getLsbD s.fw.claimMb.val) ∧
         t.fw.slot0 = s.fw.slot1 ∧ t.fw.slot1 = s.fw.slot0 ∧ t.fw.phase = .idle) ∧
     (s.loft.run = .reload → s.fw.running.isSome = true → s.fw.image = none → s.gmode.mode = .maintain →
       quietMode s.boot.maintainFrom = true → s.boot.heldLockdown = none →
       Completes .imvonReady s fun t => t.loft.run = .imvon ∧ t.loft.onPairB = false ∧
         t.gmode = { s.gmode with mode := s.boot.maintainFrom, prev := .maintain, cause := .maintainFallback } ∧
         t.fw.slot0 = s.fw.slot0 ∧ t.fw.phase = .idle) ∧
     (s.loft.run = .released → s.gmode.mode = .load → s.boot.heldClaim = none →
       Completes .fwReadyTimeout s fun t => t.loft.run = .bootRom ∧ t.fw.running = none ∧
         t.gmode = { s.gmode with mode := .await, prev := .load, cause := .fwNotReady }) ∧
     (s.gmode.mode = .load → s.loft.run = .bootRom → s.fw.fromPurlin = false → s.boot.heldClaim = none →
       Completes .loadIdleExpiry s fun t => t.gmode = { s.gmode with mode := .await, prev := .load, cause := .loadIdle } ∧
         t.fw.phase = .idle ∧ t.fw.image = none) ∧
     (∀ img, s.loft.run = .reload → s.fw.running = none → s.fw.image.isSome = true → s.fw.slot1 = some img →
       s.boot.heldLockdown = none → s.boot.ridgeHeld = false → (s.reg 4).saturated = false →
       (∀ b < blockCount img.manifest, ∃ d l, assocGet img.blocks b = some d ∧ leafEntry img.nodes b = some l ∧
         Config.sha384 (d.take (blockLen img.manifest b)) = l) →
       Completes (.reloadCopyDone [] []) s fun t => t.fw.running = some img ∧ t.gmode = s.gmode ∧
         (t.reg 4).value = Config.sha384 (bytesOf 48 (s.reg 4).value ++ bytesOf 48 img.digest) ∧ (t.reg 4).lastBy = 1) ∧
     (∀ img b d l, s.loft.run = .reload → s.fw.running = none → s.fw.image.isSome = true → s.fw.slot1 = some img →
       b < blockCount img.manifest → leafEntry img.nodes b = some l → Config.sha384 (d.take (blockLen img.manifest b)) ≠ l →
       Completes (.reloadCopyDone [(b, d)] []) s fun t => t.fw.running = none ∧ t.fw.image = none ∧ t.ridge = s.ridge ∧
         t.gmode = s.gmode) ∧
     (∀ off count sig, s.fw.windowRun = some (off, count) → s.gmode.mode = .maintain → s.fw.phase = .claimed →
       let read := fun a n => Memory.read 0xFF s.memctl.push (off + a) n
       let m := pushManifest read
       let whole := formatOk m = true ∧ count = mfImageLen m ∧ off + pushLen m ≤ 0x20000000 ∧
         poisonIn s 32 off (pushLen m) = false ∧ (checkFirmware s m sig).2 = 0 ∧
         (imageOk (checkFirmware s m sig).1 (pushImage read) []).2 = true
       (whole → Completes (.fwWindowVerified sig []) s fun t => t.fw.phase = .verified ∧ t.fw.image = some (pushImage read) ∧
         t.fw.slot1 = some (pushImage read) ∧ t.fw.windowRun = none ∧ t.gmode = s.gmode ∧ t.tiles = s.tiles) ∧
       (¬ whole → quietMode s.boot.maintainFrom = true →
         Completes (.fwWindowVerified sig []) s fun t => t.fw.phase = .idle ∧ t.fw.slot1 = none ∧ t.fw.windowRun = none ∧
           t.gmode = { s.gmode with mode := s.boot.maintainFrom, prev := .maintain, cause := .maintainAbort }))) ∧
  (∀ s : State,
     (s.loft.run = .imvon → s.loft.onPairB = false → s.gmode.mode ∈ [DevMode.serve, .doze, .barren, .trial] →
       Completes .lockstepMismatch s fun t => t.loft.onPairB = true ∧ t.loft.run = .imvon ∧
         t.loft.takeover.isSome = true ∧ t.responder = [] ∧ t.gmode = s.gmode) ∧
     (s.loft.run = .imvon → s.loft.onPairB = true → s.gmode.mode ∈ [DevMode.serve, .doze, .barren, .trial] →
       Completes .lockstepMismatch s fun t => t.loft.run = .stopped ∧ t.loft.takeover = none ∧
         t.gmode = { s.gmode with mode := .lockdown, prev := s.gmode.mode, cause := .loft }) ∧
     (s.loft.run = .bootRom → s.loft.onPairB = true → s.gmode.mode = .cold →
       Completes .lockstepMismatch s fun t => t.loft.run = .stopped ∧ t.boot.phase = .ended ∧ t.boot.decision = none ∧
         t.gmode = { s.gmode with mode := .lockdown, prev := .cold, cause := .loft }) ∧
     (∀ us, s.loft.takeover.isSome = true →
       Completes (.takeoverEnd us) s fun t => t.loft.takeover = none ∧ t.loft.run = s.loft.run ∧ t.gmode = s.gmode ∧
         t.tiles = s.tiles))

/-! ### DEVICE_ commands (R59, R60, R63, R64, R67, R69, R427, R428) -/

/-- DEVICE_STATUS reports in every mode and changes nothing (R427); a DEVICE_ command with the wrong confirmation word is
ST_BAD_ARG and changes nothing (R421, R427). DEVICE_RESET (R69, R491): COLD is entered with cause RESET_CMD, the mode left in
prev_mode and one more power cycle counted; every domain but the Attic is reset, so every mailbox, ridge register and tile is
at its reset value but for the tiles' control lines and conditioned inputs; the OTP array, the Purlin flash and the clock
stay. DEVICE_OWNER_CFG (R407, R427): a configuration that passes its checks is written to its area of the Purlin flash and
read back; one that fails a check is refused with the status of that check and the flash stays as it was. The model's choices
it rests on are in log entries 4, 19, 22. It says of each of these that it completes, with its own effect: .deviceStatus,
.deviceReset, .deviceLockdown, .deviceDepot, .deviceOwnerCfg. -/
def Obligations.DeviceStatusResetAndOwner : Prop :=
  (∀ (s : State) (h : LdId),
     (Taken s h (0x100 * 256) → lengthOf s h = 0 →
       Replies (.deviceStatus h) s h 0 (packBytes 0x30 [(0, 4, (gMode s).toNat), (4, 4, (gFeature s).toNat),
         (8, 4, (gOtpRegion s).toNat), (0x0C, 4, (gHostStat s).toNat), (0x10, 1, roleCode s h), (0x14, 4, s.attic.cycles),
         (0x18, 4, s.attic.hours), (0x20, 8, fwVersion s), (0x28, 2, Config.ridgeIssue.toNat)])) ∧
     (OwnerCommand s h (0x101 * 256) 4 → s.gmode.mode ∈ DevMode.lockdown :: servedModes →
       (s.mb h).bytes 0 4 ≠ ascii "RSET" → Replies (.deviceReset h) s h 6 []) ∧
     (OwnerCommand s h (0x105 * 256) 4 → s.gmode.mode ∈ servedModes →
       (s.mb h).bytes 0 4 ≠ ascii "LOCK" → Replies (.deviceLockdown h) s h 6 []) ∧
     (OwnerCommand s h (0x106 * 256) 4 → s.gmode.mode ∈ [DevMode.serve, .barren, .trial, .lockdown] →
       (s.mb h).bytes 0 4 ≠ ascii "DPOT" → ∀ burns, Completes (.deviceDepot h burns) s fun t =>
         WokeNow [.mail] s t ∧ Completed s t h 6 [])) ∧
  (∀ (s : State) (h : LdId), OwnerCommand s h (0x101 * 256) 4 → s.gmode.mode ∈ DevMode.lockdown :: servedModes →
     (s.mb h).bytes 0 4 = ascii "RSET" →
     Completes (.deviceReset h) s fun t =>
       t.gmode = { GMode.reset with prev := s.gmode.mode, cause := .resetCmd } ∧ t.boot.phase = .por ∧
       t.boot.suppliesOk = s.boot.suppliesOk ∧ t.attic.tick = s.attic.tick ∧ t.attic.hours = s.attic.hours ∧
       t.attic.cycles = (s.attic.cycles + 1) % 2 ^ 32 ∧ t.attic.cycleTick = s.attic.tick ∧
       t.mbs = State.reset.mbs ∧ t.responder = [] ∧ t.ridge = Ridge.reset ∧ t.tiles = s.tiles.map Tile.coldReset ∧
       t.otp.normal = s.otp.normal ∧ t.otp.strict = s.otp.strict ∧ t.otp.shadow = [] ∧
       t.purlin.contents = s.purlin.contents ∧ t.keys.slots = Keys.reset.slots ∧ t.pending = s.pending) ∧
  (∀ (s : State) (h : LdId) (sig : RafterRun) (n : Nat), OwnerCommand s h (0x107 * 256) n →
     s.gmode.mode ∈ [DevMode.serve, .doze, .barren] → ownerCfgLen s (s.mb h) = 0 → s.purlin.state = 1 →
     let c := (s.mb h).bytes 0 n
     Completes (.deviceOwnerCfg h sig true) s fun t =>
       ((checkOwnerCfg s c sig).2 = 0 →
         t.purlin = { s.purlin with
           contents := Memory.write 0xFF (Memory.erase s.purlin.contents 0xF00000 (0x50 + 7428)) 0xF00000 c } ∧
         Completed s t h 0 []) ∧
       ((checkOwnerCfg s c sig).2 ≠ 0 → t.purlin = s.purlin ∧
         Completed s t h (ownerCfgStatus (checkOwnerCfg s c sig).2) []) ∧
       t.host.ownerDigest = s.host.ownerDigest ∧ Only [.eng, .purlin, .events, .mail] s t)

/-- DEVICE_DOZE sets the arming and the hold, 100 ms where it is given as 0, and DEVICE_WAKE leaves DOZE (R59, R60). DOZE is
entered when its conditions have held (R59), and any trigger leaves it (R60); outside DOZE a trigger only cancels an entry of
the same moment (R61). It says of each of these that it completes, with its own effect: .deviceDoze, .deviceWake,
.dozeHoldExpiry, .dozeWake. -/
def Obligations.DozeIsEnteredAndLeft : Prop :=
  (∀ (s : State) (h : LdId),
     (∀ arm hold, OwnerCommand s h (0x102 * 256) 8 → s.gmode.mode ∈ [DevMode.serve, .doze] → (s.mb h).arg 0 1 = arm →
       (s.mb h).arg 1 3 = 0 → (s.mb h).arg 4 4 = hold → arm ≤ 1 → (hold = 0 ∨ 10 ≤ hold ∧ hold ≤ 10000) →
       Completes (.deviceDoze h) s fun t => t.gmode = { s.gmode with dozeArmed := decide (arm = 1) } ∧
         t.boot = { s.boot with dozeHold := if hold = 0 then 100 else hold } ∧ Only [.gmode, .boot, .mail] s t ∧
         Completed s t h 0 []) ∧
     (OwnerCommand s h (0x102 * 256) 8 → s.gmode.mode ∈ [DevMode.serve, .doze] →
       (1 < (s.mb h).arg 0 1 ∨ 0 < (s.mb h).arg 4 4 ∧ (s.mb h).arg 4 4 < 10 ∨ 10000 < (s.mb h).arg 4 4) →
       Replies (.deviceDoze h) s h 6 []) ∧
     (OwnerCommand s h (0x103 * 256) 0 → s.gmode.mode ∈ [DevMode.serve, .doze] →
       Completes (.deviceWake h) s fun t => t.gmode = wokenMode s ∧ Only [.gmode, .attic, .memctl, .events, .mail] s t ∧
         Completed s t h 0 [])) ∧
  (∀ s : State,
     (s.gmode.mode = .serve → s.gmode.dozeArmed = true →
       (∀ x ∈ s.tiles.toList, x.ctl.state ∉ [TileState.fetch, .early, .restore] ∧ x.ctl.stage = false ∧
         thatchQuiet x = true ∧ sweepDueIn s x (msTicks s.boot.dozeHold) = false) → s.boot.wakeTick ≠ some s.attic.tick →
       Completes .dozeHoldExpiry s fun t => t.gmode = { s.gmode with mode := .doze, prev := .serve, cause := .dozeEnter } ∧
         Only [.gmode, .attic, .memctl, .events] s t) ∧
     ((s.gmode.mode ≠ .serve ∨ s.gmode.dozeArmed = false ∨ s.boot.wakeTick = some s.attic.tick) →
       Completes .dozeHoldExpiry s fun t => t = s) ∧
     (s.gmode.mode = .doze → Completes .dozeWake s fun t =>
       t.gmode = { s.gmode with mode := .serve, prev := .doze, cause := .wake } ∧ t.attic.sparStopped = false ∧
         t.memctl.selfRefresh = false ∧ Only [.gmode, .attic, .memctl, .events] s t) ∧
     (s.gmode.mode ≠ .doze → Completes .dozeWake s fun t =>
       t = if s.gmode.mode = .serve then { s with boot := { s.boot with wakeTick := some s.attic.tick } } else s))

/-- DEVICE_TRIAL (R63, R242, R334): an override set within the limits puts the device in TRIAL, extends the request into
register 6 with its trial flag set, and leaves the fuses alone; one beyond them is ST_BAD_ARG. The owner digest changes only
where the set selects it. DEVICE_LOCKDOWN (R64, R102) and DEVICE_DEPOT (R67, R102): the first keeps every released tile
released; the second powers every tile down, empties every key slot, or holds that at the boundary while the Ridge domain's
port is held (R20), and stops Imvon. The model's choices it rests on are in log entries 11, 24. It says of each of these that
it completes, with its own effect: .deviceTrial, .deviceLockdown, .deviceDepot. -/
def Obligations.TrialLockdownAndDepot : Prop :=
  (∀ (s : State) (h : LdId), OwnerCommand s h (0x104 * 256) 0x370 → s.gmode.mode = .serve →
     s.boot.ridgeHeld = false →
     (overridesOk s (s.mb h) = true → (s.reg 6).saturated = false →
       Completes (.deviceTrial h) s fun t =>
         t.gmode = { s.gmode with mode := .trial, prev := .serve, cause := .trialCmd, trial := true } ∧
         t.otp.overrides = true ∧ t.otp.normal = s.otp.normal ∧ t.otp.strict = s.otp.strict ∧
         (t.reg 6).value = Config.sha384 (bytesOf 48 (s.reg 6).value ++
           bytesOf 48 (Config.sha384 ((s.mb h).bytes 0 0x370))) ∧ (t.reg 6).trial = true ∧ (t.reg 6).lastBy = 1 ∧
         (bitOf (BitVec.ofNat 32 ((s.mb h).arg 0 4)) 4 = false → t.host.ownerDigest = s.host.ownerDigest) ∧
         (bitOf (BitVec.ofNat 32 ((s.mb h).arg 0 4)) 5 = false → t.otp.policyOverridden = s.otp.policyOverridden) ∧
         ((s.mb h).arg 0 4 = 0 → t.otp.shadow = s.otp.shadow) ∧
         Only [.gmode, .boot, .otp, .host, .ridge, .attic, .memctl, .events, .mail] s t ∧ Completed s t h 0 []) ∧
     (overridesOk s (s.mb h) = false → Completes (.deviceTrial h) s fun t => WokeNow [.mail] s t ∧ Completed s t h 6 [])) ∧
  (∀ (s : State) (h : LdId),
     (OwnerCommand s h (0x105 * 256) 4 → s.gmode.mode ∈ servedModes → (s.mb h).bytes 0 4 = ascii "LOCK" → s.boot.heldClaim = none →
       Completes (.deviceLockdown h) s fun t => LockedDown [.mail] s t .lockCmd ∧ Completed s t h 0 []) ∧
     (∀ burns, OwnerCommand s h (0x106 * 256) 4 → s.gmode.mode ∈ [DevMode.serve, .barren, .trial, .lockdown] →
       (s.mb h).bytes 0 4 = ascii "DPOT" → otpBusy s h = false →
       Completes (.deviceDepot h burns) s fun t =>
         t.gmode = { s.gmode with mode := .depot, prev := s.gmode.mode, cause := .depotCmd } ∧
         (∀ x : TileId, (t.tile x).ctl.pwrPending = false ∧
           (t.tile x).ctl.state = if (s.tile x).ctl.state = .absent then .absent else .off) ∧
         (s.boot.ridgeHeld = false → ∀ i : Fin 256, t.slot i = KeySlot.reset) ∧
         (s.boot.ridgeHeld = true → ∀ i : Fin 256, KeyReq.destroy i ∈ t.keys.held ∧ t.slot i = s.slot i) ∧
         t.loft.run = .bootRom ∧ t.fw = { s.fw with running := none } ∧
         Only [.gmode, .boot, .attic, .memctl, .otp, .ridge, .keys, .eng, .tiles, .loft, .fw, .events, .mail] s t ∧
         Completed s t h 0 []))

/-! ### Clocks and sensors (R20, R490 to R497) -/

/-- A PLL that loses lock holds its clock, and the RIDGE PLL the requests of its domain, which run in their order on relock;
its relock resumes it, and a failed relock takes the supply action (R493), or for the RIDGE PLL locks the device down (R20).
The loss of the crystal moves the Attic domain to the RC (R490). It says of each of these that it completes, with its own
effect: .ridgePllLoss, .ridgeRelockResult, .pllLockLoss, .pllRelockResult, .crystalLoss. -/
def Obligations.ClocksHoldAndResume : Prop :=
  ∀ s : State,
    (s.ridge.powered = true → Completes .ridgePllLoss s fun t =>
      t = { s with
        boot := { s.boot with ridgeHeld := true }, attic := { s.attic with locked := s.attic.locked &&& 0x0F#5 } }) ∧
    (s.boot.ridgeHeld = true → Completes (.ridgeRelockResult true) s fun t =>
      t.boot = { s.boot with ridgeHeld := false } ∧ t.attic = { s.attic with locked := s.attic.locked ||| 0x10#5 } ∧
        t.ridge.held = [] ∧ t.keys.held = [] ∧ (s.ridge.held = [] → t.ridge = s.ridge) ∧
        (s.keys.held = [] → t.keys = s.keys) ∧
        (∀ i, s.keys.held = [.destroy i] → t.slot i = KeySlot.reset ∧ ∀ j, j ≠ i → t.slot j = s.slot j) ∧
        (∀ i, s.keys.held = [.advance i] → t.slot i = { s.slot i with counter := (s.slot i).counter + 1 } ∧
          ∀ j, j ≠ i → t.slot j = s.slot j) ∧
        (∀ r who kind gen d, s.ridge.held = [.extend r who kind gen d] → (s.reg r).saturated = false →
          (t.reg r).value = Config.sha384 (bytesOf 48 (s.reg r).value ++ bytesOf 48 d) ∧
          (t.reg r).counter = (s.reg r).counter + 1 ∧ ∀ q, q ≠ r → t.reg q = s.reg q) ∧
        Only [.boot, .attic, .ridge, .keys, .eng, .events, .mail] s t) ∧
    (s.boot.ridgeHeld = true → LockableNow s →
      Completes (.ridgeRelockResult false) s fun t => LockedDown [] s t .ridgeClock) ∧
    (∀ u, s.boot.ridgeHeld = true → s.gmode.mode = .gate → s.boot.heldClaim = some u → s.loft.run = .bootRom →
      Completes (.ridgeRelockResult false) s fun t =>
        t.gmode = { s.gmode with mode := .lockdown, prev := .gate, cause := .ridgeClock } ∧ Completed s t u 5 []) ∧
    (∀ pll : Fin 4, s.attic.locked.getLsbD pll.val = true → Completes (.pllLockLoss pll) s fun t =>
      t = { s with attic := { s.attic with
        locked := putBit s.attic.locked pll.val false, clocksHeld := putBit s.attic.clocksHeld pll.val true } }) ∧
    (∀ (pll : Fin 4) (us : Nat), s.boot.vddAon = true → s.boot.suppliesOk = true →
      s.attic.locked.getLsbD pll.val = false →
      Completes (.pllRelockResult pll true us) s (fun t =>
        t.attic = { s.attic with
          locked := putBit s.attic.locked pll.val true, clocksHeld := putBit s.attic.clocksHeld pll.val false
          relocks := satInc 0xFF s.attic.relocks } ∧
          Logged s t 500 ∧ Only [.attic, .events, .mail] s t) ∧
      Completes (.pllRelockResult pll false us) s fun t => t.boot.phase = .supplyStop ∧ t.boot.suppliesOk = false ∧
        t.gmode.prev = s.gmode.mode ∧ t.tiles = s.tiles.map Tile.coldReset) ∧
    (s.attic.crystal = true → Completes .crystalLoss s fun t =>
      t.attic = { s.attic with crystal := false, xtalLost := true } ∧ Logged s t 500 ∧ Only [.attic, .events] s t)

/-- Temperature (R494, R495, R497): a reading is stored with its conditions, each entered at its threshold and left 5 °C below
it; entering the critical condition locks the device down with cause SENSOR. Supply monitors (R496): a warning is recorded, a
low warning of a supply monitor takes the supply action, and a critical level locks the device down with cause SENSOR; R491:
1/256 hour. The model's choices it rests on are in log entry 29. It says of each of these that it completes, with its own
effect: .tempSample, .vmonCrossing, .hoursTick. -/
def Obligations.SensorsAndMonitors : Prop :=
  (∀ (s : State) (site : Fin 8) (deci : Int), s.boot.vddAon = true → s.boot.suppliesOk = true →
     let warnAt : Int := if site.val < 6 then 1000 else 950
     let critAt : Int := if site.val < 6 then 1150 else 1050
     let x := s.attic.sites[site]
     let after := { x with
       deci := deci, warn := decide (warnAt ≤ deci) || (x.warn && decide (warnAt - 50 < deci))
       crit := decide (critAt ≤ deci) || (x.crit && decide (critAt - 50 < deci)) }
     ((deci < critAt ∨ x.crit = true) →
       Completes (.tempSample site deci) s fun t =>
         t.attic = { s.attic with sites := s.attic.sites.set site.val after site.isLt } ∧
         (x.warn = false → warnAt ≤ deci → Logged s t 496) ∧ Only [.attic, .events] s t) ∧
     (critAt ≤ deci → x.crit = false → LockableNow s →
       Completes (.tempSample site deci) s fun t =>
         t.attic.sites = s.attic.sites.set site.val after site.isLt ∧ LockedDown [] s t .sensor)) ∧
  (∀ s : State,
     (∀ (mon : Fin 12) (mv : Nat), s.boot.vddAon = true → s.boot.suppliesOk = true →
       let old := s.attic.vmon[mon]
       let level := vmonLevel (vmonNominal s mon) (vmonLimits mon).1 (vmonLimits mon).2 mv old
       let after := { s.attic with
         vmon := s.attic.vmon.set mon.val level mon.isLt
         vppIn := if mon.val = 11 then vmonWithin 2500 4 mv else s.attic.vppIn }
       ((old = level ∨ (mon.val = 11 ∧ s.gmode.mode ≠ .provision)) →
         Completes (.vmonCrossing mon mv) s fun t => t = { s with attic := after }) ∧
       (old ≠ level → (mon.val ≠ 11 ∨ s.gmode.mode = .provision) →
         ((level = .ok ∨ level = .warnHigh ∨ (level = .warnLow ∧ supplyMonitor mon.val = false)) →
           Completes (.vmonCrossing mon mv) s fun t => t.attic = after ∧ (level = .warnLow → Logged s t 498) ∧
             (level = .warnHigh → old ≠ .critical → Logged s t 498) ∧ Only [.attic, .events] s t) ∧
         (level = .warnLow → (mon.val < 2 ∨ 5 ≤ mon.val ∧ mon.val ≤ 10) →
           Completes (.vmonCrossing mon mv) s fun t => t.boot.phase = .supplyStop ∧
             t.boot.suppliesOk = false ∧ t.gmode.prev = s.gmode.mode ∧ t.otp.normal = s.otp.normal ∧
             t.tiles = s.tiles.map Tile.coldReset) ∧
         (level = .critical → LockableNow s →
           Completes (.vmonCrossing mon mv) s fun t => t.attic.vmon = after.vmon ∧ Logged s t 499 ∧
             LockedDown [] s t .sensor))) ∧
     (s.boot.vddAon = true → Completes .hoursTick s fun t =>
       let hours := (s.attic.hours + 1) % 2 ^ 32
       t = { s with
         attic := { s.attic with hours := hours }
         eng := { s.eng with hourFailures := if hours % 256 = 0 then 0 else s.eng.hourFailures } }))

/-! ### OTP (R317 to R336, R436) -/

/-- OTP_STATUS and OTP_READ report the status words and the shadows, which never show ROOT (R17, R329, R436), and change
nothing; a range that leaves the array is ST_BAD_ARG. A word burned with OTP_PROGRAM verifies at STRICT and its shadow follows
(R326, R327, R329): the row alone changes. A word that leaves out a burned bit is ST_BAD_ARG, a finalised region is ST_DENIED,
and neither burns anything. The model's choices it rests on are in log entry 28. It says of each of these that it completes,
with its own effect: .otpStatus, .otpRead, .otpProgram. -/
def Obligations.OtpReadsAndPrograms : Prop :=
  (∀ (s : State) (h : LdId), s.gmode.mode ∈ imvonModes →
     (Taken s h (0x600 * 256) → lengthOf s h = 0 →
       Replies (.otpStatus h) s h 0 (bytesOf 4 (gOtpRegion s) ++ bytesOf 4 (gOtpStat s))) ∧
     (∀ first n, Taken s h (0x601 * 256) → lengthOf s h = 4 → (s.mb h).arg 0 2 = first → (s.mb h).arg 2 2 = n →
       (n ≠ 0 → first + n ≤ 2048 →
         Replies (.otpRead h) s h 0 ((List.range n).flatMap fun i => bytesOf 4 (shadowRow s (first + i)))) ∧
       ((n = 0 ∨ 2048 < first + n) → Replies (.otpRead h) s h 6 []))) ∧
  (∀ (s : State) (h : LdId) (r : Nat) (v : Word), Canonical s → ProvisionCommand s h (0x602 * 256) 8 → (s.mb h).arg 0 2 = r →
     (s.mb h).arg 2 2 = 1 → BitVec.ofNat 32 ((s.mb h).arg 4 4) = v → programmable r = true → OtpReady s h →
     ((∀ l, rowLock r = some l → regionStatus s l = .unfinalised) → BurnReady s r v →
       Completes (.otpProgram h []) s fun t =>
         otpNormal t r = v ∧ otpStrict t r = v ∧ shadowRow t r = v ∧
         (∀ q, q ≠ r → otpNormal t q = otpNormal s q ∧ otpStrict t q = otpStrict s q ∧ shadowRow t q = shadowRow s q) ∧
         t.otp.status = s.otp.status ∧ Only [.otp, .ridge, .events, .mail] s t ∧ Completed s t h 0 (leBytes 2 1)) ∧
     ((∀ l, rowLock r = some l → regionStatus s l = .unfinalised) → (∀ x ∈ redirections s, x.1 ≠ r) →
       otpNormal s r &&& ~~~v ≠ 0 →
       Completes (.otpProgram h []) s fun t =>
         t.otp = { s.otp with behind := t.otp.behind } ∧ Completed s t h 6 []) ∧
     ((∃ l, rowLock r = some l ∧ regionStatus s l ≠ .unfinalised) → Replies (.otpProgram h []) s h 5 []))

/-- OTP_UDS draws the device secret into ROOT and derives the slots that rest on it, the secret itself being cleared after
that (R309, R336); ROOT not blank is ST_DENIED. OTP_FINALISE burns the digest of a region into a blank slot and its lock bits,
and the region is LOCKED (R330); a region LOCKED already completes with that status, one in FAULT is ST_DENIED. OTP_LIFECYCLE
burns L1 and the lifecycle is PROVISIONED (R320, R336). The model's choices it rests on are in log entry 28. It says of each
of these that it completes, with its own effect: .otpUds, .otpFinalise, .otpLifecycle. -/
def Obligations.ProvisioningBurns : Prop :=
  (∀ (s : State) (h : LdId), ProvisionCommand s h (0x603 * 256) 0 →
     (OtpReady s h → (∀ i, i < 8 → otpNormal s (8 + i) = 0 ∧ otpStrict s (8 + i) = 0) → s.otp.redirected = [] →
       redirections s = [] → s.eng.source = 1 → s.eng.inst0Ready = true →
       Completes (.otpUds h []) s fun t =>
         (∀ b, (drawUds 8 s).2 = .ok b →
           ofBytes 256 b = rootNow t ∧ t.keys.uds = none ∧
           (t.slot 0).material = systemMaterial (systemSlot s 0) (bytesOf 32 (rootNow t)) ∧
           (∀ i ∈ [(0 : Fin 256), 1, 3, 4, 7], (t.slot i).state = .valid ∧ (t.slot i).system = true ∧
             (t.slot i).exportable = false) ∧ Completed s t h 0 []) ∧
         (∀ st, (drawUds 8 s).2 = .error st → t.otp = { s.otp with behind := t.otp.behind } ∧ t.keys = s.keys ∧ Completed s t h st []) ∧
         (∀ q, (q < 8 ∨ 16 ≤ q) → otpNormal t q = otpNormal s q) ∧ t.otp.shadow = s.otp.shadow ∧
         Only [.otp, .keys, .eng, .events, .mail] s t) ∧
     (otpClosed s h = 0 → (∃ i, i < 8 ∧ (effNormal s (8 + i) ≠ 0 ∨ effStrict s (8 + i) ≠ 0)) → Replies (.otpUds h []) s h 5 []) ∧
     (otpClosed s h ≠ 0 → Replies (.otpUds h []) s h (otpClosed s h) [])) ∧
  (∀ (s : State) (h : LdId),
     (∀ r : Fin 5, ProvisionCommand s h (0x604 * 256) 4 → (s.mb h).arg 0 1 = r.val → (s.mb h).arg 1 3 = 0 →
       (regionStatus s r = .unfinalised → OtpReady s h → s.otp.redirected = [] → redirections s = [] →
         (∀ x ∈ slotRows r 0, otpNormal s x = 0 ∧ otpStrict s x = 0) → (r = 1 → rootNow s ≠ 0) →
         Completes (.otpFinalise h []) s fun t => regionStatus t r = .locked ∧
           (∀ q, q ≠ r → regionStatus t q = regionStatus s q) ∧
           (∀ q, q < 322 → otpNormal t q = otpNormal s q) ∧ Only [.otp, .mail] s t ∧ Completed s t h 0 (leBytes 1 1)) ∧
       (regionStatus s r = .locked → otpClosed s h = 0 → Replies (.otpFinalise h []) s h 0 (leBytes 1 1)) ∧
       (regionStatus s r = .fault → otpClosed s h = 0 → Replies (.otpFinalise h []) s h 5 []) ∧
       (otpClosed s h ≠ 0 → Replies (.otpFinalise h []) s h (otpClosed s h) [])) ∧
     (ProvisionCommand s h (0x605 * 256) 4 → (s.mb h).bytes 0 4 = ascii "PROV" → s.otp.lifecycle = .blank →
       regionStatus s 0 = .locked → regionStatus s 1 = .locked → regionStatus s 2 = .locked → OtpReady s h →
       BurnReady s 1 (BitVec.allOnes 32) → rowSet (shadowRow s 0) = 2 → rowSet (shadowRow s 2) = 0 →
       rowSet (shadowRow s 3) = 0 →
       Completes (.otpLifecycle h []) s fun t => t.otp.lifecycle = .provisioned ∧ t.otp.lcBurned = true ∧
         shadowRow t 1 = BitVec.allOnes 32 ∧ t.otp.status = s.otp.status ∧ Only [.otp, .events, .mail] s t ∧
         Completed s t h 0 []) ∧
     (ProvisionCommand s h (0x605 * 256) 4 → (s.mb h).bytes 0 4 = ascii "PROV" → s.otp.lifecycle ≠ .blank →
       Replies (.otpLifecycle h []) s h (if otpClosed s h = 0 then 5 else otpClosed s h) []))

/-- OTP_REVOKE burns the whole row of its key and only that (R321, R326); a key revoked already completes at once. OTP_REPAIR
re-pulses a marginal monotonic row, which then reads alike at both margins, and moves no shadow (R326, R332). Re-sense (R333):
a command or a trigger starts one, a trigger while an operation runs waits, and its end reports what it found, changes no
shadow and completes the command. The model's choices it rests on are in log entry 28. It says of each of these that it
completes, with its own effect: .otpRevoke, .otpRepair, .otpResense, .resenseTrigger, .resenseDone. -/
def Obligations.RevokeRepairAndResense : Prop :=
  (∀ (s : State) (h : LdId), s.gmode.mode ∈ [DevMode.serve, .doze, .maintain, .barren] →
     (∀ i, OwnerCommand s h (0x606 * 256) 4 → (s.mb h).arg 0 1 = i → (s.mb h).arg 1 3 = 0 → i ≤ 15 →
       (otpClosed s h ≠ 0 → Replies (.otpRevoke h []) s h (otpClosed s h) []) ∧
       (otpClosed s h = 0 → revoked s i = true → Replies (.otpRevoke h []) s h 0 []) ∧
       (otpClosed s h = 0 → revoked s i = false → BurnReady s (208 + i) (BitVec.allOnes 32) →
         Completes (.otpRevoke h []) s fun t => revoked t i = true ∧ otpStrict t (208 + i) = BitVec.allOnes 32 ∧
           (∀ q, q ≠ 208 + i → otpNormal t q = otpNormal s q ∧ shadowRow t q = shadowRow s q) ∧ Logged s t 466 ∧
           Only [.otp, .ridge, .events, .mail] s t ∧ Completed s t h 0 [])) ∧
     (∀ row, OwnerCommand s h (0x607 * 256) 4 → (s.mb h).arg 0 2 = row → (s.mb h).arg 2 2 = 0 →
       (row ∈ s.otp.marginal → (row < 4 ∨ 208 ≤ row ∧ row < 224 ∨ 256 ≤ row ∧ row < 322) → otpClosed s h = 0 →
         BurnReady s row (otpNormal s row) → Canonical s →
         Completes (.otpRepair h []) s fun t =>
           otpNormal t row = otpNormal s row ∧ otpStrict t row = otpNormal s row ∧ t.otp.shadow = s.otp.shadow ∧
           (∀ q, q ≠ row → otpNormal t q = otpNormal s q ∧ otpStrict t q = otpStrict s q) ∧ Only [.otp, .mail] s t ∧
           Completed s t h 0 [0xFF]) ∧
       (otpClosed s h ≠ 0 → Replies (.otpRepair h []) s h (otpClosed s h) []) ∧
       (otpClosed s h = 0 → row ∉ s.otp.marginal → Replies (.otpRepair h []) s h 6 []) ∧
       (otpClosed s h = 0 → row ∈ s.otp.marginal → 322 ≤ row → row < 363 → Replies (.otpRepair h []) s h 5 []))) ∧
  (∀ s : State,
     (∀ h : LdId, OwnerCommand s h (0x608 * 256) 0 → s.gmode.mode ∈ [DevMode.serve, .doze, .maintain, .barren] →
       (otpBusy s h = false → Completes (.otpResense h) s fun t =>
         t.otp = { s.otp with busy := true, lastPass := 3, senser := some h } ∧ t.mb h = s.mb h ∧ h ∉ t.responder ∧
           Only [.otp, .mail] s t) ∧
       (otpBusy s h = true → Replies (.otpResense h) s h 1 [])) ∧
     (s.gmode.mode ≠ .cold → 24 * 256 ≤ s.attic.hours - s.otp.senseHours →
       Completes .resenseTrigger s fun t => t = { s with otp :=
         if s.otp.busy then { s.otp with senseWaiting := true } else { s.otp with busy := true, lastPass := 1 } }) ∧
     (s.otp.busy = true → s.otp.senseWaiting = false →
       Completes (.resenseDone []) s fun t => t.otp.busy = false ∧ t.otp.senser = none ∧ t.otp.shadow = s.otp.shadow ∧
         t.otp.normal = s.otp.normal ∧ t.otp.strict = s.otp.strict ∧ t.otp.status = s.otp.status ∧
         t.otp.senseHours = s.attic.hours ∧ t.otp.marginalResense = t.otp.marginal.length ∧
         Only [.otp, .attic, .events, .mail] s t ∧ ∀ h, s.otp.senser = some h → Completed s t h 0 []))

/-! ### Key store (R299 to R313, R433) -/

/-- KEY_GENERATE, KEY_DERIVE and KEY_IMPORT plain write one slot of the sender and answer its slot word (R301, R308, R312):
what the material is in each, a derived slot its parent and one layer more; a slot of another owner is ST_DENIED and a slot in
use ST_BAD_ARG. The Loft's own request writes a slot of its range (R305). KEY_EXPORT answers the KWP wrapping of the slot word
and the material and KEY_IMPORT wrapped writes what unwraps, or is ST_DENIED where nothing does (R312); KEY_DESTROY empties
its slot alone (R306, R307). The model's choices it rests on are in log entries 14, 32. It says of each of these that it
completes, with its own effect: .keyGenerate, .keyDerive, .keyImportPlain, .keyExport, .keyImportWrapped, .keyDestroy. -/
def Obligations.SlotsAreWrittenMovedAndDestroyed : Prop :=
  (∀ (s : State) (h : LdId) (i : Fin 256) (ty n usage : Nat), slotArg (s.mb h) 0 = i →
     (∀ e, KeyCommand s h (0x400 * 256) 8 → (s.mb h).arg 1 1 = ty → (s.mb h).arg 2 1 = n → (s.mb h).arg 3 1 = e → e ≤ 1 →
       (s.mb h).arg 4 2 = usage → (s.mb h).arg 6 2 = 0 → usage < 1024 →
       (ownSlot (.mailbox h) i.val = true → attrOk ty n usage = true → (s.slot i).state ≠ .valid → DrbgReady s 0 →
         Completes (.keyGenerate (.mailbox h)) s fun t => Wrote s t h i ty n usage 0 ∧ (t.slot i).fresh = true ∧
           (t.slot i).exportable = decide (e = 1) ∧
           (t.slot i).material = newMaterial ty n usage
             ((List.range (outputBytes (BitVec.ofNat 4 ty) n)).map (Config.drbgByte 0 s.eng.calls0)) ∧
           Completed s t h 0 (leBytes 8 (t.slot i).attrWord)) ∧
       (ownSlot (.mailbox h) i.val = false → Replies (.keyGenerate (.mailbox h)) s h 5 []) ∧
       (ownSlot (.mailbox h) i.val = true → (s.slot i).state = .valid → Replies (.keyGenerate (.mailbox h)) s h 6 [])) ∧
     (∀ (p : Fin 256) (ll l : Nat), KeyCommand s h (0x401 * 256) (0x2A + l) → slotArg (s.mb h) 3 = p →
       (s.mb h).arg 1 1 = ty → (s.mb h).arg 2 1 = n → (s.mb h).arg 4 2 = usage → usage < 1024 → (s.mb h).arg 6 1 = 0 →
       (s.mb h).arg 7 1 = ll → 1 ≤ ll → ll ≤ 32 → (s.mb h).arg (8 + ll) (32 - ll) = 0 → (s.mb h).arg 0x28 2 = l →
       l ≤ 256 → s.gmode.barren = false → ownSlot (.mailbox h) i.val = true → ((s.mb h).bytes 8 ll).take 7 ≠ ascii "SHAKAN-" →
       attrOk ty n usage = true → (s.slot i).state ≠ .valid → Usable s h p uDerive → (s.slot p).layer.toNat < 15 →
       (usage % 4 = 0 ∨ DrbgReady s 0) →
       Completes (.keyDerive (.mailbox h)) s fun t => Wrote s t h i ty n usage 1 ∧ (t.slot i).exportable = false ∧
         (t.slot i).parent = BitVec.ofNat 8 p.val ∧ (t.slot i).layer = (s.slot p).layer + 1 ∧
         (t.slot i).material = newMaterial ty n usage (kdf (bytesOf (s.slot p).keyBytes.toNat (s.slot p).material)
           ((s.mb h).bytes 8 ll) ((s.mb h).bytes 0x2A l) (outputBytes (BitVec.ofNat 4 ty) n)) ∧
         Completed s t h 0 (leBytes 8 (t.slot i).attrWord)) ∧
     (∀ e, KeyCommand s h (0x402 * 256) 0x48 → (s.mb h).arg 1 1 = 0 → (s.mb h).arg 3 1 = e → e ≤ 1 →
       (s.mb h).arg 4 1 = ty → (s.mb h).arg 5 1 = n → (s.mb h).arg 6 2 = usage → usage < 1024 → ownSlot (.mailbox h) i.val = true →
       attrOk ty n usage = true → materialOk ty n usage ((s.mb h).bytes 8 64) = true → (s.slot i).state ≠ .valid →
       (usage % 4 = 0 ∨ DrbgReady s 0) →
       Completes (.keyImportPlain (.mailbox h)) s fun t => Wrote s t h i ty n usage 2 ∧ (t.slot i).fresh = true ∧
         (t.slot i).exportable = decide (e = 1) ∧ (t.slot i).material = ofBytes 512 ((s.mb h).bytes 8 64) ∧
         Completed s t h 0 (leBytes 8 (t.slot i).attrWord)) ∧
     (∀ request, DirectRequest s .loft request (0x400 * 256) 8 →
       let m := directArg (0x400 * 256) request
       let j := slotArg m 0
       m.arg 1 1 = ty → m.arg 2 1 = n → m.arg 3 1 = 0 → m.arg 4 2 = usage → m.arg 6 2 = 0 → usage < 1024 →
       16 ≤ j.val → j.val < 128 → attrOk ty n usage = true → (s.slot j).state ≠ .valid → DrbgReady s 0 →
       Completes (.keyGenerate (.direct .loft request)) s fun t =>
         (t.slot j).state = .valid ∧ TagHolds t j ∧ (t.slot j).owner = 2 ∧ (t.slot j).fresh = true ∧
         (∀ k, k ≠ j → t.slot k = s.slot k) ∧ t.resp = { data := leBytes 8 (t.slot j).attrWord, code := 0 } ∧
         Only [.keys, .eng, .resp] s t)) ∧
  (∀ (s : State) (h : LdId) (i u : Fin 256), slotArg (s.mb h) 0 = i →
     (KeyCommand s h (0x403 * 256) 2 → slotArg (s.mb h) 1 = u → ownSlot (.mailbox h) i.val = true → (s.slot i).state = .valid →
       TagHolds s i → Usable s h u uWrap →
       ((s.slot i).exportable = true → Replies (.keyExport (.mailbox h)) s h 0 ((List.range 80).map
         (Config.kwpWrap (bytesOf (s.slot u).keyBytes.toNat (s.slot u).material)
           (leBytes 8 ({ s.slot i with owner := 0, parent := 0 }.attr 0) ++ bytesOf 64 (s.slot i).material)))) ∧
       ((s.slot i).exportable = false → Replies (.keyExport (.mailbox h)) s h 5 [])) ∧
     (KeyCommand s h (0x402 * 256 + 1) 0x58 → slotArg (s.mb h) 2 = u → ownSlot (.mailbox h) i.val = true →
       (s.slot i).state ≠ .valid → Usable s h u uUnwrap → DrbgReady s 0 →
       Completes (.keyImportWrapped (.mailbox h)) s fun t =>
         match Config.kwpUnwrap (bytesOf (s.slot u).keyBytes.toNat (s.slot u).material) ((s.mb h).bytes 8 80) with
         | none => Only [.mail] s t ∧ Completed s t h 5 []
         | some p =>
           let w := BitVec.ofNat 64 (leAt 0 8 p)
           if blobOk p = true then
             Wrote s t h i (fieldOf w 5 2) (fieldOf w 28 22) (fieldOf w 21 12) 2 ∧
               (t.slot i).material = ofBytes 512 (p.drop 8) ∧ (t.slot i).exportable = bitOf w 9 ∧
               Completed s t h 0 (leBytes 8 (t.slot i).attrWord)
           else Only [.mail] s t ∧ Completed s t h 5 []) ∧
     (KeyCommand s h (0x406 * 256) 1 →
       (ownSlot (.mailbox h) i.val = true → Completes (.keyDestroy (.mailbox h)) s fun t =>
         t.slot i = (if (s.slot i).state = .empty then s.slot i else KeySlot.reset) ∧
           (∀ j, j ≠ i → t.slot j = s.slot j) ∧ Only [.keys, .eng, .mail] s t ∧ Completed s t h 0 []) ∧
       (ownSlot (.mailbox h) i.val = false → Replies (.keyDestroy (.mailbox h)) s h 5 [])))

/-- KEY_PUBLIC, KEY_INFO and KEY_RANDOM (R294, R312, R433), and KEY_PROVE with the statement it signs (R313). The scan of the
tags (R303, R304): a slot whose tag holds stays as it is, and one whose tag fails is BAD with its material gone, unless the
Ridge domain can derive it again. The model's choices it rests on are in log entries 14, 32. It says of each of these that it
completes, with its own effect: .keyPublic, .keyInfo, .keyRandom, .keyProve, .tagScan. -/
def Obligations.KeyQueriesAndTagScan : Prop :=
  (∀ (s : State) (h : LdId) (i : Fin 256), slotArg (s.mb h) 0 = i →
     (KeyCommand s h (0x404 * 256) 1 → (ownSlot (.mailbox h) i.val = true ∨ 3 ≤ i.val ∧ i.val ≤ 7) → (s.slot i).state = .valid →
       TagHolds s i →
       ((s.slot i).ty = 3 ∨ (s.slot i).ty = 4 → Replies (.keyPublic (.mailbox h)) s h 0 (slotPublic (s.slot i))) ∧
       (¬((s.slot i).ty = 3 ∨ (s.slot i).ty = 4) → Replies (.keyPublic (.mailbox h)) s h 6 [])) ∧
     (KeyCommand s h (0x405 * 256) 1 → Replies (.keyInfo (.mailbox h)) s h 0
       (leBytes 8 (s.slot i).attrWord ++ bytesOf 4 (s.slot i).salt ++ bytesOf 8 (s.slot i).counter)) ∧
     (∀ n, KeyCommand s h (0x408 * 256) 2 → (s.mb h).arg 0 2 = n → 1 ≤ n → n ≤ 4096 →
       (DrbgReady s 1 → Completes (.keyRandom (.mailbox h)) s fun t => t.eng.calls1 = s.eng.calls1 + 1 ∧ Only [.eng, .mail] s t ∧
         Completed s t h 0 ((List.range n).map (Config.drbgByte 1 s.eng.calls1))) ∧
       (s.eng.source = 3 → Replies (.keyRandom (.mailbox h)) s h 11 []) ∧
       (s.eng.source = 2 → Replies (.keyRandom (.mailbox h)) s h 1 [])) ∧
     (∀ run : RafterRun, run.wrong = [] → KeyCommand s h (0x407 * 256) 0x24 → (s.mb h).arg 1 3 = 0 →
       (ownSlot (.mailbox h) i.val = true → s.gmode.barren = false → (s.slot i).state = .valid → TagHolds s i →
         ((s.slot i).ty = 3 ∨ (s.slot i).ty = 4) → (s.slot i).origin = 0 → (s.slot i).exportable = false →
         (s.slot 3).state = .valid → TagHolds s 3 → (s.slot 4).state = .valid → TagHolds s 4 → DrbgReady s 1 →
         Completes (.keyProve (.mailbox h) run) s fun t =>
           let msg := provStatement s i (s.slot i) ((s.mb h).bytes 4 32)
           let ec := (List.range 96).map
             (Config.ecdsaSign (bytesOf 48 (s.slot 3).material) (Config.sha384 msg) s.eng.calls1)
           let ml := if offersMldsa s then (List.range 4627).map
             (Config.mldsaSign (bytesOf 32 (s.slot 4).material) (ascii "SHAKAN-PRV") msg (s.eng.calls1 + 1)) else []
           WokeNow [.eng, .mail] s t ∧ Completed s t h 0 (msg ++ ec ++ ml)) ∧
       (s.gmode.barren = true → Replies (.keyProve (.mailbox h) run) s h 5 []))) ∧
  (∀ s : State, s.ridge.powered = true →
     Completes (.tagScan []) s fun t => Only [.keys, .eng, .events] s t ∧ ∀ i : Fin 256,
       (((s.slot i).state ≠ .valid ∨ TagHolds s i) → t.slot i = s.slot i) ∧
       ((s.slot i).state = .valid → ¬TagHolds s i → ¬((s.slot i).system = true ∧ (s.slot i).origin = 1) →
         t.slot i = { s.slot i with state := .bad, material := 0 }) ∧
       ((s.slot i).state = .valid → ¬TagHolds s i → (s.slot i).system = true → (s.slot i).origin = 1 →
         (t.slot i).state = .valid ∧ TagHolds t i))

/-! ### Thatch and Spar contexts (R268 to R287, R433) -/

/-- KEY_HASH OPEN, UPDATE and CLOSE (R270 to R274): a context takes the lowest free number, with the pad states of its HMAC
key where one is named, gathers its message, and is released; a number with no context is ST_BAD_ARG. The gate binds a context
to a register of its tile (R275). No lane computes a wrong state in these runs. KEY_HASH FINAL, FINAL_COMPARE and HASH (R272,
R273, R278): the digest of the whole message, and where a value is expected a first byte that is 0 exactly where they are
equal; the digest of a bound context goes to its register as an EXTEND, and the answer is the status alone; HASH with a bound
register is refused (R275). No lane computes a wrong digest in these runs. The model's choices it rests on are in log entry 3.
It says of each of these that it completes, with its own effect: .keyHashOpen, .keyHashUpdate, .keyHashClose, .keyHashFinal,
.keyHashFinalCompare, .keyHashHash. -/
def Obligations.HashContextsAndResults : Prop :=
  (∀ (s : State) (h : LdId) (c : Fin 12) (i : Fin 512), thatchAt (.inl h) c.val = some i →
     let first := ∀ b, b < c.val → ∀ j, thatchAt (.inl h) b = some j → s.eng.thatch[j] ≠ none
     let fresh := fun (alg dual : Nat) (bound : Option (Fin 320)) => ({
       alg := BitVec.ofNat 2 alg, slot := none, pads := none, bound := bound, dual := decide (dual = 1), data := []
       forced := none, tested := 0, tainted := false, closed := false, failed := false } : HashCtx)
     (∀ alg dual, KeyCommand s h (0x409 * 256) 0x48 → (s.mb h).arg 2 1 = alg → alg ≤ 2 →
       (s.mb h).arg 4 1 = dual → dual ≤ 1 → (s.mb h).arg 5 3 = 0 →
       ((s.mb h).arg 3 1 = 0xFF → s.eng.thatch[i] = none → first →
         Completes (.keyHashOpen (.mailbox h) none []) s fun t =>
           t.eng = { s.eng with thatch := s.eng.thatch.set i.val (some (fresh alg dual none)) i.isLt } ∧
           WokeNow [.eng, .mail] s t ∧ Completed s t h 0 [BitVec.ofNat 8 c.val]) ∧
       (∀ k : Fin 256, slotArg (s.mb h) 3 = k → k.val ≠ 0xFF → Usable s h k uHmac → dual = 0 → s.eng.thatch[i] = none → first →
         Completes (.keyHashOpen (.mailbox h) none []) s fun t =>
           let x := { fresh alg dual none with
             slot := some k.val
             pads := some (Config.hmacPads (BitVec.ofNat 2 alg) (bytesOf (s.slot k).keyBytes.toNat (s.slot k).material)) }
           t.eng = { s.eng with thatch := s.eng.thatch.set i.val (some x) i.isLt } ∧
           WokeNow [.eng, .mail] s t ∧ Completed s t h 0 [BitVec.ofNat 8 c.val]) ∧
       ((∀ b, b < 12 → ∀ j, thatchAt (.inl h) b = some j → s.eng.thatch[j] ≠ none) →
         Completes (.keyHashOpen (.mailbox h) none []) s fun t => WokeNow [.mail] s t ∧ Completed s t h 1 [])) ∧
     (∀ x n, (s.mb h).arg 1 1 = c.val → s.eng.thatch[i] = some x → x.closed = false → x.failed = false → hashReserved (s.mb h) = true →
       (KeyCommand s h (0x409 * 256 + 1) n → 0x48 ≤ n → n ≤ 0x2000 → (x.dual = true → 2 ≤ lanesInService s) →
         hashCount x + (n - 0x48) ≤ hashLimit x.alg →
         Completes (.keyHashUpdate (.mailbox h) []) s fun t =>
           let y := { x with
             data := x.data ++ (s.mb h).bytes 0x48 (n - 0x48)
             tested := if x.dual ∨ x.data.length / hashBlock x.alg = (x.data.length + (n - 0x48)) / hashBlock x.alg then x.tested else 0 }
           t.eng = { s.eng with thatch := s.eng.thatch.set i.val (some y) i.isLt } ∧
           WokeNow [.eng, .mail] s t ∧ Completed s t h 0 []) ∧
       (KeyCommand s h (0x409 * 256 + 5) 0x48 → (s.mb h).arg 0 1 = 5 →
         Completes (.keyHashClose (.mailbox h)) s fun t =>
           t.eng = { s.eng with thatch := s.eng.thatch.set i.val none i.isLt } ∧
           WokeNow [.eng, .mail] s t ∧ Completed s t h 0 [])) ∧
     (KeyCommand s h (0x409 * 256 + 5) 0x48 → (s.mb h).arg 0 1 = 5 → (s.mb h).arg 1 1 = c.val → hashReserved (s.mb h) = true →
       s.eng.thatch[i] = none →
       Completes (.keyHashClose (.mailbox h)) s fun t => WokeNow [.mail] s t ∧ Completed s t h 6 []) ∧
     (∀ (x : TileId) (r : Fin 320) (g : Fin 512) (request : List Byte),
       DirectRequest s (.gate x) request (0x409 * 256) 0x48 → 64 + 8 * x.val ≤ r.val → r.val < 72 + 8 * x.val →
       thatchAt (.inr (.gate x)) 0 = some g → s.eng.thatch[g] = none →
       let m := directArg (0x409 * 256) request
       m.arg 2 1 = 1 → m.arg 3 1 = 0xFF → m.arg 4 1 ≤ 1 → m.arg 5 3 = 0 →
       Completes (.keyHashOpen (.direct (.gate x) request) (some r) []) s fun t =>
         t.eng = { s.eng with thatch := s.eng.thatch.set g.val (some (fresh 1 1 (some r))) g.isLt } ∧
         t.resp = { data := [0], code := 0 } ∧ WokeNow [.eng, .resp] s t)) ∧
  (∀ (s : State) (h : LdId) (n : Nat), 0x48 ≤ n → n ≤ 0x2000 → hashReserved (s.mb h) = true →
     let data := (s.mb h).bytes 0x48 (n - 0x48)
     let e : BitVec 512 := ofBytes 512 ((s.mb h).bytes 8 64)
     (∀ (c : Fin 12) (i : Fin 512) x, (s.mb h).arg 1 1 = c.val → thatchAt (.inl h) c.val = some i →
       s.eng.thatch[i] = some x → x.closed = false → x.failed = false → x.tainted = false → x.forced = none → x.bound = none →
       (x.dual = true → 2 ≤ lanesInService s) → hashCount x + (n - 0x48) ≤ hashLimit x.alg →
       let v := hashValue x.alg x.pads (x.data ++ data)
       let released := { s.eng with thatch := s.eng.thatch.set i.val none i.isLt }
       (KeyCommand s h (0x409 * 256 + 2) n → Completes (.keyHashFinal (.mailbox h) []) s fun t =>
         t.eng = released ∧ WokeNow [.eng, .mail] s t ∧ Completed s t h 0 (bytesOf (hashLen x.alg) v)) ∧
       (KeyCommand s h (0x409 * 256 + 3) n → expectedOk (s.mb h) x.alg = true →
         Completes (.keyHashFinalCompare (.mailbox h) []) s fun t =>
           t.eng = released ∧ WokeNow [.eng, .mail] s t ∧
             Completed s t h 0 (BitVec.ofNat 8 (b01 (decide (v ≠ e))) :: bytesOf (hashLen x.alg) v))) ∧
     (∀ alg, KeyCommand s h (0x409 * 256 + 4) n → (s.mb h).arg 2 1 = alg → alg ≤ 2 → (s.mb h).arg 3 1 = 0xFF →
       (s.mb h).arg 4 1 = 0 → expectedOk (s.mb h) (BitVec.ofNat 2 alg) = true →
       (∃ b j, thatchAt (.inl h) b = some j ∧ s.eng.thatch[j] = none) →
       let v := hashValue (BitVec.ofNat 2 alg) none data
       Completes (.keyHashHash (.mailbox h) none []) s fun t => WokeNow [.mail] s t ∧ Completed s t h 0
         (if (s.mb h).arg 8 64 = 0 then bytesOf (hashLen (BitVec.ofNat 2 alg)) v
          else BitVec.ofNat 8 (b01 (decide (v ≠ e))) :: bytesOf (hashLen (BitVec.ofNat 2 alg)) v)) ∧
     (∀ (x : TileId) (r : Fin 320) (request : List Byte) runs, DirectRequest s (.gate x) request (0x409 * 256 + 4) n →
       hashReserved (directArg (0x409 * 256 + 4) request) = true →
       Completes (.keyHashHash (.direct (.gate x) request) (some r) runs) s fun t =>
         t.ridge = s.ridge ∧ t.eng = s.eng ∧ t.resp = { data := [], code := 6 } ∧ WokeNow [.resp] s t) ∧
     (∀ (x : TileId) (r : Fin 320) (g : Fin 512) (y : HashCtx) (request : List Byte),
       DirectRequest s (.gate x) request (0x409 * 256 + 2) n → 64 + 8 * x.val ≤ r.val → r.val < 72 + 8 * x.val →
       let m := directArg (0x409 * 256 + 2) request
       m.arg 1 1 = 0 → hashReserved m = true → thatchAt (.inr (.gate x)) 0 = some g → s.eng.thatch[g] = some y → y.bound = some r → y.alg = 1 →
       y.pads = none → y.closed = false → y.failed = false → y.tainted = false → y.forced = none → 2 ≤ lanesInService s →
       hashCount y + (n - 0x48) ≤ hashLimit y.alg → s.ridge.powered = true → (s.reg r).saturated = false →
       Completes (.keyHashFinal (.direct (.gate x) request) []) s fun t =>
         (t.reg r).value = Config.sha384 (bytesOf 48 (s.reg r).value ++
           bytesOf 48 (Config.sha384 (y.data ++ m.bytes 0x48 (n - 0x48)))) ∧
         (t.reg r).counter = (s.reg r).counter + 1 ∧ (t.reg r).lastBy = 4 ∧ (∀ k, k ≠ r → t.reg k = s.reg k) ∧
         t.eng = { s.eng with thatch := s.eng.thatch.set g.val none g.isLt } ∧ t.resp = { data := [], code := 0 } ∧
         WokeNow [.ridge, .eng, .resp] s t))

/-- KEY_CIPHER OPEN and SEAL of an encrypting GCM job take the slot's next counter value as IV (R280 to R283), so no value is
used twice; at 2^48 the job is ST_EXHAUSTED and takes none. KEY_CIPHER AAD, TEXT, FINAL and CLOSE on an open context (R281,
R285, R286): what each keeps and answers; FINAL of a decryption answers ST_OK exactly where the tag is that of the message.
KEY_CIPHER WRAP and UNWRAP end the message of their context (R287); OPEN_SEALED answers the text exactly where the tag holds,
and takes no counter value (R282, R285). The model's choices it rests on are in log entries 3, 5. It says of each of these
that it completes, with its own effect: .keyCipherOpen, .keyCipherSeal, .keyCipherAad, .keyCipherText, .keyCipherFinal,
.keyCipherClose, .keyCipherWrap, .keyCipherUnwrap, .keyCipherOpenSealed. -/
def Obligations.CipherJobs : Prop :=
  (∀ (s : State) (h : LdId) (i : Fin 256) (n : Nat), slotArg (s.mb h) 4 = i → (s.mb h).arg 2 1 = 0 →
     (s.mb h).arg 3 1 = 0 → (s.mb h).arg 5 3 = 0 → Usable s h i uEncrypt → ((s.slot i).ty = 0 ∨ (s.slot i).ty = 1) →
     (s.slot i).fresh = true → EntriesFree s h → (∃ b j, sparAt (.inl h) b = some j ∧ s.eng.spar[j] = none) →
     let k := s.slot i
     let ctx : SparCtx := { mode := 0, decrypt := false, session := false, slot := i.val
                            key := bytesOf k.keyBytes.toNat k.material
                            iv := beBytes 4 k.salt.toNat ++ beBytes 8 k.counter.toNat, aad := [], text := []
                            textSeen := false, closed := false, failed := false }
     (KeyCommand s h (0x40A * 256) 0x30 →
       (k.counter.toNat < 2 ^ 48 → ∃ (c : Fin 6) (p : Fin 128), sparAt (.inl h) c.val = some p ∧ s.eng.spar[p] = none ∧
         Completes (.keyCipherOpen (.mailbox h)) s fun t => t.slot i = { k with counter := k.counter + 1 } ∧
           (∀ j, j ≠ i → t.slot j = s.slot j) ∧ t.eng = { s.eng with spar := s.eng.spar.set p.val (some ctx) p.isLt } ∧
           Only [.keys, .eng, .attic, .mail] s t ∧ Completed s t h 0 [BitVec.ofNat 8 c.val]) ∧
       (2 ^ 48 ≤ k.counter.toNat → Completes (.keyCipherOpen (.mailbox h)) s fun t => t.keys = s.keys ∧ t.eng.spar = s.eng.spar ∧
         (i.val ∉ s.eng.sparRefused → Logged s t 489) ∧ Only [.eng, .attic, .events, .mail] s t ∧
         Completed s t h 9 [])) ∧
     (KeyCommand s h (0x40A * 256 + 4) n → 0x30 ≤ n → n ≤ 0x2000 → (s.mb h).arg 0x28 8 ≤ n - 0x30 →
       k.counter.toNat < 2 ^ 48 →
       let a := (s.mb h).arg 0x28 8
       let aad := (s.mb h).bytes 0x30 (n - 0x30) |>.take a
       let out := sparText ctx 0 ((s.mb h).bytes 0x30 (n - 0x30) |>.drop a)
       Completes (.keyCipherSeal (.mailbox h)) s fun t => t.slot i = { k with counter := k.counter + 1 } ∧
         (∀ j, j ≠ i → t.slot j = s.slot j) ∧ Only [.keys, .attic, .mail] s t ∧
         Completed s t h 0 (out ++ sparTag { ctx with aad := aad, text := out } ++ ctx.iv))) ∧
  (∀ (s : State) (h : LdId) (c : Fin 6) (i : Fin 128) (x : SparCtx) (n : Nat), (s.mb h).arg 1 1 = c.val →
     sparAt (.inl h) c.val = some i → s.eng.spar[i] = some x → x.closed = false → x.failed = false → EntriesFree s h →
     let data := (s.mb h).bytes 0x30 (n - 0x30)
     let put := fun v => s.eng.spar.set i.val v i.isLt
     (KeyCommand s h (0x40A * 256 + 1) n → 0x30 ≤ n → n ≤ 0x2000 → x.mode = 0 → x.textSeen = false →
       x.aad.length + (n - 0x30) ≤ 0xFFFFFFFF →
       Completes (.keyCipherAad (.mailbox h)) s fun t => t.eng = { s.eng with spar := put (some { x with aad := x.aad ++ data }) } ∧
         Only [.eng, .attic, .mail] s t ∧ Completed s t h 0 []) ∧
     (KeyCommand s h (0x40A * 256 + 2) n → 0x30 ≤ n → n ≤ 0x2000 → x.mode.toNat < 2 →
       x.text.length + (n - 0x30) ≤ textLimit x →
       let out := sparText x x.text.length data
       Completes (.keyCipherText (.mailbox h)) s fun t =>
         let y := { x with text := x.text ++ (if x.decrypt then data else out), textSeen := true }
         t.eng = { s.eng with spar := put (some y) } ∧
         Only [.eng, .attic, .mail] s t ∧ Completed s t h 0 out) ∧
     (KeyCommand s h (0x40A * 256 + 3) 0x30 → x.mode = 0 →
       Completes (.keyCipherFinal (.mailbox h)) s fun t => t.eng = { s.eng with spar := put none } ∧
         (x.decrypt = false → Completed s t h 0 (sparTag x ++ x.iv)) ∧
         (x.decrypt = true → sparTag x = (s.mb h).bytes 0x18 16 → Completed s t h 0 []) ∧
         (x.decrypt = true → sparTag x ≠ (s.mb h).bytes 0x18 16 → Completed s t h 5 [] ∧ t.keys = s.keys) ∧
         Only [.keys, .eng, .attic, .mail] s t) ∧
     (KeyCommand s h (0x40A * 256 + 8) 0x30 → (s.mb h).arg 0 1 = 8 →
       Completes (.keyCipherClose (.mailbox h)) s fun t => t.eng = { s.eng with spar := put none } ∧
         Only [.eng, .attic, .mail] s t ∧ Completed s t h 0 [])) ∧
  (∀ (s : State) (h : LdId) (n : Nat), 0x30 ≤ n → n ≤ 0x2000 → EntriesFree s h →
     let data := (s.mb h).bytes 0x30 (n - 0x30)
     (∀ (c : Fin 6) (i : Fin 128) (x : SparCtx), (s.mb h).arg 1 1 = c.val → sparAt (.inl h) c.val = some i →
       s.eng.spar[i] = some x → x.closed = false → x.failed = false → 2 ≤ x.mode.toNat →
       wrapLenOk x.mode (n - 0x30) = true →
       let released := { s.eng with spar := s.eng.spar.set i.val none i.isLt }
       (KeyCommand s h (0x40A * 256 + 6) n → x.decrypt = false →
         Completes (.keyCipherWrap (.mailbox h)) s fun t => t.eng = released ∧ Only [.eng, .attic, .mail] s t ∧
           Completed s t h 0 (if x.mode = 2 then (List.range (n - 0x30 + 8)).map (Config.kwWrap x.key data)
             else (List.range ((n - 0x30 + 7) / 8 * 8 + 8)).map (Config.kwpWrap x.key data))) ∧
       (KeyCommand s h (0x40A * 256 + 7) n → x.decrypt = true →
         Completes (.keyCipherUnwrap (.mailbox h)) s fun t => t.eng = released ∧ Only [.eng, .attic, .mail] s t ∧
           match (if x.mode = 2 then Config.kwUnwrap x.key data else Config.kwpUnwrap x.key data) with
           | some p => Completed s t h 0 p
           | none => Completed s t h 5 [])) ∧
     (∀ i : Fin 256, slotArg (s.mb h) 4 = i → KeyCommand s h (0x40A * 256 + 5) n → (s.mb h).arg 2 1 = 0 →
       (s.mb h).arg 3 1 = 1 → (s.mb h).arg 5 3 = 0 → (s.mb h).arg 0x28 8 ≤ n - 0x30 → Usable s h i uDecrypt →
       ((s.slot i).ty = 0 ∨ (s.slot i).ty = 1) → (∃ b j, sparAt (.inl h) b = some j ∧ s.eng.spar[j] = none) →
       let a := (s.mb h).arg 0x28 8
       let ctx : SparCtx := { mode := 0, decrypt := true, session := false, slot := i.val
                              key := bytesOf (s.slot i).keyBytes.toNat (s.slot i).material, iv := (s.mb h).bytes 8 12
                              aad := data.take a, text := data.drop a, textSeen := false, closed := false, failed := false }
       Completes (.keyCipherOpenSealed (.mailbox h)) s fun t => Only [.attic, .mail] s t ∧
         (sparTag ctx = (s.mb h).bytes 0x18 16 → Completed s t h 0 (sparText ctx 0 (data.drop a))) ∧
         (sparTag ctx ≠ (s.mb h).bytes 0x18 16 → Completed s t h 5 [])))

/-! ### Rafter jobs, self-checks and entropy (R270, R277, R289 to R295, R492) -/

/-- KEY_SIGN, KEY_VERIFY and KEY_ECDH (R289, R290, R433), no unit giving a wrong result: a signature over the hash or the
message with the slot's key, the verdict bits, and the x coordinate of a valid peer point; the Loft may sign with the DIK
(R309). The model's choices it rests on are in log entry 14. It says of each of these that it completes, with its own effect:
.keySign, .keyVerify, .keyEcdh. -/
def Obligations.RafterCommands : Prop :=
  ∀ (s : State) (h : LdId) (run : RafterRun) (i : Fin 256) (n : Nat), run.wrong = [] → slotArg (s.mb h) 0 = i → EntriesFree s h →
    (KeyCommand s h (0x40B * 256) 0x134 → (s.mb h).arg 1 1 = 0 → (s.mb h).arg 3 1 = 0 →
      ctxStringOk (s.mb h) 2 4 = true → Usable s h i uSign → (s.slot i).ty = 3 → DrbgReady s 1 →
      Completes (.keySign (.mailbox h) run) s fun t => t.eng.calls1 = s.eng.calls1 + 1 ∧ Only [.eng, .mail] s t ∧
        Completed s t h 0 ((List.range 96).map (Config.ecdsaSign (bytesOf 48 (s.slot i).material)
          (ofBytes 384 ((s.mb h).bytes 0x104 48)) s.eng.calls1))) ∧
    (KeyCommand s h (0x40B * 256) n → (s.mb h).arg 1 1 = 1 → 0x104 ≤ n → n ≤ 0x2000 → (s.mb h).arg 3 1 = 0 →
      ctxStringOk (s.mb h) 2 4 = true → offersMldsa s = true → Usable s h i uSign → (s.slot i).ty = 4 → DrbgReady s 1 →
      Completes (.keySign (.mailbox h) run) s fun t => t.eng.calls1 = s.eng.calls1 + 1 ∧ Only [.eng, .mail] s t ∧
        Completed s t h 0 ((List.range 4627).map (Config.mldsaSign (bytesOf 32 (s.slot i).material)
          ((s.mb h).bytes 4 ((s.mb h).arg 2 1)) ((s.mb h).bytes 0x104 (n - 0x104)) s.eng.calls1))) ∧
    (KeyCommand s h (0x40C * 256) (0x108 + 241) → (s.mb h).arg 0 1 = 0 → (s.mb h).arg 2 2 = 0 → (s.mb h).arg 4 4 = 0 →
      ctxStringOk (s.mb h) 1 8 = true →
      let b := (s.mb h).bytes 0x108 241
      Replies (.keyVerify (.mailbox h) run) s h 0 [BitVec.ofNat 8 (b01 (Config.p384ValidPoint (slice 0 97 b) &&
        sigScalarOk (slice 97 48 b) && sigScalarOk (slice 145 48 b) &&
        Config.ecdsaVerify (slice 0 97 b) (slice 193 48 b) (slice 97 96 b)))]) ∧
    (KeyCommand s h (0x40D * 256) 0x65 → (s.mb h).arg 1 3 = 0 → Usable s h i uEcdh → (s.slot i).ty = 3 →
      let peer := (s.mb h).bytes 4 97
      Completes (.keyEcdh (.mailbox h) run) s fun t => Only [.mail] s t ∧
        (Config.p384ValidPoint peer = true →
          Completed s t h 0 ((List.range 48).map (Config.p384Ecdh (bytesOf 48 (s.slot i).material) peer))) ∧
        (Config.p384ValidPoint peer = false → Completed s t h 6 [])) ∧
    (∀ request, DirectRequest s .loft request (0x40B * 256) 0x134 → entryFree s.eng.rafterQ (.inr .loft) 24 = true →
      let m := directArg (0x40B * 256) request
      slotArg m 0 = 5 → m.arg 1 1 = 0 → m.arg 3 1 = 0 → ctxStringOk m 2 4 = true → (s.slot 5).state = .valid →
      TagHolds s 5 → (s.slot 5).ty = 3 → (s.slot 5).may uSign = true → DrbgReady s 1 →
      Completes (.keySign (.direct .loft request) run) s fun t => Only [.eng, .resp] s t ∧
        t.resp = { data := (List.range 96).map (Config.ecdsaSign (bytesOf 48 (s.slot 5).material)
                     (ofBytes 384 (m.bytes 0x104 48)) s.eng.calls1)
                   code := 0 })

/-- A lane that fails its known-answer test is retired, and below two lanes the device locks down with cause THATCH (R277,
R279); a Rafter job with no wrong result changes nothing, and a wrong result of E0 against E1 is recorded (R291). An idle
context is released (R270), and in DOZE the idle SPAR PLL stops (R492). The entropy source (R293 to R295): a health test that
fails restarts it, or marks it FAILED at the third failure of the hour, and takes both DRBG units out of service; a start-up
test that passes brings them back, and the third that fails in succession marks it FAILED. The model's choices it rests on are
in log entries 2, 32. It says of each of these that it completes, with its own effect: .laneKat, .rafterJobDone,
.ctxIdleExpiry, .sparPllIdleStop, .healthTestFail, .startupTestDone, .drbgReseed. -/
def Obligations.EnginesAndEntropy : Prop :=
  (∀ s : State,
     (∀ lane : Fin 32, s.boot.vddAon = true → s.boot.suppliesOk = true → s.eng.retired.getLsbD lane.val = false →
       (3 ≤ lanesInService s → Completes (.laneKat lane false) s fun t =>
         t.eng.retired = putBit s.eng.retired lane.val true ∧ lanesInService t + 1 = lanesInService s ∧ Logged s t 488 ∧
           Only [.eng, .freeCtr, .events] s t) ∧
       (lanesInService s ≤ 2 → LockableNow s → Completes (.laneKat lane false) s fun t =>
         t.eng.retired = putBit s.eng.retired lane.val true ∧ LockedDown [.eng, .freeCtr] s t .thatch) ∧
       Completes (.laneKat lane true) s fun t => t = { s with eng := { s.eng with
         thatch := s.eng.thatch.map fun c => c.map fun c => { c with tested := putBit c.tested lane.val true } } }) ∧
     (∀ (op : Fin 6) (run : RafterRun) (tag : Word) (tile : Option TileId), run.wrong = [] →
       Completes (.rafterJobDone op run tag tile) s fun t => t = s) ∧
     (∀ (tag : Word) (tile : Option TileId) (first : Bool), s.eng.ecRetired = 0 →
       Completes (.rafterJobDone 0 { eFirst := true, lFirst := first, wrong := [0], katFail := [0] } tag tile) s (fun t =>
         t.eng = { s.eng with ecRetired := 1 } ∧ Logged s t 490 ∧ Only [.eng, .events] s t) ∧
       Completes (.rafterJobDone 0 { eFirst := true, lFirst := first, wrong := [0], katFail := [] } tag tile) s fun t =>
         Logged s t 490 ∧ Only [.events] s t) ∧
     (∀ (h : LdId) (c : Fin 12) (i : Fin 512), thatchAt (.inl h) c.val = some i →
       Completes (.ctxIdleExpiry h false c) s fun t =>
         t = { s with eng := { s.eng with thatch := s.eng.thatch.set i.val none i.isLt } }) ∧
     (∀ (h : LdId) (c : Fin 12) (i : Fin 128), sparAt (.inl h) c.val = some i →
       Completes (.ctxIdleExpiry h true c) s fun t =>
         t = { s with eng := { s.eng with spar := s.eng.spar.set i.val none i.isLt } }) ∧
     Completes .sparPllIdleStop s fun t =>
       t = if s.gmode.mode = .doze then { s with attic := { s.attic with sparStopped := true } } else s) ∧
  (∀ s : State, s.boot.vddAon = true → s.boot.suppliesOk = true → s.boot.phase ≠ .attic → s.boot.phase ≠ .por →
     s.eng.source ≠ 3 →
     (∀ (apt : Bool) (raw : Nat), Completes (.healthTestFail apt raw) s fun t =>
       t.eng = { s.eng with
         hourFailures := s.eng.hourFailures + 1, inst0Ready := false, inst1Ready := false
         source := if 2 ≤ s.eng.hourFailures then 3 else 2
         rct := if apt then s.eng.rct else satInc 0xFF s.eng.rct
         apt := if apt then satInc 0xFF s.eng.apt else s.eng.apt } ∧ Logged s t 491 ∧ Only [.eng, .events] s t) ∧
     (∀ raw, s.eng.source ≠ 1 →
       Completes (.startupTestDone true raw) s (fun t =>
         t = { s with eng := { s.eng with
           source := 1, startFails := 0, inst0Ready := true, inst1Ready := true, since0 := 0, since1 := 0 } }) ∧
       Completes (.startupTestDone false raw) s fun t =>
         t.eng = { s.eng with
           startFails := s.eng.startFails + 1, source := if 2 ≤ s.eng.startFails then 3 else s.eng.source } ∧
         Logged s t 491 ∧ Only [.eng, .events] s t) ∧
     (∀ inst1, s.eng.source = 1 → Completes (.drbgReseed inst1) s fun t =>
       t = { s with eng := if inst1 then { s.eng with since1 := 0, inst1Ready := true }
         else { s.eng with since0 := 0, inst0Ready := true } }))

/-! ### Measurement (R29, R239 to R258, R434, R435) -/

/-- EXTEND (R29, R241, R250, R252): a requester the register permits extends it: the new value is the SHA-384 of the old one
and the digest, the counter one more, and the log gains its entry or the register its overflow flag. While the Ridge domain is
off or its port held the request waits at the boundary (R20). A saturated register and a requester that is not permitted
change no register; registers 0 to 31 take no request of this kind at all (R242). The model's choices it rests on are in log
entries 18, 34. It says of each of these that it completes, with its own effect: .extend. -/
def Obligations.ExtendsChangeOneRegister : Prop :=
  ∀ (s : State) (who : Fin 5) (r : Fin 320) (d : Digest),
    let x := s.reg r
    let gen : Word := if r.val < 64 then 0 else (s.tile (Fin.ofNat 32 ((r.val - 64) / 8))).ctl.gen
    let permitted := (32 ≤ r.val ∧ r.val < 64 ∧ who = 3) ∨
      (64 ≤ r.val ∧ who = 4 ∧ fusedOff s (Fin.ofNat 32 ((r.val - 64) / 8)) = false)
    let open_ := s.ridge.powered = true ∧ s.boot.ridgeHeld = false
    (permitted → open_ → x.saturated = false →
      Completes (.extend who r d) s fun t =>
        let room := portionUsed s (logPortion r.val).1 < (logPortion r.val).2
        t.reg r = { x with
          value := Config.sha384 (bytesOf 48 x.value ++ bytesOf 48 d), counter := x.counter + 1
          saturated := decide (x.counter + 1 = BitVec.allOnes 64), overflow := x.overflow || !decide room
          trial := x.trial || s.gmode.trial, lastBy := BitVec.ofNat 8 who.val, gen := gen } ∧
        (∀ q, q ≠ r → t.reg q = s.reg q) ∧
        (room → t.ridge.log = s.ridge.log ++ [{ reg := r.val, kind := 0, lastBy := BitVec.ofNat 8 who.val, gen := gen
                                                counter := x.counter + 1, digest := d }]) ∧
        (¬room → t.ridge.log = s.ridge.log) ∧ t.resp = { data := [], code := 0 } ∧ Only [.ridge, .resp] s t) ∧
    (permitted → open_ → x.saturated = true →
      Completes (.extend who r d) s fun t => t.resp = { data := [], code := 9 } ∧ Only [.resp, .events] s t) ∧
    (permitted → ¬open_ → Completes (.extend who r d) s fun t => t = { s with ridge := { s.ridge with
      held := s.ridge.held ++ [.extend r (BitVec.ofNat 8 who.val) 0 gen d] } }) ∧
    (¬permitted → Completes (.extend who r d) s fun t => t = { s with resp := { data := [], code := 5 } })

/-- MEASURE_READ, MEASURE_LOG and MEASURE_BLOCK report (R434): entries of a run of registers, entries of one register's log
from an index, and a block of the sender's last quote from an offset. MEASURE_EXTEND extends a platform register as the Loft
(R241). MEASURE_QUOTE (R258, R435): the answer is the header, nonce, device state and a digest of each block selected, signed
by the device identity keys; the blocks are kept for MEASURE_BLOCK. It is a Thatch request too, so a device in DOZE wakes
first, and the blocks are those of the woken device (R60; log entry 34). In BARREN it is ST_DENIED. The model's choices it
rests on are in log entries 14, 34. It says of each of these that it completes, with its own effect: .measureRead,
.measureLog, .measureBlock, .measureExtend, .measureQuote. -/
def Obligations.MeasurementsAreReadAndQuoted : Prop :=
  (∀ (s : State) (h : LdId), s.gmode.mode ∈ DevMode.provision :: .lockdown :: servedModes →
     (∀ first n, Taken s h (0x500 * 256) → lengthOf s h = 4 → (s.mb h).arg 0 2 = first → (s.mb h).arg 2 2 = n →
       (1 ≤ n → n ≤ 128 → first + n ≤ 320 → Replies (.measureRead h) s h 0
         ((List.range n).flatMap fun k => ridgeEntry (s.reg (Fin.ofNat 320 (first + k))))) ∧
       ((n = 0 ∨ 128 < n ∨ 320 < first + n) → Replies (.measureRead h) s h 6 [])) ∧
     (∀ r k, Taken s h (0x501 * 256) → lengthOf s h = 8 → (s.mb h).arg 0 2 = r → r < 320 → (s.mb h).arg 2 2 = 0 →
       (s.mb h).arg 4 4 = k →
       let log := s.ridge.log.filter fun e => decide (e.reg = r)
       let out := (log.drop k).take 127
       Replies (.measureLog h) s h 0 (leBytes 4 log.length ++ leBytes 4 out.length ++ leBytes 8 0 ++ out.flatMap logBytes)) ∧
     (∀ b off blk q, Taken s h (0x504 * 256) → lengthOf s h = 8 → s.gmode.barren = false → (s.ld h).quote = some q →
       (s.mb h).arg 0 4 = b → (s.mb h).arg 4 4 = off → assocGet q b = some blk → off ≤ blk.length →
       Replies (.measureBlock h) s h 0 (leBytes 4 blk.length ++ leBytes 4 0 ++ slice off 8184 blk)) ∧
     (Taken s h (0x504 * 256) → lengthOf s h = 8 → (s.ld h).quote = none → s.gmode.barren = false →
       Replies (.measureBlock h) s h 6 []) ∧
     (Taken s h (0x504 * 256) → lengthOf s h = 8 → s.gmode.barren = true → Replies (.measureBlock h) s h 5 []) ∧
     (∀ r : Fin 320, Taken s h (0x502 * 256) → lengthOf s h = 0x34 → s.boot.ridgeHeld = false → s.gmode.mode ≠ .lockdown →
       ownerOnly s h = true → (s.mb h).arg 0 2 = r.val → 32 ≤ r.val → r.val < 64 → (s.mb h).arg 2 2 = 0 →
       ((s.reg r).saturated = true → Completes (.measureExtend h) s fun t =>
         Only [.events, .mail] s t ∧ Completed s t h 9 []) ∧
       ((s.reg r).saturated = false → Completes (.measureExtend h) s fun t =>
         (t.reg r).value = Config.sha384 (bytesOf 48 (s.reg r).value ++
           bytesOf 48 (ofBytes 384 ((s.mb h).bytes 4 48) : Digest)) ∧
         (t.reg r).counter = (s.reg r).counter + 1 ∧ (t.reg r).lastBy = 3 ∧ (∀ q, q ≠ r → t.reg q = s.reg q) ∧
         Only [.ridge, .mail] s t ∧ Completed s t h 0 []))) ∧
  (∀ (s : State) (h : LdId) (run : RafterRun), run.wrong = [] → Taken s h (0x503 * 256) → lengthOf s h = 0x28 →
     s.boot.ridgeHeld = false → s.gmode.mode ∈ DevMode.provision :: .lockdown :: servedModes →
     (s.gmode.barren = false → quoteIndices (s.mb h) ≠ [] → (s.mb h).arg 0x20 8 % 2 = 0 →
       (s.mb h).arg 0x20 8 < 2 ^ 41 → (s.slot 3).state = .valid → TagHolds s 3 →
       (offersMldsa s = true → (s.slot 4).state = .valid ∧ TagHolds s 4) → DrbgReady s 1 →
       Completes (.measureQuote h run) s fun t =>
         let w := { s with gmode := wokenMode s }
         let blocks := (quoteIndices (s.mb h)).map fun i => (i, evidenceBlock w (i - 1))
         let msg := quoteSigned w ((s.mb h).bytes 0 32) (blocks.map fun b => (b.1, b.2.1, b.2.2))
         let ec := (List.range 96).map
           (Config.ecdsaSign (bytesOf 48 (s.slot 3).material) (Config.sha384 msg) s.eng.calls1)
         let ml := if offersMldsa s then (List.range 4627).map
           (Config.mldsaSign (bytesOf 32 (s.slot 4).material) (ascii "SHAKAN-QUO") msg (s.eng.calls1 + 1)) else []
         (t.ld h).quote = some (blocks.map fun b => (b.1, b.2.2)) ∧ (∀ k, k ≠ h → t.ld k = s.ld k) ∧
           WokeNow [.eng, .host, .mail] s t ∧ Completed s t h 0 (msg ++ ec ++ ml)) ∧
     (s.gmode.barren = true → Replies (.measureQuote h run) s h 5 []))

/-! ### Recorder, journal, logs and calibration (R437, R463, R465 to R477, R502) -/

/-- RECORD (R467 to R470, R473): the front of the queue becomes the newest record of the ring, one number on, with its chain
MAC; where no slot is free or its line does not decode it is dropped and counted. The journal (R470, R472, R474): a run
programmed moves the next record of the ring to the writer's place; the head found starts the writer with its chain; the
scan's end fixes the verdict. The model's choices it rests on are in log entry 33. It says of each of these that it completes,
with its own effect: .record, .journalWriteDone, .journalHeadFound, .journalScanDone. -/
def Obligations.RecorderAndJournal : Prop :=
  (∀ (s : State) (w : Waiting) (rest : List Waiting), s.gutter.queue = w :: rest →
     s.ridge.powered = true → s.gutter.started = true → s.boot.ridgeHeld = false →
     (ringRoom s.gutter = true → s.gutter.episode = none →
       Completes (.record none) s fun t =>
         t.gutter.seq = s.gutter.seq + 1 ∧ t.gutter.mac = chainMac s.keys.journalKey s.gutter.mac (s.gutter.seq + 1) w ∧
         t.gutter.ring.getLast? = some { seq := s.gutter.seq + 1, body := w, mac := t.gutter.mac } ∧
         (∃ new, t.gutter.queue = rest ++ new) ∧ (rest.length + 2 ≤ 256 → t.gutter.drops = s.gutter.drops) ∧
         t.attic = { s.attic with keptSeq := s.gutter.seq + 1 } ∧
         (w.source ≠ 464 ∨ w.code = ModeCause.dozeEnter.code ∨ w.code = ModeCause.wake.code → t.ridge = s.ridge) ∧
         Only [.attic, .ridge, .events] s t) ∧
     (∀ lost, (ringRoom s.gutter = false ∨ lost.isSome = true) →
       Completes (.record lost) s fun t =>
         (∃ new, t.gutter.queue = rest ++ new ∧ (ringRoom s.gutter = true → rest.length < 256 → new.map (·.source) = [482])) ∧
         t.gutter.ring = s.gutter.ring ∧ t.gutter.seq = s.gutter.seq ∧
         t.gutter.drops = satInc 0xFFFFFFFF s.gutter.drops ∧
         (s.gutter.episode = none → ∃ e, t.gutter.episode = some e ∧ e.count = 1 ∧
           e.reason = if ringRoom s.gutter then 2 else 1) ∧ Only [.events, .memctl] s t)) ∧
  (∀ s : State,
     (∀ r, s.gutter.jState = 1 → s.purlin.state = 1 → s.gutter.jUnit = false → s.gutter.jPos % unitRecords s ≠ 0 →
       s.gutter.ring.find? (fun r => decide (s.gutter.jSeq < r.seq)) = some r →
       Completes (.journalWriteDone 1 true) s fun t => t = { s with gutter := { s.gutter with
         journal := s.gutter.journal ++ [(s.gutter.jPos, r)], jSeq := r.seq
         jPos := (s.gutter.jPos + 1) % 131072 } }) ∧
     (∀ n, Completes (.journalWriteDone n false) s fun t => t = s) ∧
     (∀ torn, s.gutter.started = false → s.gutter.overwrite = false → s.purlin.state = 1 → s.boot.underlayDone = true →
       let found := if torn then s.gutter.journal else (setAsideTorn s.keys.journalKey s.gutter.journal).1
       (s.gutter.journal = [] →
         Completes (.journalHeadFound torn) s fun t => t.gutter.started = true ∧ t.gutter.jState = 1 ∧
           t.gutter.scanning = true ∧ t.gutter.seq = s.attic.keptSeq ∧ t.gutter.mac = 0 ∧ t.gutter.queue = s.gutter.queue ∧
           Only [.events] s t ∧ t.fns = s.fns) ∧
       (s.gutter.journal ≠ [] →
         Completes (.journalHeadFound torn) s fun t => ∃ pos j, found.getLast? = some (pos, j) ∧ t.gutter.started = true ∧ t.gutter.jState = 1 ∧
           t.gutter.scanning = true ∧ t.gutter.seq = max s.attic.keptSeq (j.seq + 16384) ∧ t.gutter.mac = j.mac ∧
           t.gutter.jSeq = j.seq ∧ t.gutter.journal = found ∧
           t.gutter.torn = (torn || decide (found.length < s.gutter.journal.length)) ∧
           (s.attic.countersFresh = true → t.attic.hours = j.body.hours ∧
             t.attic.cycles = (j.body.cycles + 1) % 2 ^ 32) ∧
           (s.attic.countersFresh = false → t.attic = s.attic) ∧ Only [.attic, .events] s t)) ∧
     (s.gutter.scanning = true → Completes .journalScanDone s fun t =>
       let old := (s.gutter.journal.map (·.2)).filter fun r => decide (r.seq ≤ s.gutter.jHead)
       let cycles := match old.getLast? with | some j => j.body.cycles | none => 0
       t.gutter.scanning = false ∧ t.gutter.ring = s.gutter.ring ∧ t.gutter.journal = s.gutter.journal ∧
         t.gutter.verdict = (if s.gutter.jHead = 0 then 1 else if (firstBadMac s.keys.journalKey (macBefore s) old).isSome then 3
           else if s.gutter.torn then 2 else if cycles + 1 ≠ s.attic.cycles then 4 else 0) ∧ Only [.events] s t))

/-- LOG_READ answers up to 127 records from a sequence number on, oldest first, of the ring or the journal (R437, R476), and
changes nothing; while the boot ROM answers the mailboxes the journal is not read (R425). LOG_ROUTE writes the routing of the
sender's own function and of no other (R463), and CAL_READ and CAL_WRITE the calibration block in the Purlin flash (R502): one
that is not valid is ST_BAD_ARG, one that is waits for the next COLD. The model's choices it rests on are in log entries 26,
33, 38. It says of each of these that it completes, with its own effect: .logReadRing, .logReadJournal, .logRoute, .calRead,
.calWrite. -/
def Obligations.LogsRoutingAndCalibration : Prop :=
  (∀ (s : State) (h : LdId) (n from_ : Nat), (s.mb h).arg 1 1 = n → 1 ≤ n → n ≤ 127 → (s.mb h).arg 2 2 = 0 →
     (s.mb h).arg 4 8 = from_ → lengthOf s h = 12 →
     let answerOf := fun (low : Nat) (rs : List Record) =>
       let out := (rs.filter fun r => decide (from_ ≤ r.seq)).take n
       leBytes 8 low ++ leBytes 4 out.length ++ leBytes 4 s.gutter.drops ++ out.flatMap recordBytes
     let modes : List DevMode := .provision :: .depot :: .lockdown :: servedModes
     (Taken s h (0x700 * 256) → (s.mb h).arg 0 1 = 0 → (s.gmode.mode ∈ modes ∨ bootRomMode s.gmode.mode = true) →
       Replies (.logReadRing h) s h 0 (answerOf (ringLow s.gutter) s.gutter.ring)) ∧
     (Taken s h (0x700 * 256 + 1) → bootRomMode s.gmode.mode = true → Replies (.logReadJournal h) s h 1 []) ∧
     (Taken s h (0x700 * 256 + 1) → (s.mb h).arg 0 1 = 1 → s.gmode.mode ∈ modes →
       s.gutter.overwrite = false →
       (s.purlin.state = 1 → s.gutter.jState ≠ 0 → Replies (.logReadJournal h) s h 0
         (answerOf (journalLow s.gutter) (s.gutter.journal.map (·.2)))) ∧
       (s.purlin.state ≠ 1 → Replies (.logReadJournal h) s h 11 []))) ∧
  (∀ (s : State) (h : LdId),
     (∀ first n, Taken s h (0x701 * 256) → s.gmode.mode ∈ DevMode.lockdown :: servedModes → (s.mb h).arg 0 2 = first →
       (s.mb h).arg 2 2 = n → lengthOf s h = 4 + n → 1 ≤ n → first + n ≤ 512 →
       ((∀ v ∈ (s.mb h).bytes 4 n, v.toNat < 64 ∨ v = 0xFF) →
         Completes (.logRoute h) s fun t =>
           (t.fn h).routes = Memory.write 0xFF (s.fn h).routes first ((s.mb h).bytes 4 n) ∧
           (∀ f, f ≠ h → (t.fn f).routes = (s.fn f).routes) ∧ Only [.mail] s t ∧ Completed s t h 0 []) ∧
       ((∃ v ∈ (s.mb h).bytes 4 n, 64 ≤ v.toNat ∧ v ≠ 0xFF) → Replies (.logRoute h) s h 6 [])) ∧
     (Taken s h (0x900 * 256) → lengthOf s h = 0 → s.gmode.mode ∈ DevMode.provision :: servedModes →
       (s.purlin.state = 1 → Replies (.calRead h) s h 0 (Memory.read 0xFF s.purlin.contents 0 1024)) ∧
       (s.purlin.state ≠ 1 → Replies (.calRead h) s h 11 [])) ∧
     (Taken s h (0x901 * 256) → lengthOf s h = 1024 → ownerOnly s h = true →
       s.gmode.mode ∈ [DevMode.serve, .doze, .barren, .provision] → s.purlin.state = 1 →
       let b := (s.mb h).bytes 0 1024
       Completes (.calWrite h true) s fun t =>
         (calValid b = true →
           t.purlin = { s.purlin with
             contents := Memory.write 0xFF (Memory.erase s.purlin.contents 0 0x1000) 0 b } ∧
           t.cal = { s.cal with pending := true } ∧ Only [.purlin, .cal, .mail] s t ∧ Completed s t h 0 []) ∧
         (calValid b = false → Only [.mail] s t ∧ Completed s t h 6 []) ∧
       Completes (.calWrite h false) s fun t =>
         (calValid b = true → t.purlin.contents = Memory.erase s.purlin.contents 0 0x1000 ∧ t.cal = s.cal ∧
           Logged s t 507 ∧ Only [.purlin, .mail, .events] s t ∧ Completed s t h 11 []) ∧
         (calValid b = false → Only [.mail] s t ∧ Completed s t h 6 [])))

/-! ### Fetching and releasing images (R80 to R87, R129 to R152) -/

/-- DISCOVER (R88, R129, R134, R343 to R345): what the flashes answer decides their profiles; with the main flash answering
the fetch goes on to SELECT from it; with none answering it fails, but under the boot ROM before flash_ready it is repeated;
flash_ready starts a fetch that waits for it. SELECT and OPEN (R128, R129, R133, R135, R141, R232): of the slots read, the
valid record with the highest sequence number whose digest stands in its slot names the partition, and partition A where none
does; a flash whose area cannot be read drops its records, and the read source is then given up; with none left the fetch
fails. The OPEN copy holds the ranges of the OPEN regions and 0xFF elsewhere, and is not whole while one is missing. The
model's choices it rests on are in log entry 35. It says of each of these that it completes, with its own effect:
.discoveryDone, .discoveryRetryExpiry, .flashReadyExpiry, .selectDone, .openStageDone. -/
def Obligations.DiscoveryAndSelection : Prop :=
  (∀ (s : State) (x : TileId) (mainAnswer twinAnswer : FlashAnswer) (fitted : Bool), fusedOff s x = false →
     let main := discoverOn s x.val (s.tile x).eave.main mainAnswer
     let twin := discoverOn s x.val (s.tile x).eave.twin twinAnswer
     let goesOn := fun t : State =>
       (t.tile x).verify = { (s.tile x).verify with
         discTries := (s.tile x).verify.discTries + 1, mainFault := false, twinFault := !(fitted && decide (twin.result.val = 0)), readTwin := false, phase := 2
         source := 0 } ∧
       (t.tile x).eave.main = some main ∧ (t.tile x).eave.twin = (if fitted then some twin else none) ∧
       (t.tile x).eave.mainId = main.id ∧ (t.tile x).eave.readId = main.id ∧
       (t.tile x).ctl = (s.tile x).ctl ∧ OnlyTile x s t ∧ Only [.tiles, .events] s t
     let still := (s.tile x).eave.mainWork = none ∧ (s.tile x).eave.twinWork = none
     (Fetching s x 1 → ¬ still → Completes (.discoveryDone x mainAnswer twinAnswer fitted) s fun t => t = s) ∧
     (Fetching s x 1 → still →
       (main.result = 0 → Completes (.discoveryDone x mainAnswer twinAnswer fitted) s goesOn) ∧
       (main.result ≠ 0 → (fitted = false ∨ twin.result ≠ 0) →
         (bootRomMode s.gmode.mode = false ∨ (s.tile x).power.flashReady = true) →
         Completes (.discoveryDone x mainAnswer twinAnswer fitted) s fun t => FetchFailed x s t)) ∧
     (Fetching s x 1 → still → bootRomMode s.gmode.mode = true → main.result = 0 →
       Completes (.discoveryRetryExpiry x mainAnswer twinAnswer fitted) s goesOn) ∧
     ((s.tile x).ctl.state = .fetch → (s.tile x).verify.phase = 1 → still → fetchAllowed s x = true →
       bootRomMode s.gmode.mode = true → (s.tile x).power.flashReady = false → main.result ≠ 0 →
       (fitted = false ∨ twin.result ≠ 0) → Completes (.discoveryRetryExpiry x mainAnswer twinAnswer fitted) s fun t =>
         (t.tile x).verify = { (s.tile x).verify with discTries := (s.tile x).verify.discTries + 1 } ∧
         (t.tile x).ctl = (s.tile x).ctl ∧ (t.tile x).eave.main = some main ∧
         OnlyTile x s t ∧ Only [.tiles] s t) ∧
     ((s.tile x).ctl.pgood = true → (s.tile x).ctl.state ≠ .absent → (s.tile x).ctl.state ≠ .off →
       Completes (.flashReadyExpiry x) s fun t => (t.tile x).power = { (s.tile x).power with flashReady := true } ∧
         (t.tile x).verify = (if (s.tile x).ctl.state = .fetch ∧ (s.tile x).verify.phase = 0
           then { (s.tile x).verify with phase := 1 } else (s.tile x).verify) ∧ (t.tile x).ctl = (s.tile x).ctl ∧
         OnlyTile x s t ∧ Only [.tiles] s t)) ∧
  (∀ (s : State) (x : TileId),
     (∀ main twin slotA slotB, Fetching s x 2 →
       let v := (s.tile x).verify
       let readable := fun which : Bool => !v.gone which && (if which then twin else main).isSome
       let slots := fun which : Bool =>
         if v.gone which then [] else (areaSlots ((if which then twin else main).getD [])).map (·.2)
       let whole := (slots false ++ slots true).filter switchOk
       let pick := newestRecord (whole.filter fun r =>
         ofBytes 128 (slice 0x0C 16 r) == (if leAt 8 1 r = 1 then slotB else slotA))
       let selects := fun t : State =>
         (t.tile x).verify.phase = 3 ∧
         (t.tile x).verify.partition = (match pick with | some r => decide (leAt 8 1 r = 1) | none => false) ∧
         (t.tile x).verify.trialFetch = (match pick with | some r => decide (leAt 9 1 r = 1) | none => false) ∧
         (t.tile x).update.switchSeq = (match newestRecord whole with | some r => leAt 4 4 r | none => 0) ∧
         (t.tile x).ctl = (s.tile x).ctl ∧ OnlyTile x s t
       (readable v.readTwin = true → Completes (.selectDone x main twin slotA slotB) s fun t =>
         selects t ∧ (t.tile x).verify.readTwin = v.readTwin ∧ Only [.tiles] s t) ∧
       (readable v.readTwin = false → v.gone v.readTwin = false → readable (!v.readTwin) = true →
         Completes (.selectDone x main twin slotA slotB) s fun t =>
           selects t ∧ (t.tile x).verify.readTwin = !v.readTwin ∧ (t.tile x).verify.gone v.readTwin = true ∧
           Logged s t (x.val * 14 + 12) ∧ Only [.tiles, .events] s t) ∧
       (readable false = false → readable true = false →
         Completes (.selectDone x main twin slotA slotB) s fun t => FetchFailed x s t)) ∧
     (∀ ranges opens, Fetching s x 10 → openCopy (s.tile x).verify.manifest ranges = some opens →
       Completes (.openStageDone x ranges) s fun t => t.tile x = { s.tile x with
           verify := { (s.tile x).verify with phase := 6, openDone := true }
           mem := { (s.tile x).mem with opens := opens } } ∧
         OnlyTile x s t ∧ Only [.tiles] s t) ∧
     (∀ ranges, openCopy (s.tile x).verify.manifest ranges = none → Completes (.openStageDone x ranges) s fun t => t = s))

/-- MANIFEST and SIGNATURE (R120, R137 to R139): a manifest that fails one of the first four checks ends the fetch at once;
one that fails its signature or a later check ends it when the signature result comes; one that passes them all is accepted,
with its watermark, and nothing is in force before a release. It says of each of these that it completes, with its own effect:
.manifestReadDone, .signatureResult. -/
def Obligations.ManifestIsCheckedBeforeItIsAccepted : Prop :=
  ∀ (s : State) (x : TileId),
    (∀ bytes, Fetching s x 3 →
      Completes (.manifestReadDone x bytes) s fun t =>
        let m := if headerOk bytes then bytes.take (mfLen bytes) else bytes.take 256
        let c := checkManifest s (.tile x none) m none
        (0 < c ∧ c < 5 → FetchFailed x s t) ∧
        (c = 0 ∨ 5 ≤ c → (t.tile x).ctl = (s.tile x).ctl ∧ (t.tile x).verify.sigPending = true ∧
          (t.tile x).verify.manifest = m ∧ (t.tile x).verify.digest = readDigest m ∧
          (t.tile x).verify.checkCause = BitVec.ofNat 8 c ∧ (t.tile x).force.manifest = (s.tile x).force.manifest ∧
          (t.tile x).verify.accepted = (s.tile x).verify.accepted ∧ OnlyTile x s t ∧ Only [.tiles] s t)) ∧
    (∀ sig : RafterRun, sig.wrong = [] → Fetching s x (s.tile x).verify.phase → (s.tile x).verify.sigPending = true →
      (s.tile x).verify.ahead = [] → (s.tile x).verify.aheadNodes = [] →
      (s.tile x).verify.prefixLen < blockCount (s.tile x).verify.manifest →
      let m := (s.tile x).verify.manifest
      Completes (.signatureResult x sig) s fun t =>
        ((manifestSig s m sig x.val).2 = true → (s.tile x).verify.checkCause = 0 →
          (t.tile x).verify.accepted = true ∧ (t.tile x).verify.sigPending = false ∧
          (t.tile x).verify.watermark = watermarkOf m ∧ (t.tile x).ctl.state = .fetch ∧
          (t.tile x).force.manifest = (s.tile x).force.manifest ∧ OnlyTile x s t ∧ Only [.tiles] s t) ∧
        ((manifestSig s m sig x.val).2 = false ∨ (s.tile x).verify.checkCause ≠ 0 → FetchFailed x s t))

/-- Nodes and blocks (R139, R140, R142, R144): what is read before acceptance is kept unverified; afterwards a node is kept
only where its digest is its parent's entry, and a group whose rebuilt node matches is verified and stands in the copy.
Content that matches on no flash fails the image. No lane computes a wrong digest in these runs. It says of each of these that
it completes, with its own effect: .treeNodeRead, .groupLanded. -/
def Obligations.NothingIsVerifiedWithoutItsParent : Prop :=
  ∀ (s : State) (x : TileId), Canonical s →
    (∀ level idx node, Fetching s x 5 → 2 ≤ level → level ≤ treeDepth (blockCount (s.tile x).verify.manifest) →
      idx < nodesAt (blockCount (s.tile x).verify.manifest) level →
      let v := (s.tile x).verify
      (v.accepted = false →
        Completes (.treeNodeRead x level idx node none cleanRuns cleanRuns) s fun t =>
          (t.tile x).verify.nodes = v.nodes ∧
          (∃ n ∈ (t.tile x).verify.aheadNodes, n.key = nodeKey level idx ∧ n.node = node ∧ n.twin = v.readTwin) ∧
          (t.tile x).ctl = (s.tile x).ctl ∧ OnlyTile x s t ∧ Only [.tiles] s t) ∧
      (∀ p, v.accepted = true → idx < 65536 → parentEntry v.manifest v.nodes level idx = some p →
        Completes (.treeNodeRead x level idx node none cleanRuns cleanRuns) s fun t =>
          (Config.sha384 node = p → (t.tile x).verify.nodes = assocSet v.nodes (nodeKey level idx) node ∧
            (t.tile x).ctl = (s.tile x).ctl ∧ OnlyTile x s t ∧ Only [.tiles] s t) ∧
          (Config.sha384 node ≠ p → FetchFailed x s t))) ∧
    (∀ g read, (Fetching s x 6 ∨ Fetching s x 7) →
      groupBlocks (blockCount (s.tile x).verify.manifest) g ≠ [] → (s.tile x).verify.accepted = false →
      Completes (.groupLanded x g read) s fun t =>
        { group := g, twin := (s.tile x).verify.readTwin, read := read } ∈ (t.tile x).verify.ahead ∧
        (t.tile x).verify.verified = (s.tile x).verify.verified ∧ (t.tile x).mem = (s.tile x).mem ∧
        (t.tile x).ctl = (s.tile x).ctl ∧ OnlyTile x s t ∧ Only [.tiles] s t) ∧
    (∀ g blocks node p, (Fetching s x 6 ∨ Fetching s x 7) → (s.tile x).verify.accepted = true →
      let v := (s.tile x).verify
      parentEntry v.manifest v.nodes 1 g = some p →
      blocks.length = (groupBlocks (blockCount v.manifest) g).length →
      (∃ b ∈ groupBlocks (blockCount v.manifest) g, b ∉ v.verified ∧ b ∉ v.held) →
      let read : GroupRead := { blocks := blocks, node := node, nodeOther := none, kept := [], others := [], candRuns := cleanRuns
                                nodeRuns := cleanRuns, leafRuns := [], otherRuns := cleanRuns, otherLeafRuns := [] }
      let landed := landedBlocks v.manifest g read
      let cand := candidateNode (landed.map Config.sha384)
      Completes (.groupLanded x g read) s fun t =>
        (Config.sha384 cand = p → ∀ k, k < blocks.length →
          (32 * g + k ∈ (t.tile x).verify.verified ∨ 32 * g + k ∈ (t.tile x).verify.held) ∧
          Memory.read 0xFF (t.tile x).mem.copy (4096 * (32 * g + k)) 4096 =
            padTo 4096 0xFF ((landed.getD k []).take 4096)) ∧
        (Config.sha384 cand ≠ p → Config.sha384 node ≠ p → FetchFailed x s t))

/-- Releases (R80, R85, R86, R131, R148, R149, R244): a settled tile in FETCH goes to RUN when every SEALED block is verified,
and to EARLY when the watermark is; a tile reset in HELD goes back to RUN with its verified copy. The model's choices it rests
on are in log entry 60. It says of each of these that it completes, with its own effect: .release, .earlyRelease, .rerelease.
-/
def Obligations.ReleasesPutTheManifestInForce : Prop :=
  ∀ (s : State) (x : TileId) (mirror : List (Nat × List Byte)), fusedOff s x = false → s.gmode.mode ≠ .gate →
    settled s x = true → s.boot.ridgeHeld = false →
    ((s.tile x).ctl.state = .fetch → sealedDone (s.tile x).verify = true → (s.tile x).verify.openDone = true →
      Completes (.release x mirror) s fun t => Released x s t .run .release 1) ∧
    ((s.tile x).ctl.state = .fetch → (s.tile x).verify.accepted = true → (s.tile x).power.resumed = false →
      mfProfile (s.tile x).verify.manifest = 1 → (s.tile x).active.earlyAllowed = true → (s.tile x).ctl.noEarly = false →
      (s.tile x).verify.openDone = true → (s.tile x).verify.watermark ≤ (s.tile x).verify.prefixLen →
      sealedDone (s.tile x).verify = false →
      Completes (.earlyRelease x mirror) s fun t => Released x s t .early .earlyRelease 2) ∧
    ((s.tile x).ctl.state = .held → (s.tile x).force.copyValid = true → (s.tile x).verify.phase = 8 →
      ((s.tile x).power.afterReset = true ∨ (s.tile x).active.reuseCopy = true) → (s.tile x).ctl.switchPending = false →
      ((s.tile x).active.underrunLog = true ∨ (s.tile x).sweep.suspect = []) →
      Completes (.rerelease x) s fun t => Moved x s t .run .rerelease ∧ (t.tile x).force.lastKind = 3 ∧
        (t.tile x).force.manifest = (s.tile x).force.manifest ∧ (t.tile x).mem = (s.tile x).mem ∧
        (t.tile x).filter.wel = false ∧ OnlyTile x s t ∧ Woke [.tiles, .ridge, .events] s t) ∧
    ((s.tile x).ctl.state = .restore → (s.tile x).restore.ready = true →
      Completes (.release x mirror) s fun t => Moved x s t .run .restoreOk ∧
        (t.tile x).force.manifest = (s.tile x).verify.manifest ∧ (t.tile x).force.lastKind = 4 ∧
        (t.tile x).restore.ready = false ∧ (t.tile x).restore.restores = satInc 0xFF (s.tile x).restore.restores ∧
        OnlyTile x s t ∧ Only [.tiles, .ridge, .memctl, .events] s t)

/-! ### Flash ports (R135, R181 to R183, R346 to R361) -/

/-- A queue entry that completes leaves its status in the port's registers and its queue and is written back with its code
(R346, R348, R350 to R354, R361): a program or erase leaves the flash busy with its work until its poll ends it; a poll ends
with OK where the byte read, masked, is the ready value; the bytes of a read stand in the port's SRAM; a failing read leaves
its code, its select and one more read error; an invalid entry, timed out or not, BAD_ENTRY. A poll that checks the flags can
end with FLASH_ERROR, and a poll and a held select that time out end with codes 4 and 6; no valid entry ends with another
code. A program or erase that the gate queues in the form R344 gives brings its poll with it and goes before the queued
entries of a lower kind of work that may wait (R203). A read that fails for the walker is made once more on its flash, and
when that read fails there again the flash is given up for the other (R135), but in SELECT one that is not the read source
only loses its records (R129); with no other flash left the fetch fails. One that fails for the sweep in RUN, or for a repair,
marks the flash down (R182). The Purlin port (R346, R355 to R361): its requesters take turns, errors are counted, the third in
succession leaves it FAULTED, where every entry ends ABORTED, and a probe that answers brings it UP. A mapped read answers the
flash's bytes, or a bus error outside the map; one that misses while the flash is busy and cannot be suspended waits, is
answered when the last poll reads ready, and ends with a bus error when t_MAP_WAIT expires; a write is always a bus error.
G_PURLIN_CFG is written by the Loft. The model's choices it rests on are in log entries 6, 36, 37, 38. It says of each of
these that it completes, with its own effect: .eaveEntryComplete, .pollTimeout, .contTimeout, .purlinProbe, .purlinMappedRead,
.mapWaitExpiry, .purlinMappedWrite, .purlinResumeExpiry, .registerWrite. -/
def Obligations.PortEntriesAndReadFailures : Prop :=
  (∀ (s : State) (x : TileId) (port : Fin 33) (e : BitVec 128) (work : EaveWork) (who : Fin 5) (data : List Byte), port.val = x.val →
     fusedOff s x = false → work ∉ [EaveWork.walker, .sweep, .repair] → s.attic.clocksHeld.getLsbD 2 = false →
     let v := (s.tile x).eave
     let twin := entryTwin e
     let left := fun code : Nat => ({ v with queue := v.queue.erase (e, work), chain := none, last := entryDoneWord e code } : TileEave)
     let failed := fun code : Nat => ({ left code with
       lastError := BitVec.ofNat 4 code, lastSel := twin
       mainFailed := if twin then v.mainFailed else some (entryDoneWord e code)
       twinFailed := if twin then some (entryDoneWord e code) else v.twinFailed } : TileEave)
     let done := fun (t : State) (w : TileEave) => t.tile x = { s.tile x with eave := w } ∧ OnlyTile x s t ∧ Only [.tiles] s t
     let ready := (data.headD 0).toNat &&& entryField e 3 7 0 = entryField e 3 15 8
     let held := entryCont e = true → ∃ q ∈ v.queue.erase (e, work), entryTwin q.1 = twin
     let chain := if entryCont e then some twin else none
     (entryServed v.chain v.queue (e, work) = true → entryValid port.val e = true →
       (entryModifies e = true → entryPoll e = false → held → Completes (.eaveEntryComplete port e work 1 who data []) s fun t =>
         done t { left 1 with
           chain := chain, mainWork := if twin then v.mainWork else some work, twinWork := if twin then some work else v.twinWork }) ∧
       (entryPoll e = true → entryCont e = false → ready → Completes (.eaveEntryComplete port e work 1 who data []) s fun t =>
         done t { left 1 with mainWork := if twin then v.mainWork else none, twinWork := if twin then none else v.twinWork }) ∧
       (entryPoll e = true → ¬ ready → Completes (.eaveEntryComplete port e work 1 who data []) s fun t => t = s) ∧
       (entryWrite e = false → entryPoll e = false → held → Completes (.eaveEntryComplete port e work 1 who data []) s fun t =>
         done t { left 1 with chain := chain, buffer := Memory.write 0 v.buffer (entryBuffer e) (data.take (entryLen e)) }) ∧
       (∀ code : BitVec 4, (code = 2 ∨ code = 3) → entryWrite e = false → entryDqs e = true → entryPoll e = false →
         Completes (.eaveEntryComplete port e work code who data []) s fun t => done t { failed code.toNat with
           readErrors := satInc 0xFF v.readErrors }) ∧
       (entryPoll e = true → entryFlags e = true → ready → Completes (.eaveEntryComplete port e work 5 who data []) s fun t =>
         done t { failed 5 with
           mainWork := if twin then v.mainWork else none, twinWork := if twin then none else v.twinWork
           writeErrors := satInc 0xFF v.writeErrors }) ∧
       (∀ code : BitVec 4, code = 0 ∨ 7 ≤ code.toNat → Completes (.eaveEntryComplete port e work code who data []) s fun t => t = s) ∧
       (entryPoll e = true → Completes (.pollTimeout port e work who []) s fun t => done t { failed 4 with
         mainWork := if twin then v.mainWork else none, twinWork := if twin then none else v.twinWork
         writeErrors := satInc 0xFF v.writeErrors }) ∧
       (entryCont e = true → Completes (.contTimeout port e work who []) s fun t => done t { failed 6 with
         writeErrors := if entryPoll e || entryModifies e then satInc 0xFF v.writeErrors else v.writeErrors }) ∧
       (entryPoll e = false → Completes (.pollTimeout port e work who []) s fun t => t = s) ∧
       (entryCont e = false → Completes (.contTimeout port e work who []) s fun t => t = s)) ∧
     (entryServed v.chain v.queue (e, work) = true → entryValid port.val e = false →
       ∀ c ∈ [Instr.eaveEntryComplete port e work 1 who data [], .pollTimeout port e work who [], .contTimeout port e work who []],
         Completes c s fun t => done t (failed 7)) ∧
     (∀ q : QueuedEntry, entryValid port.val e = true → entryModifies q.words = true → entryPoll q.words = false →
       formOk (flashDisc (s.tile x) (entryTwin q.words)) q.words q.work = true → v.queue.length ≤ 30 →
       let new := [(q.words, q.work), (pollEntry (s.tile x) q.words, q.work)]
       let kept := Memory.write 0 v.buffer (entryBuffer q.words) (q.data.take (entryLen q.words))
       ((∀ w ∈ v.queue, workRank w.2 ≤ workRank q.work) →
         Completes (.eaveEntryComplete port e work 0 who data [q]) s fun t =>
           done t { v with queue := v.queue ++ new, buffer := kept }) ∧
       ∀ w ∈ (v.queue.drop v.settled).head?, workRank q.work < workRank w.2 →
         (∀ p ∈ (v.queue.take v.settled).getLast?, entryBound (some p) w = false) →
         Completes (.eaveEntryComplete port e work 0 who data [q]) s fun t => done t { v with
           queue := v.queue.take v.settled ++ new ++ v.queue.drop v.settled, buffer := kept }) ∧
     ∀ q : QueuedEntry, entryValid port.val e = true → entryPoll q.words = true ∨
         formOk (flashDisc (s.tile x) (entryTwin q.words)) q.words q.work = false →
       Completes (.eaveEntryComplete port e work 0 who data [q]) s fun t => done t v) ∧
  (∀ (s : State) (x : TileId) (port : Fin 33) (e : BitVec 128) (code : BitVec 4) (who : Fin 5) (work : EaveWork) (data : List Byte),
     port.val = x.val → fusedOff s x = false → entryValid port.val e = true → (code = 2 ∨ code = 3) → entryWrite e = false →
     entryDqs e = true → s.attic.clocksHeld.getLsbD 2 = false →
     entryServed (s.tile x).eave.chain (s.tile x).eave.queue (e, work) = true →
     let v := (s.tile x).verify
     let twin := entryTwin e
     let read := (twin, entryAddress e)
     (work = .walker → walking s x = true → fetchAllowed s x = true → v.gone twin = false →
       (read ∉ v.readFails → Completes (.eaveEntryComplete port e work code who data []) s fun t =>
         (t.tile x).verify = { v with readFails := read :: v.readFails } ∧ (t.tile x).ctl = (s.tile x).ctl ∧
         OnlyTile x s t ∧ Only [.tiles] s t) ∧
       (read ∈ v.readFails → v.phase = 2 → v.readTwin ≠ twin →
         Completes (.eaveEntryComplete port e work code who data []) s fun t =>
           (t.tile x).verify = { v with readFails := v.readFails.filter (· ≠ read) } ∧ (t.tile x).ctl = (s.tile x).ctl ∧
           OnlyTile x s t ∧ Only [.tiles] s t) ∧
       (read ∈ v.readFails → v.readTwin = twin → otherUsable (s.tile x) = true →
         ((s.tile x).ctl.state ≠ .restore ∨ (s.tile x).restore.source = 2) →
         Completes (.eaveEntryComplete port e work code who data []) s fun t =>
           (t.tile x).verify.gone twin = true ∧ (t.tile x).verify.readTwin = !twin ∧
           (t.tile x).verify.readFails = v.readFails.filter (· ≠ read) ∧ (t.tile x).ctl = (s.tile x).ctl ∧
           Logged s t (x.val * 14 + 12) ∧ OnlyTile x s t ∧ Only [.tiles, .events] s t) ∧
       (read ∈ v.readFails → v.readTwin = twin → otherUsable (s.tile x) = false → (s.tile x).ctl.state = .fetch →
         s.gmode.mode ≠ .gate →
         Completes (.eaveEntryComplete port e work code who data []) s fun t => FetchFailed x s t)) ∧
     ((work = .repair ∨ (work = .sweep ∧ (s.tile x).ctl.state = .run)) →
       (if twin then (s.tile x).sweep.twinDown else (s.tile x).sweep.mainDown) = false →
       Completes (.eaveEntryComplete port e work code who data []) s fun t =>
         (t.tile x).sweep.mainDown = ((s.tile x).sweep.mainDown || !twin) ∧
         (t.tile x).sweep.twinDown = ((s.tile x).sweep.twinDown || twin) ∧ (∀ r ∈ (t.tile x).sweep.repairs, r.twin ≠ twin) ∧
         (t.tile x).ctl = (s.tile x).ctl ∧ Logged s t (x.val * 14 + 12) ∧ OnlyTile x s t ∧ Only [.tiles, .events] s t)) ∧
  (∀ s : State,
     (∀ (e : BitVec 128) (work : EaveWork) (who : Fin 5) (data : List Byte), who.val < 4 → purlinTurn s.purlin who.val = true →
       (s.purlin.queueOf who.val).head? = some e → s.attic.clocksHeld.getLsbD 2 = false → s.purlin.miss = none →
       let left := fun code : Nat => ({ s.purlin.setQueue who.val (s.purlin.queueOf who.val).tail with
         turn := (who.val + 1) % 5, chain := none, omitting := false, last := entryDoneWord e code
         busy := decide (s.purlin.ranges ≠ []), suspended := s.purlin.suspended && decide (s.purlin.ranges ≠ []) } : Purlin)
       (s.purlin.state = 1 → entryValid 32 e = true → entryWrite e = false → entryDqs e = true → entryPoll e = false →
         ((entryCont e = true → 1 < (s.purlin.queueOf who.val).length) →
           Completes (.eaveEntryComplete 32 e work 1 who data []) s (fun t => t = { s with purlin := { left 1 with
             chain := (if entryCont e then some who.val else none), runErrors := 0
             buffer := Memory.write 0 s.purlin.buffer (entryBuffer e) (data.take (entryLen e)) } })) ∧
         (s.purlin.runErrors < 2 → Completes (.eaveEntryComplete 32 e work 2 who data []) s fun t =>
           t = { s with purlin := { left 2 with
             lastError := 2, errors := satInc 0xFF s.purlin.errors, runErrors := s.purlin.runErrors + 1 } }) ∧
         (s.purlin.runErrors = 2 → Completes (.eaveEntryComplete 32 e work 2 who data []) s fun t =>
           t.purlin = { left 2 with
             state := 2, lastError := 2, errors := satInc 0xFF s.purlin.errors, runErrors := 0 } ∧ Logged s t 507 ∧
           Only [.purlin, .events] s t)) ∧
       (s.purlin.state ≠ 1 → ∀ code, Completes (.eaveEntryComplete 32 e work code who data []) s fun t =>
         t = { s with purlin := { left 8 with lastError := 8 } })) ∧
     (∀ answer : FlashAnswer, s.boot.underlayDone = true → s.purlin.state ≠ 1 →
       let found := discoverOn s 32 s.purlin.disc answer
       (found.result ≠ 0 → Completes (.purlinProbe answer) s fun t =>
         t = { s with purlin := { s.purlin with disc := some found } }) ∧
       (found.result = 0 → Completes (.purlinProbe answer) s fun t => t.purlin.state = 1 ∧ t.purlin.disc = some found ∧
         t.purlin.runErrors = 0 ∧ t.purlin.suspended = false ∧ t.purlin.contents = s.purlin.contents ∧ Logged s t 507 ∧
         Only [.purlin, .events] s t)) ∧
     (∀ a len, a + len ≤ 0x10000000 → 0 < len → s.purlin.state = 1 → bitOf s.purlin.cfg 0 = true →
       let hit := ∀ k ∈ linesOf a len, k ∈ s.purlin.lines
       let bytes := (List.range len).map fun i => purlinByte s (a + i)
       (s.purlin.miss = none →
         (a + len ≤ mapSize s → (hit ∨ (s.purlin.busy = false ∧ purlinTurn s.purlin 4 = true)) →
           Completes (.purlinMappedRead (0x40000000 + a) len) s fun t =>
             t.resp = { data := bytes, code := 0 } ∧
             t.purlin = { s.purlin with
               lines := t.purlin.lines, turn := if hit then s.purlin.turn else 0
               omitting := if hit then s.purlin.omitting else omits s.purlin } ∧ Only [.purlin, .resp] s t) ∧
         (a + len ≤ mapSize s → ¬ hit → s.purlin.busy = true → bitOf s.purlin.cfg 2 = false →
           Completes (.purlinMappedRead (0x40000000 + a) len) s fun t =>
             t = { s with purlin := { s.purlin with miss := some (a, len) }, resp := { data := [], code := 2 } }) ∧
         (mapSize s < a + len → Completes (.purlinMappedRead (0x40000000 + a) len) s fun t =>
           t = { s with purlin := { s.purlin with mapErrors := satInc 0xFF s.purlin.mapErrors }
                        resp := { data := [], code := 1 } })) ∧
       (s.purlin.miss = some (a, len) → a + len ≤ mapSize s →
         (s.purlin.busy = true → Completes (.mapWaitExpiry (0x40000000 + a)) s fun t =>
           t = { s with purlin := { s.purlin with miss := none, mapErrors := satInc 0xFF s.purlin.mapErrors }
                        resp := { data := [], code := 1 } }) ∧
         ∀ (e : BitVec 128) (work : EaveWork) (who : Fin 5) (data : List Byte), who.val < 4 → s.attic.clocksHeld.getLsbD 2 = false →
           (∀ k, k < 4 → s.purlin.queueOf k = if k = who.val then [e] else []) → s.purlin.chain = none →
           (∀ r ∈ s.purlin.ranges, r.1 = who.val) → entryValid 32 e = true → entryPoll e = true → entryCont e = false →
           (data.headD 0).toNat &&& entryField e 3 7 0 = entryField e 3 15 8 →
           Completes (.eaveEntryComplete 32 e work 1 who data []) s fun t =>
             t.resp = { data := bytes, code := 0 } ∧ t.purlin.miss = none ∧ t.purlin.busy = false ∧ Only [.purlin, .resp] s t)) ∧
     (∀ a, a < 0x10000000 → Completes (.purlinMappedWrite (0x40000000 + a)) s fun t =>
       t = { s with purlin := { s.purlin with mapErrors := satInc 0xFF s.purlin.mapErrors }
                    resp := { data := [], code := 1 } }) ∧
     (Completes .purlinResumeExpiry s fun t =>
       t = { s with purlin := { s.purlin with suspended := false, served := 0 } }) ∧
     ∀ b : Byte, Completes (.registerWrite none 0x74 [some b]) s fun t =>
       t = { s with purlin := { s.purlin with cfg := b.setWidth 4 } })

/-! ### Sweep (R175 to R186) -/

/-- With every Underlay channel up a pass starts on the main flash, waking the device from DOZE (R60, R176, R177), and goes on
item by item in the order of R177; a group, node, OPEN unit and manifest slot that hold what they should leave copy and repair
queue as they are, and one that differs on the flash queues its unit and is reported (R178, R179). Repairs, resyncs and
refills (R60, R175, R180 to R183, R353), with every Underlay channel up: a repair drives the unit's bytes from verified
sources, the level-1 nodes among them once they match their parents; it leaves the queue where they are read back, is tried
again where not, and the third failure marks the flash down; with a node that no flash can replace the copy is lost. A resync
done brings its flash back; a suspect block is refilled from the flash whose block matches its leaf, and with none the copy is
lost and the tile leaves RUN. No lane computes a wrong digest in these runs. The model's choices it rests on are in log
entries 37, 39. It says of each of these that it completes, with its own effect: .sweepPassStart, .sweepGroup,
.sweepAreaCompare, .repairDone, .resyncDone, .refillDone. -/
def Obligations.SweepsAndRepairs : Prop :=
  (∀ (s : State) (x : TileId), fusedOff s x = false → s.memctl.channelUp = BitVec.allOnes 8 →
     let v := (s.tile x).verify
     let m := v.manifest
     let found := fun (t : State) (twin : Bool) (addr : Nat) => Logged s t (x.val * 14 + 13) ∧
       (∃ r ∈ (t.tile x).sweep.repairs, r.twin = twin ∧
         r.addr = addr / eraseUnitOf (flashDisc (s.tile x) twin) * eraseUnitOf (flashDisc (s.tile x) twin)) ∧
       (t.tile x).mem = (s.tile x).mem ∧ (t.tile x).ctl = (s.tile x).ctl ∧ OnlyTile x s t ∧ Woke [.tiles, .events] s t
     let agrees := fun t : State => t.tile x = sweepGoOn (s.tile x) ∧ OnlyTile x s t ∧ Woke [.tiles] s t
     (∀ main twin, sweepAllowed s x = true → (s.tile x).sweep.phase = 0 → (s.tile x).sweep.mainDown = false →
       ((s.tile x).eave.twinFitted = false ∨ (s.tile x).sweep.twinDown = false) → (s.tile x).active.sweepMain = true →
       Completes (.sweepPassStart x main twin) s fun t =>
         t.tile x = { s.tile x with sweep := { (s.tile x).sweep with
           phase := 1, target := false, mismatches := 0, passTick := s.attic.tick, pos := 0 } } ∧
         OnlyTile x s t ∧ Woke [.tiles] s t) ∧
     (∀ twin g blocks node p nd, sweepItem s x twin 2 g = true → parentEntry m v.nodes 1 g = some p →
       heldNode (s.tile x) 1 g = some nd →
       let read : GroupRead := { blocks := blocks, node := node, nodeOther := none, kept := [], others := [], candRuns := cleanRuns
                                 nodeRuns := cleanRuns, leafRuns := [], otherRuns := cleanRuns, otherLeafRuns := [] }
       let group := groupBlocks (blockCount m) g
       let copyLeaf := fun b => Config.sha384 (copyBlock (s.tile x) b)
       let landed := landedBlocks m g read
       Completes (.sweepGroup x g twin read cleanRuns [] cleanRuns) s fun t =>
         (Config.sha384 (candidateNode (landed.map Config.sha384)) = p →
           Config.sha384 (candidateNode (group.map copyLeaf)) = p → agrees t) ∧
         (Config.sha384 (candidateNode (landed.map Config.sha384)) ≠ p → Config.sha384 nd = p →
           (∀ b ∈ group, copyLeaf b = nodeEntry nd (b % 32)) → ∀ b ∈ group, b ∉ v.held →
           Config.sha384 (((blocks.getD (b % 32) []).take (blockLen m b))) ≠ nodeEntry nd (b % 32) →
           found t twin (blockAddr m v.partition b))) ∧
     (∀ twin other data, sweepItem s x twin 0 0 = true → Completes (.sweepAreaCompare x twin 0 0 0 data other []) s fun t =>
       (data = m → agrees t) ∧ (data ≠ m → found t twin (0x10000 * b01 v.partition))) ∧
     (∀ twin level idx other data p nd, sweepItem s x twin 1 (s.tile x).sweep.pos = true →
       (treePlaces (blockCount m))[(s.tile x).sweep.pos]? = some (level, idx) → parentEntry m v.nodes level idx = some p →
       heldNode (s.tile x) level idx = some nd →
       Completes (.sweepAreaCompare x twin 1 level idx data other []) s fun t =>
         Config.sha384 nd = p → (data = nd → agrees t) ∧ (data ≠ nd → found t twin (nodeAddr m v.partition level idx))) ∧
     (∀ twin u other data, sweepItem s x twin 3 u = true → unitPending (s.tile x) u = false →
       Completes (.sweepAreaCompare x twin 3 0 u data other []) s fun t =>
         (data = Memory.read 0xFF (s.tile x).mem.opens (4096 * u) 4096 → agrees t) ∧
         (data ≠ Memory.read 0xFF (s.tile x).mem.opens (4096 * u) 4096 →
           found t twin (flashOpen (mfLayout m) + 4096 * u)))) ∧
  (∀ (s : State) (x : TileId), fusedOff s x = false → s.gmode.mode ≠ .gate → s.memctl.channelUp = BitVec.allOnes 8 →
     let others := fun t : State => ∀ u, u ≠ x → t.tile u = s.tile u
     let sound := fun nodes : List Nat => ∀ g ∈ nodes, ∀ p, parentEntry (s.tile x).verify.manifest (s.tile x).verify.nodes 1 g = some p →
       ∃ nd, heldNode (s.tile x) 1 g = some nd ∧ Config.sha384 nd = p
     (∀ r readBack, let n := eraseUnitOf (flashDisc (s.tile x) r.twin)
       (s.tile x).sweep.repairs.find? (fun q => decide (q.twin = r.twin)) = some r → unitVerified (s.tile x) r.addr n = true →
       repairAllowed s x = true → (portFree s x r.twin .repair = true ∨ repairFirst (s.tile x) r = true) →
       let rest := (s.tile x).sweep.repairs.filter fun q => decide (q ≠ r)
       let bytes := unitBytes (s.tile x) r.addr n
       (sound (unitNodes (s.tile x) r.addr n) →
         (readBack = some bytes → Completes (.repairDone x r.twin [] readBack) s fun t =>
           (t.tile x).sweep = { (s.tile x).sweep with repairs := rest } ∧ (t.tile x).mem = (s.tile x).mem ∧
           (t.tile x).ctl = (s.tile x).ctl ∧ (t.tile x).eave.writeErrors = (s.tile x).eave.writeErrors ∧
           t.resp = { data := bytes, code := r.addr } ∧ others t ∧ Woke [.tiles, .resp] s t) ∧
         (readBack ≠ some bytes → r.tries < 2 → Completes (.repairDone x r.twin [] readBack) s fun t =>
           (t.tile x).sweep = { (s.tile x).sweep with repairs := { r with tries := r.tries + 1, begun := true } :: rest } ∧
           (t.tile x).eave.writeErrors = (if readBack = none then (s.tile x).eave.writeErrors
             else satInc 0xFF (s.tile x).eave.writeErrors) ∧
           (t.tile x).mem = (s.tile x).mem ∧ (t.tile x).ctl = (s.tile x).ctl ∧ others t ∧ Woke [.tiles, .resp] s t) ∧
         (readBack ≠ some bytes → 2 ≤ r.tries →
           (if r.twin then (s.tile x).sweep.twinDown else (s.tile x).sweep.mainDown) = false →
           Completes (.repairDone x r.twin [] readBack) s fun t =>
             (if r.twin then (t.tile x).sweep.twinDown else (t.tile x).sweep.mainDown) = true ∧
             (t.tile x).ctl = (s.tile x).ctl ∧ Logged s t (x.val * 14 + 12) ∧ others t ∧ Woke [.tiles, .resp, .events] s t)) ∧
       (∀ g p, unitNodes (s.tile x) r.addr n = [g] →
         parentEntry (s.tile x).verify.manifest (s.tile x).verify.nodes 1 g = some p → (s.tile x).ctl.state = .run →
         (∀ nd, heldNode (s.tile x) 1 g = some nd → Config.sha384 nd ≠ p) →
         Completes (.repairDone x r.twin [] readBack) s fun t => FetchFailed x s t)) ∧
     (∀ twin other readBack, (s.tile x).sweep.phase = 5 → (s.tile x).sweep.target = twin → sweepAllowed s x = true →
       portFree s x twin .repair = true → (s.tile x).sweep.suspect = [] →
       sound (List.range (nodesAt (blockCount (s.tile x).verify.manifest) 1)) →
       (∀ bytes, resyncBytes (s.tile x) other = some bytes →
         (readBack = some bytes → Completes (.resyncDone x twin other [] readBack) s fun t =>
           (t.tile x).sweep.mainDown = ((s.tile x).sweep.mainDown && twin) ∧
           (t.tile x).sweep.twinDown = ((s.tile x).sweep.twinDown && !twin) ∧ (t.tile x).sweep.phase = 0 ∧
           (t.tile x).sweep.passes = ((s.tile x).sweep.passes + 1) % 65536 ∧ (t.tile x).ctl = (s.tile x).ctl ∧
           t.resp = { data := bytes.flatten, code := 0 } ∧ others t ∧ Woke [.tiles, .resp, .events] s t) ∧
         (readBack ≠ some bytes → Completes (.resyncDone x twin other [] readBack) s fun t =>
           (t.tile x).sweep = { (s.tile x).sweep with phase := 0 } ∧ (t.tile x).ctl = (s.tile x).ctl ∧
           Logged s t (x.val * 14 + 12) ∧ others t ∧ Woke [.tiles, .resp, .events] s t)) ∧
       (resyncBytes (s.tile x) other = none → Completes (.resyncDone x twin other [] readBack) s fun t =>
         (t.tile x).sweep = { (s.tile x).sweep with phase := 0 } ∧ (t.tile x).ctl = (s.tile x).ctl ∧
         Logged s t (x.val * 14 + 12) ∧ others t ∧ Woke [.tiles, .events] s t)) ∧
     (∀ b nd p data, b ∈ (s.tile x).sweep.suspect → fetchAllowed s x = true → anyWaits s = false →
       heldNode (s.tile x) 1 (b / 32) = some nd →
       parentEntry (s.tile x).verify.manifest (s.tile x).verify.nodes 1 (b / 32) = some p →
       (s.tile x).ctl.state = .run → mainUp (s.tile x) = true → Canonical s →
       Completes (.refillDone x b (some data) none []) s fun t => Config.sha384 nd = p →
         let block := data.take (blockLen (s.tile x).verify.manifest b)
         (Config.sha384 block = nodeEntry nd (b % 32) →
           Memory.read 0xFF (t.tile x).mem.copy (4096 * b) 4096 = padTo 4096 0xFF (block.take 4096) ∧
           b ∉ (t.tile x).sweep.suspect ∧ (t.tile x).ctl = (s.tile x).ctl ∧ OnlyTile x s t ∧ Woke [.tiles] s t) ∧
         (Config.sha384 block ≠ nodeEntry nd (b % 32) → FetchFailed x s t)))

/-! ### Memory (R445 to R453) -/

/-- The patrol scrub (R440, R446 to R451): a corrected line is counted, and with a hard error moved to a spare; a line taken
for another codeword counts as corrected and stands as the decoder delivered it; a lost line of a served copy makes its block
suspect, in FETCH it is read again; a poisoned staging line is kept as such, a ridge register lost in both copies reads all
ones and is saturated, the SRAM being scrubbed before training and in self-refresh too; the end of a pass is counted.
Channels, initialisation and self-refresh (R445, R452, R453): a retrain brings a channel back or counts, the third failure in
succession takes it down, a retry brings it back; self-refresh is entered in DOZE with no tile released. The model's choices
it rests on are in log entry 44. It says of each of these that it completes, with its own effect: .patrolScrub,
.channelRetrainDone, .channelRetry, .underlayInitDone, .selfRefreshEntry. -/
def Obligations.UnderlayScrubAndChannels : Prop :=
  (∀ s : State, s.boot.vddAon = true → s.boot.phase ≠ .off →
     let scrubs := s.boot.underlayDone = true ∧ s.memctl.selfRefresh = false
     (scrubs → Completes (.patrolScrub true none) s fun t => t = { s with memctl := { s.memctl with
       scrubbing := false, passes := s.memctl.passes + 1 } }) ∧
     (∀ f : LineFault, f.mis = false → (scrubs ∨ f.sram = true) → (f.symbols = 1 ∨ f.symbols = 2) → Completes (.patrolScrub false (some f)) s fun t =>
       t.memctl.corrected = satInc 0xFFFF s.memctl.corrected ∧ t.memctl.uncorrU = s.memctl.uncorrU ∧
       t.memctl.uncorrS = s.memctl.uncorrS ∧ t.memctl.poisoned = s.memctl.poisoned ∧
       t.memctl.spares = (if f.sram = false ∧ f.hard = true ∧ s.memctl.spares.length < 4096 then f.line :: s.memctl.spares
         else s.memctl.spares) ∧ Only [.memctl, .events] s t) ∧
     (∀ (f : LineFault) (x : TileId), scrubs → f.mis = true → f.contents = 0 → f.tile = x.val → fusedOff s x = false → Canonical s →
       f.unit < 64 → Completes (.patrolScrub false (some f)) s fun t =>
         t.tile x = { s.tile x with mem := { (s.tile x).mem with
           copy := Memory.write 0xFF (s.tile x).mem.copy (64 * (64 * f.block + f.unit)) (f.data.take 64) } } ∧
         t.memctl.corrected = satInc 0xFFFF s.memctl.corrected ∧ t.memctl.uncorrU = s.memctl.uncorrU ∧ OnlyTile x s t ∧
         Only [.memctl, .tiles, .events] s t) ∧
     (∀ (f : LineFault) (x : TileId), scrubs → f.mis = false → f.symbols = 0 → f.sram = false → f.contents = 3 → f.tile = x.val →
       fusedOff s x = false → Completes (.patrolScrub false (some f)) s fun t =>
         t.memctl.poisoned = (x.val, f.unit) :: s.memctl.poisoned ∧
         t.memctl.uncorrU = satInc 0xFF s.memctl.uncorrU ∧ Logged s t 481 ∧ Only [.memctl, .events] s t) ∧
     (∀ (f : LineFault) (x : TileId), scrubs → f.mis = false → f.symbols = 0 → f.sram = false → f.contents = 0 → f.tile = x.val →
       fusedOff s x = false → f.block < blockCount (s.tile x).verify.manifest → (s.tile x).ctl.state ≠ .fetch →
       Completes (.patrolScrub false (some f)) s fun t =>
         t.tile x = { s.tile x with sweep := { (s.tile x).sweep with suspect := insertNat (s.tile x).sweep.suspect f.block } } ∧
         Logged s t 481 ∧ OnlyTile x s t ∧ Only [.memctl, .tiles, .events] s t) ∧
     (∀ (f : LineFault) (x : TileId), scrubs → f.mis = false → f.symbols = 0 → f.sram = false → f.contents = 0 → f.tile = x.val →
       fusedOff s x = false → f.block < blockCount (s.tile x).verify.manifest → (s.tile x).ctl.state = .fetch →
       (s.tile x).verify.phase = 8 → f.block ∈ (s.tile x).verify.verified →
       Completes (.patrolScrub false (some f)) s fun t =>
         f.block ∉ (t.tile x).verify.verified ∧ (t.tile x).verify.phase = 6 ∧ (t.tile x).ctl = (s.tile x).ctl ∧ Logged s t 481 ∧
         OnlyTile x s t ∧ Only [.memctl, .tiles, .events] s t) ∧
     (∀ (f : LineFault) (r : Fin 320), f.mis = false → f.symbols = 0 → f.sram = true → f.contents = 15 → f.tile = 32 → f.hard = true →
       f.unit = r.val → Completes (.patrolScrub false (some f)) s fun t =>
         t.reg r = { s.reg r with value := BitVec.allOnes 384, saturated := true } ∧ (∀ q, q ≠ r → t.reg q = s.reg q) ∧
         t.memctl.uncorrS = satInc 0xFF s.memctl.uncorrS ∧ Logged s t 482 ∧ Only [.memctl, .ridge, .events] s t)) ∧
  (∀ s : State,
     (∀ ch : Fin 8, 16 ≤ s.memctl.badLines[ch].length → s.memctl.channelUp.getLsbD ch.val = true →
       Completes (.channelRetrainDone ch true) s (fun t =>
         t.memctl = { s.memctl with
           channelUp := putBit s.memctl.channelUp ch.val true, retrains := s.memctl.retrains.set ch.val 0 ch.isLt
           badLines := s.memctl.badLines.set ch.val [] ch.isLt } ∧ Logged s t 486 ∧ Only [.memctl, .events] s t) ∧
       (s.memctl.retrains[ch] < 2 → Completes (.channelRetrainDone ch false) s fun t => t = { s with memctl :=
         { s.memctl with retrains := s.memctl.retrains.set ch.val (s.memctl.retrains[ch] + 1) ch.isLt } }) ∧
       (2 ≤ s.memctl.retrains[ch] → Completes (.channelRetrainDone ch false) s fun t =>
         t.memctl.channelUp = putBit s.memctl.channelUp ch.val false ∧ Logged s t 486 ∧ Only [.memctl, .events] s t)) ∧
     (∀ ch : Fin 8, s.boot.underlayDone = true → s.memctl.channelUp.getLsbD ch.val = false →
       Completes (.channelRetry ch true) s (fun t => t.memctl.channelUp = putBit s.memctl.channelUp ch.val true ∧
         Logged s t 486 ∧ Only [.memctl, .events] s t) ∧
       Completes (.channelRetry ch false) s fun t => t = s) ∧
     (s.boot.underlayDone = true → s.memctl.initDone = false → Completes .underlayInitDone s fun t =>
       t.memctl = { s.memctl with initDone := true } ∧ Logged s t 487 ∧ Only [.memctl, .events] s t) ∧
     (s.gmode.mode = .doze → (∀ x ∈ s.tiles.toList, x.ctl.state.released = false) →
       (∀ k ∈ s.memctl.memTick, msTicks 1 ≤ since s k) → Completes .selfRefreshEntry s fun t =>
         t = { s with memctl := { s.memctl with selfRefresh := true, scrubbing := false } }) ∧
     (s.gmode.mode ≠ .doze ∨ (∃ k, s.memctl.memTick = some k ∧ since s k < msTicks 1) →
       Completes .selfRefreshEntry s fun t => t = s))

/-! ### Platform selects (R72, R162 to R173, R187 to R213, R363) -/

/-- Emulated commands (R192 to R195): each changes the emulated registers its row names and nothing else, and drives the bytes
of a register read; a configuration byte out of range is discarded with a denial. Selects that are not carried out (R3, R72,
R189, R190, R209, R363): denied, unanswered, broken off, overlapping, ignored for want of WEL or while WIP is set, or on the
port of a tile the variant does not have. Emulated registers and memory stay. The model's choices it rests on are in log
entries 18, 45, 48. It says of each of these that it completes, with its own effect: .writeEnable, .writeDisable, .clearFlag,
.writeStatus, .enter4b, .exit4b, .resetEnable, .reset, .suspend, .resume, .nop, .readId, .readStatus, .readFlag, .readConfig,
.writeConfig, .program, .selectUnanswered, .selectMalformed, .selectOverlap, .opcodeDeny, .erase. -/
def Obligations.SelectsOfEmulatedCommands : Prop :=
  (∀ (s : State) (x : TileId) (sel : Sel),
     let tx := s.tile x
     let f := acceptedRegs tx sel
     (Select s x sel 2 4 → Completes (.writeEnable x sel) s fun t => SelectDone s t x [] { f with wel := true }) ∧
     (Select s x sel 2 5 → Completes (.writeDisable x sel) s fun t => SelectDone s t x [] { f with wel := false }) ∧
     (Select s x sel 2 3 → Completes (.clearFlag x sel) s fun t =>
       SelectDone s t x [] { f with eraseErr := false, progErr := false, protErr := false }) ∧
     (∀ b rest, Select s x sel 2 6 → Completes (.writeStatus x sel (b :: rest)) s fun t =>
       SelectDone s t x [] { f with statusHi := (b >>> 2).setWidth 6 }) ∧
     (Select s x sel 2 9 → Completes (.enter4b x sel) s fun t => SelectDone s t x [] { f with addr4 := true }) ∧
     (Select s x sel 2 10 → Completes (.exit4b x sel) s fun t => SelectDone s t x [] { f with addr4 := false }) ∧
     (Select s x sel 2 11 → Completes (.resetEnable x sel) s fun t => SelectDone s t x [] { f with resetArmed := true }) ∧
     (Select s x sel 2 12 →
       (tx.filter.resetArmed = true → Completes (.reset x sel) s fun t => SelectDone s t x []
         { f with wel := false, protocol := 0, octalDummy := 0, addr4 := false, wrap := 0, spare := 0 }) ∧
       (tx.filter.resetArmed = false → Completes (.reset x sel) s fun t => SelectDone s t x [] f)) ∧
     (Select s x sel 2 13 → Completes (.suspend x sel) s fun t => SelectDone s t x [] (match pendingWrite tx.filter with
       | none => f
       | some w => { f with wip := false, eraseSus := f.eraseSus || w.erase, progSus := f.progSus || !w.erase })) ∧
     (Select s x sel 2 14 → Completes (.resume x sel) s fun t => SelectDone s t x []
       { f with eraseSus := false, progSus := false, wip := (pendingWrite tx.filter).isSome }) ∧
     (Select s x sel 2 15 → Completes (.nop x sel) s fun t => SelectDone s t x [] f) ∧
     (∀ n, Select s x sel 2 0 → Completes (.readId x sel n) s fun t =>
       SelectDone s t x ((List.range n).map (identByte tx)) f) ∧
     (∀ n, Select s x sel 2 1 → Completes (.readStatus x sel n) s fun t =>
       SelectDone s t x (List.replicate n (emuStatus tx.filter)) f) ∧
     (∀ n, Select s x sel 2 2 → Completes (.readFlag x sel n) s fun t =>
       SelectDone s t x (List.replicate n (emuFlag tx.filter)) f) ∧
     (∀ n, Select s x sel 2 7 → Completes (.readConfig x sel n) s fun t =>
       SelectDone s t x ((List.range n).map fun i => configByte tx.filter (sel.addr + i)) f) ∧
     ∀ b, Select s x sel 2 8 →
       (configOk sel.addr b = true → Completes (.writeConfig x sel [b]) s fun t =>
         SelectDone s t x [] (setConfig f sel.addr b) ∧ configByte (t.tile x).filter sel.addr = b) ∧
       (configOk sel.addr b = false → Completes (.writeConfig x sel [b]) s fun t => t.resp = { data := [], code := 0 } ∧
         (∀ i, configByte (t.tile x).filter i = configByte tx.filter i) ∧ (t.tile x).filter.wel = f.wel ∧
         (t.tile x).filter.denyCount = satInc 0xFF tx.filter.denyCount ∧ (∀ u, u ≠ x → t.tile u = s.tile u) ∧
         Only [.tiles, .events, .resp] s t)) ∧
  (∀ (s : State) (x : TileId) (sel : Sel),
     let tx := s.tile x
     let e := selEntry tx sel
     let quiet := { tx.filter with resetArmed := false }
     (fusedOff s x = true → ∀ data, Completes (.program x sel data) s (fun t => t = s.respond [] 1) ∧
       Completes (.selectUnanswered x sel) s fun t => t = s.respond [] 1) ∧
     (fusedOff s x = false → tx.ctl.state.released = false → Completes (.selectUnanswered x sel) s fun t =>
       t.resp = { data := [], code := 1 } ∧ (t.tile x).filter.denyCount = satInc 0xFF tx.filter.denyCount ∧
       (tx.power.stateDenied = true → (t.tile x).power = tx.power ∧ Only [.tiles, .resp] s t) ∧
       (tx.power.stateDenied = false → (∀ h ∈ tx.filter.holdoffs, h.key ≠ 8) →
         (t.tile x).power = { tx.power with stateDenied := true } ∧ Logged s t (x.val * 14 + 4)) ∧
       (t.tile x).mem = tx.mem ∧ (t.tile x).ctl = tx.ctl ∧ (t.tile x).filter.wel = tx.filter.wel ∧
       (∀ u, u ≠ x → t.tile u = s.tile u) ∧ Only [.tiles, .events, .resp] s t) ∧
     (fusedOff s x = false → tx.ctl.state.released = true →
       (∀ reason : Fin 5, Completes (.selectMalformed x sel reason) s fun t =>
         t.resp = { data := [], code := 1 } ∧ (t.tile x).filter.frameBad = satInc 0xFF tx.filter.frameBad ∧
         (t.tile x).filter.wel = tx.filter.wel ∧ (t.tile x).mem = tx.mem ∧ (t.tile x).ctl = tx.ctl ∧
         ((∀ h ∈ tx.filter.holdoffs, h.key ≠ 0x100 + reason.val) → Logged s t (x.val * 14 + 7)) ∧
         (∀ u, u ≠ x → t.tile u = s.tile u) ∧ Only [.tiles, .events, .resp] s t) ∧
       (∀ edges, Completes (.selectOverlap x edges) s fun t =>
         t.resp = { data := [], code := 1 } ∧ (t.tile x).filter.wel = tx.filter.wel ∧ (t.tile x).mem = tx.mem ∧
         (t.tile x).ctl = tx.ctl ∧ ((∀ h ∈ tx.filter.holdoffs, h.key ≠ 0x320) → Logged s t (x.val * 14 + 7)) ∧
         (∀ u, u ≠ x → t.tile u = s.tile u) ∧ Only [.tiles, .events, .resp] s t) ∧
       ((octal tx = true → sel.op2 = ~~~sel.op) →
         (optProto e tx.filter.protocol.toNat = false ∨ optAction e = 0 ∨ 4 < optAction e →
           Completes (.opcodeDeny x sel) s fun t => t.resp = { data := [], code := 1 } ∧
             (t.tile x).filter.wel = (tx.filter.wel && !optWel e) ∧ (t.tile x).filter.resetArmed = false ∧
             (t.tile x).filter.denyCount = satInc 0xFF tx.filter.denyCount ∧ (t.tile x).mem = tx.mem ∧
             (t.tile x).ctl = tx.ctl ∧ (∀ u, u ≠ x → t.tile u = s.tile u) ∧ Only [.tiles, .events, .resp] s t) ∧
         (optProto e tx.filter.protocol.toNat = true → 0 < optAction e → optAction e ≤ 4 →
           ∀ c ∈ [Instr.erase x sel, Instr.program x sel [0]],
             ((optWel e = true ∨ optWrites e = true) → tx.filter.wel = false → Completes c s fun t => t.tile x =
               { tx with filter := { quiet with noWel := satInc 0xFF tx.filter.noWel } } ∧
               t.resp = { data := [], code := 1 } ∧ (∀ u, u ≠ x → t.tile u = s.tile u) ∧ Only [.tiles, .resp] s t) ∧
             (((optWel e = true ∨ optWrites e = true) → tx.filter.wel = true) → selBusy tx e = true → Completes c s fun t => t.tile x =
               { tx with filter := { quiet with busyIgn := satInc 0xFF tx.filter.busyIgn } } ∧
               t.resp = { data := [], code := 1 } ∧ (∀ u, u ≠ x → t.tile u = s.tile u) ∧ Only [.tiles, .resp] s t)))))

/-- Array reads (R99, R100, R151, R162, R167, R172, R189): a read whose words are all ready drives the bytes of the soffit
view in order; one of an unverified SEALED block in EARLY drives the hold pattern, is reported and, by the tile's policy,
takes the tile back to FETCH with early release off; a late word is counted and reported and, by the policy, resets the tile.
The emulated SFDP is read at the address of the select. An entry with wel clears WEL. The model's choices it rests on are in
log entries 18, 49, 50. It says of each of these that it completes, with its own effect: .readArray, .readSfdp. -/
def Obligations.ArrayReadsServeTheView : Prop :=
  ∀ (s : State) (x : TileId) (sel : Sel) (n : Nat),
    let tx := s.tile x
    let e := selEntry tx sel
    let addrs := readAddrs tx e (selAddr tx e sel) n
    let sound := ∀ p ∈ addrs, ∀ b, copyAt tx p = some b → b ∉ tx.sweep.suspect
    (Select s x sel 1 0 → MemoryServes s → sound → (∀ p ∈ addrs, missAt tx p = none) →
      Completes (.readArray x sel n none []) s (fun t =>
        t.resp = { data := addrs.map (serveByte tx), code := 0 } ∧
        t.tile x = { tx with serve := (t.tile x).serve, filter := acceptedRegs tx sel } ∧
        (t.tile x).serve.underruns = tx.serve.underruns ∧ (t.tile x).serve.missed = tx.serve.missed ∧
        (t.tile x).serve.outside = (if ∃ p ∈ addrs, mfViewSize tx.force.manifest ≤ p
          then satInc 0xFFFF tx.serve.outside else tx.serve.outside) ∧
        (∀ u, u ≠ x → t.tile u = s.tile u) ∧ Only [.tiles, .resp] s t) ∧
      ∀ l : Late, (∃ a ∈ addrs.head?, l.addr = a) → 0 < l.words →
        (∃ p ∈ addrs.take 4, underlayByte tx p = true ∧ buffered tx p = false) →
        (tx.active.underrunLog = true → Completes (.readArray x sel n (some l) []) s fun t =>
          t.resp.code = 0 ∧ t.resp.data.length = n ∧ t.resp.data.head? = some 0xFF ∧
          (t.tile x).serve.underruns = satInc 0xFFFF tx.serve.underruns ∧ (t.tile x).ctl = tx.ctl ∧
          (t.tile x).mem = tx.mem ∧ Logged s t (x.val * 14 + 6) ∧ (∀ u, u ≠ x → t.tile u = s.tile u) ∧
          Only [.tiles, .events, .resp] s t) ∧
        (tx.active.underrunLog = false → tx.ctl.state = .run → tx.ctl.resetsCapped = false → tx.ctl.switchPending = false →
          s.gmode.mode ≠ .lockdown → Completes (.readArray x sel n (some l) []) s fun t =>
          t.resp.code = 0 ∧ t.resp.data.length = n ∧ (t.tile x).ctl.state = .held ∧ (t.tile x).ctl.cause = .underrun ∧
          (t.tile x).ctl.rstHeld = true ∧ (t.tile x).mem = tx.mem ∧ Logged s t (x.val * 14 + 6) ∧
          (∀ u, u ≠ x → t.tile u = s.tile u) ∧ Only [.tiles, .keys, .eng, .events, .resp] s t)) ∧
    (Select s x sel 1 0 → MemoryServes s → sound → tx.ctl.state = .early → ∀ region b,
        addrs.findSome? (missAt tx) = some (0, region, b) → b ∉ tx.serve.missed →
      (tx.active.missLog = true → Completes (.readArray x sel n none []) s fun t =>
        t.resp = { data := addrs.map (serveByte tx), code := 0 } ∧ (t.tile x).ctl = tx.ctl ∧
        (t.tile x).serve.missed = b :: tx.serve.missed ∧ (t.tile x).mem = tx.mem ∧
        Logged s t (x.val * 14 + 3) ∧ (∀ u, u ≠ x → t.tile u = s.tile u) ∧ Only [.tiles, .events, .resp] s t) ∧
      (tx.active.missLog = false → s.gmode.mode ≠ .lockdown → tx.ctl.resetsCapped = false →
        Completes (.readArray x sel n none []) s fun t =>
          t.resp = { data := addrs.map (serveByte tx), code := 0 } ∧ (t.tile x).ctl.state = .fetch ∧
          (t.tile x).ctl.cause = .earlyMiss ∧ (t.tile x).ctl.noEarly = true ∧ (t.tile x).ctl.rstHeld = true ∧
          (t.tile x).mem.copy = tx.mem.copy ∧ (t.tile x).verify.verified = tx.verify.verified ∧
          Logged s t (x.val * 14 + 3) ∧ (∀ u, u ≠ x → t.tile u = s.tile u) ∧
          Only [.tiles, .ridge, .keys, .eng, .events, .resp] s t)) ∧
    (Select s x sel 1 1 → Completes (.readSfdp x sel n) s fun t =>
      SelectDone s t x ((List.range n).map fun i => tx.serve.sfdp.getD (selAddr tx e sel + i) 0xFF) (acceptedRegs tx sel))

/-- Platform writes (R198 to R202, R207, R208): a program within a permitted OPEN region ANDs its last 256 bytes into the OPEN
copy within their page, an erase returns its bytes to 0xFF; WEL is cleared and the write is queued for flash, or its units
marked. In a STAGING region both act on the staging area the platform owns, which its first write claims (R226). One in
LOCKDOWN, outside every region, in a SEALED region, refused by its region's rule or with no flash up is denied and writes
nothing. The model's choices it rests on are in log entries 46, 47, 61. It says of each of these that it completes, with its
own effect: .program, .erase. -/
def Obligations.PlatformWritesFollowTheirRegion : Prop :=
  ∀ (s : State) (x : TileId) (sel : Sel), Canonical s →
    let tx := s.tile x
    let m := tx.force.manifest
    let a := selAddr tx (selEntry tx sel) sel
    (∀ func data, Select s x sel 3 func → data ≠ [] → (tx.filter.protocol = 3 → data.length % 2 = 0) →
      (s.gmode.mode = .lockdown → Completes (.program x sel data) s fun t => DeniedWrite s t x 7) ∧
      (s.gmode.mode ≠ .lockdown →
        (regionAt m a = none → Completes (.program x sel data) s fun t => DeniedWrite s t x 2) ∧
        ∀ i, regionAt m a = some i →
          let r := mfRegion m i
          (r.sealed = true ∨ r.watched = true → Completes (.program x sel data) s fun t => DeniedWrite s t x 2) ∧
          (r.isOpen = true → ruleReason s x i r false (a - r.base) 1 = none → mainUp tx = false → twinUp tx = false →
            r.rule ≠ 4 → Completes (.program x sel data) s fun t => DeniedWrite s t x 6) ∧
          (∀ c, r.isOpen = true → ruleReason s x i r false (a - r.base) 1 = some c →
            Completes (.program x sel data) s fun t => DeniedWrite s t x c) ∧
          (r.isOpen = true → ruleReason s x i r false (a - r.base) 1 = none → (mainUp tx = true ∨ twinUp tx = true) →
            r.base ≤ a / 256 * 256 → Completes (.program x sel data) s fun t =>
              let lands := fun k => r.src + (a / 256 * 256 + (a + k) % 256 - r.base)
              t.resp = { data := [], code := 0 } ∧ (t.tile x).filter.wel = false ∧
              (∀ k, data.length - 256 ≤ k → k < data.length → Sparse.get 0xFF (t.tile x).mem.opens (lands k) =
                Sparse.get 0xFF tx.mem.opens (lands k) &&& data.getD k 0) ∧
              (∀ p, (∀ k, data.length - 256 ≤ k → k < data.length → lands k ≠ p) →
                Sparse.get 0xFF (t.tile x).mem.opens p = Sparse.get 0xFF tx.mem.opens p) ∧
              (t.tile x).mem = { tx.mem with opens := (t.tile x).mem.opens } ∧
              (r.rule ≠ 4 → (t.tile x).filter.wip = true ∧ (t.tile x).filter.queue = tx.filter.queue ++
                [newWrite (t.tile x).mem.opens 0 ((programRuns a data).map fun c => (r.src + (c.1 - r.base), c.2.length))]) ∧
              (r.rule = 4 → (t.tile x).filter.queue = tx.filter.queue ∧ (t.tile x).filter.wip = tx.filter.wip) ∧
              (t.tile x).ctl = tx.ctl ∧ (∀ u, u ≠ x → t.tile u = s.tile u) ∧ Only [.tiles, .resp] s t) ∧
          (r.staging = true → tx.owned = true → tx.update.owner = 1 → tx.update.phase = 1 → tx.active.stageMirror = false →
            data.length ≤ 256 - a % 256 → (∀ g ∈ granulesOf (r.src + (a - r.base)) data.length, g ∈ tx.mem.granules) →
            Completes (.program x sel data) s fun t =>
              t.resp = { data := [], code := 0 } ∧ (t.tile x).filter.wel = false ∧
              (∀ p, Sparse.get 0xFF (t.tile x).mem.staging p = Sparse.get 0xFF tx.mem.staging p &&&
                (if r.src + (a - r.base) ≤ p then data.getD (p - (r.src + (a - r.base))) 0xFF else 0xFF)) ∧
              (t.tile x).mem = { tx.mem with staging := (t.tile x).mem.staging } ∧ (t.tile x).ctl = tx.ctl ∧
              (∀ u, u ≠ x → t.tile u = s.tile u) ∧ Only [.tiles, .memctl, .events, .freeCtr, .resp] s t) ∧
          (r.staging = true → tx.owned = false → data.length ≤ 256 - a % 256 →
            (∀ g ∈ granulesOf (r.src + (a - r.base)) data.length, g ∈ tx.mem.granules) →
            Completes (.program x sel data) s fun t =>
              t.resp = { data := [], code := 0 } ∧ (t.tile x).update.owner = 1 ∧ (t.tile x).ctl.stage = true ∧
              (t.tile x).ctl.state = tx.ctl.state ∧ (∀ u, u ≠ x → t.tile u = s.tile u) ∧
              Only [.tiles, .memctl, .events, .freeCtr, .resp] s t))) ∧
    (∀ func, Select s x sel 4 func →
      let size := match func with | 0 => 0x1000 | 1 => 0x8000 | _ => 0x10000
      let b := a / size * size
      (s.gmode.mode = .lockdown → Completes (.erase x sel) s fun t => DeniedWrite s t x 7) ∧
      (s.gmode.mode ≠ .lockdown →
        (coverRegions m b size = none → Completes (.erase x sel) s fun t => DeniedWrite s t x 2) ∧
        ∀ i, coverRegions m b size = some [(i, mfRegion m i, b, size)] →
          let r := mfRegion m i
          let off := r.src + (b - r.base)
          (r.sealed = true ∨ r.watched = true → Completes (.erase x sel) s fun t => DeniedWrite s t x 2) ∧
          (∀ c, r.isOpen = true → ruleReason s x i r true (b - r.base) (size / 4096) = some c →
            Completes (.erase x sel) s fun t => DeniedWrite s t x c) ∧
          (r.isOpen = true → ruleReason s x i r true (b - r.base) (size / 4096) = none →
            (alignDenied tx r b size = true → Completes (.erase x sel) s fun t => DeniedWrite s t x 5) ∧
            (alignDenied tx r b size = false → r.rule ≠ 4 → mainUp tx = false → twinUp tx = false →
              Completes (.erase x sel) s fun t => DeniedWrite s t x 6)) ∧
          (r.staging = true → tx.owned = true → tx.update.owner = 1 → tx.update.phase = 1 → tx.active.stageMirror = false →
            (∀ g ∈ granulesOf off size, g ∈ tx.mem.granules) → Completes (.erase x sel) s fun t =>
              t.resp = { data := [], code := 0 } ∧ (t.tile x).filter.wel = false ∧
              (∀ p, Sparse.get 0xFF (t.tile x).mem.staging p =
                if off ≤ p ∧ p < off + size then 0xFF else Sparse.get 0xFF tx.mem.staging p) ∧
              (t.tile x).mem = { tx.mem with staging := (t.tile x).mem.staging } ∧ (t.tile x).ctl = tx.ctl ∧
              (∀ u, u ≠ x → t.tile u = s.tile u) ∧ Only [.tiles, .memctl, .events, .freeCtr, .resp] s t) ∧
          (r.isOpen = true → ruleReason s x i r true (b - r.base) (size / 4096) = none → alignDenied tx r b size = false →
            (mainUp tx = true ∨ twinUp tx = true) → Completes (.erase x sel) s fun t =>
              t.resp = { data := [], code := 0 } ∧ (t.tile x).filter.wel = false ∧
              (∀ p, Sparse.get 0xFF (t.tile x).mem.opens p =
                if off ≤ p ∧ p < off + size then 0xFF else Sparse.get 0xFF tx.mem.opens p) ∧
              (t.tile x).mem = { tx.mem with opens := (t.tile x).mem.opens } ∧
              (r.rule ≠ 4 → (t.tile x).filter.wip = true ∧ (t.tile x).filter.queue = tx.filter.queue ++
                [newWrite (t.tile x).mem.opens size [(off, size)]]) ∧
              (r.rule = 4 → (t.tile x).filter.queue = tx.filter.queue ∧ (t.tile x).filter.wip = tx.filter.wip) ∧
              (t.tile x).ctl = tx.ctl ∧ (∀ u, u ≠ x → t.tile u = s.tile u) ∧ Only [.tiles, .resp] s t)))

/-- The write queue and STAGE commits (R201 to R207, R231): a write is driven to main and then to the twin, is tried again
where its read-back differs, and leaves the queue when both hold it; the third failure marks the flash down; mirrored staging
writes follow where no other is queued. stage_quiet commits the changed units of a region; each is done when both flashes hold
the bytes taken as its rewrite began. The mode fetches, or the flash has the write in progress (log entry 59). The model's
choices it rests on are in log entry 46. It says of each of these that it completes, with its own effect: .flashWriteDone,
.stageQuietExpiry, .stageUnitRewriteDone. -/
def Obligations.QueuedWritesReachTheFlashes : Prop :=
  ∀ (s : State) (x : TileId),
    let tx := s.tile x
    let down := fun (y : Tile) (twin : Bool) => if twin then y.sweep.twinDown else y.sweep.mainDown
    let others := fun t : State => (∀ u, u ≠ x → t.tile u = s.tile u) ∧ (t.tile x).mem = tx.mem ∧ (t.tile x).ctl = tx.ctl
    (∀ twin readBack, tx.filter.going.any (fun g => decide (g.2 = twin)) = true →
      Completes (.flashWriteDone x twin readBack) s fun t =>
        t.tile x = { tx with filter := { tx.filter with going := none } } ∧ OnlyTile x s t ∧ Only [.tiles] s t) ∧
    (∀ w rest twin readBack, tx.filter.queue = w :: rest → tx.filter.going.any (fun g => decide (g.2 = twin)) = false →
      notTurn tx twin w.mainDone = false → waitsForRepair s x twin = false → ruledRuns s x twin = true →
      let base := flashOpen (mfLayout tx.force.manifest)
      (readBack = some w.bytes →
        (twin = false → twinUp tx = true → Completes (.flashWriteDone x twin readBack) s fun t =>
          (t.tile x).filter.queue = { w with mainDone := true, tries := 0 } :: rest ∧ (t.tile x).filter.wroteMain = true ∧
          t.resp = { data := w.drives (flashDisc tx false) base, code := base } ∧ others t ∧ Only [.tiles, .resp] s t) ∧
        (twin = true ∨ twinUp tx = false → Completes (.flashWriteDone x twin readBack) s fun t =>
          (t.tile x).filter.queue = rest ∧ t.resp = { data := w.drives (flashDisc tx twin) base, code := base } ∧
          (rest = [] → tx.filter.committing = [] → (∀ h ∈ tx.filter.holdoffs, h.key ≠ 0x80) →
            Logged s t (x.val * 14 + 5) ∧ (t.tile x).filter.writesDone = 0 ∧ (t.tile x).filter.wip = false) ∧
          others t ∧ Only [.tiles, .events, .resp] s t)) ∧
      (readBack ≠ some w.bytes →
        (w.tries < 2 → Completes (.flashWriteDone x twin readBack) s fun t =>
          (t.tile x).filter.queue = { w with tries := w.tries + 1 } :: rest ∧
          (t.tile x).eave.writeErrors =
            (if readBack = none then tx.eave.writeErrors else satInc 0xFF tx.eave.writeErrors) ∧
          others t ∧ Only [.tiles, .resp] s t) ∧
        (2 ≤ w.tries → Completes (.flashWriteDone x twin readBack) s fun t =>
          down (t.tile x) twin = true ∧ (t.tile x).filter.eraseErr = (tx.filter.eraseErr || w.erase) ∧
          (t.tile x).filter.progErr = (tx.filter.progErr || !w.erase) ∧
          (twin = false → twinUp tx = true → (t.tile x).filter.queue = { w with tries := 0 } :: rest) ∧
          Logged s t (x.val * 14 + 12) ∧ others t ∧ Only [.tiles, .events, .resp] s t))) ∧
    (∀ w rest readBack, tx.filter.queue = [] → tx.filter.going = none → tx.update.mirror = w :: rest →
      mainUp tx = true → twinUp tx = true → writesRun s x = true →
      (w.mainDone = false → portFree s x false .update = true → readBack = some w.bytes →
        Completes (.flashWriteDone x false readBack) s fun t =>
          t.tile x = { tx.clearFailed false with update := { tx.update with mirror := { w with mainDone := true, tries := 0 } :: rest } } ∧
          others t ∧ Only [.tiles, .resp] s t) ∧
      (w.mainDone = true → portFree s x true .update = true → readBack = some w.bytes →
        Completes (.flashWriteDone x true readBack) s fun t =>
          t.tile x = { tx.clearFailed true with update := { tx.update with mirror := rest } } ∧ others t ∧ Only [.tiles, .resp] s t)) ∧
    (∀ (region : Fin 32) units, fetchAllowed s x = true → tx.active.stageQuiet ≠ 0 → region.val < mfRegionCount tx.force.manifest →
      (mfRegion tx.force.manifest region.val).isOpen = true → (mfRegion tx.force.manifest region.val).rule = 4 →
      tx.filter.changed.filter (regionUnits (mfRegion tx.force.manifest region.val)) = units → units ≠ [] →
      (mainUp tx = true ∨ twinUp tx = true → Completes (.stageQuietExpiry x region) s fun t =>
        t.tile x = { tx with filter := { tx.filter with
          changed := tx.filter.changed.filter fun u => !units.contains u
          committing := (t.tile x).filter.committing } } ∧
        (t.tile x).filter.committing.map (·.unit) = tx.filter.committing.map (·.unit) ++ units ∧ OnlyTile x s t ∧
        Only [.tiles] s t) ∧
      (mainUp tx = false → twinUp tx = false → Completes (.stageQuietExpiry x region) s fun t =>
        (t.tile x).filter.changed = tx.filter.changed ∧ (t.tile x).filter.progErr = true ∧
        (t.tile x).filter.denyCount = satInc 0xFF tx.filter.denyCount ∧ OnlyTile x s t ∧ Only [.tiles, .events] s t)) ∧
    ∀ c rest twin readBack, tx.filter.committing = c :: rest → notTurn tx twin c.mainDone = false →
      ruledRuns s x twin = true →
      let resp : Response := { data := c.bytes, code := (commitUnitAt tx twin c.unit).1 }
      (readBack = some c.bytes →
        (twin = false → twinUp tx = true → Completes (.stageUnitRewriteDone x twin readBack) s fun t =>
          let at_ := commitUnitAt tx true c.unit
          t.tile x = { tx.clearFailed false with filter := { tx.filter with
            committing := { c with mainDone := true, tries := 0, bytes := unitBytes tx at_.1 at_.2 } :: rest
            wroteMain := true } } ∧ t.resp = resp ∧ others t ∧ Only [.tiles, .resp] s t) ∧
        (twin = true ∨ twinUp tx = false → Completes (.stageUnitRewriteDone x twin readBack) s fun t =>
          (t.tile x).filter.committing.map (·.unit) = rest.map (·.unit) ∧ t.resp = resp ∧
          (rest ≠ [] → (t.tile x).filter.commitsDone = tx.filter.commitsDone + b01 c.last) ∧
          (rest = [] → c.last = true → tx.filter.queue = [] → (∀ h ∈ tx.filter.holdoffs, h.key ≠ 0x80) →
            Logged s t (x.val * 14 + 5)) ∧ others t ∧ Only [.tiles, .events, .resp] s t)) ∧
      (readBack ≠ some c.bytes →
        (c.tries < 2 → Completes (.stageUnitRewriteDone x twin readBack) s fun t =>
          ((t.tile x).filter.committing.head?.map fun k => (k.unit, k.mainDone, k.tries)) =
            some (c.unit, c.mainDone, c.tries + 1) ∧
          (t.tile x).filter.committing.tail = rest ∧ others t ∧ Only [.tiles, .resp] s t) ∧
        (2 ≤ c.tries → Completes (.stageUnitRewriteDone x twin readBack) s fun t => down (t.tile x) twin = true ∧
          (t.tile x).filter.progErr = true ∧ Logged s t (x.val * 14 + 12) ∧ others t ∧
          Only [.tiles, .events, .resp] s t))

/-! ### The sideband (R366 to R390) -/

/-- Frames and registers (R371 to R381): a bad frame is discarded whole; NOP does nothing, a command of no table gives
BAD_CMD; REPLAY drives the reply again; READ returns registers, WRITE stores words or none with its result. Nothing else
changes. Messages to a tile (R80, R207, R227, R230, R234, R249, R383 to R386): what each does where its state and argument are
right, and the result code of one whose state is wrong, which changes nothing but the last message. The model's choices it
rests on are in log entries 40, 51. It says of each of these that it completes, with its own effect: .sidebandBadFrame,
.sidebandNop, .replay, .sidebandRead, .sidebandWrite, .bootOk, .resetReq, .updateCommit, .updateAbandon, .openCommit,
.measureExtendSb, .spdmSend, .spdmSbResponse. -/
def Obligations.SidebandFrames : Prop :=
  (∀ (s : State) (x : TileId) (f : Frame), Canonical s →
     let b := (s.tile x).side
     let h := sbHeader f
     let data := (f.words.drop 1).dropLast
     let n := sbLen h + 1
     let kept := fun t : State => (∃ side, t.tile x = { s.tile x with side := side }) ∧ Only [.tiles, .resp] s t
     (∀ r, sbAnswers s x f = true → f.late = [] → frameReason f = some r →
       Completes (.sidebandBadFrame x f) s fun t =>
         (t.tile x).side = { b with
           bad := satInc 0xFF b.bad, statBad := satInc 0xFF b.statBad, reply := (t.tile x).side.reply } ∧
         (t.tile x).side.reply.words = [] ∧ bitOf (t.tile x).side.reply.status 15 = true ∧
         (t.tile x).mem = (s.tile x).mem ∧ (t.tile x).ctl = (s.tile x).ctl ∧
         ((∀ q ∈ (s.tile x).filter.holdoffs, q.key ≠ 0x200 + r) → Logged s t (x.val * 14 + 7)) ∧
         (∀ u, u ≠ x → t.tile u = s.tile u) ∧ Only [.tiles, .events, .resp] s t) ∧
     (∀ cmd, GoodFrame s x f cmd → cmd = 0 ∨ sbKnown cmd = false →
       Completes (.sidebandNop x f) s fun t => FrameDone s t x f (if cmd = 0 then 0 else 2) [] false ∧
         (t.tile x).side.scratch = b.scratch ∧ (t.tile x).side.buffer = b.buffer ∧ (t.tile x).side.mode = b.mode ∧ kept t) ∧
     (GoodFrame s x f 0x01 → Completes (.replay x f) s fun t =>
       (t.tile x).side.reply = { b.reply with status := putBit b.reply.status 14 false } ∧
       (t.tile x).side.scratch = b.scratch ∧ (t.tile x).side.buffer = b.buffer ∧ kept t) ∧
     (GoodFrame s x f 0x10 → Completes (.sidebandRead x f) s fun t =>
       FrameDone s t x f 0 ((List.range n).map fun i => if sbAddr h + i ≤ 0x3FF then sbWord t x (sbAddr h + i) else 0)
         (decide (0x3FF < sbAddr h + sbLen h)) ∧
       (t.tile x).side.scratch = b.scratch ∧ (t.tile x).side.buffer = b.buffer ∧ (t.tile x).side.mode = b.mode ∧ kept t) ∧
     (GoodFrame s x f 0x11 → data.length = n →
       (0x020 ≤ sbAddr h → sbAddr h + n ≤ 0x030 → Completes (.sidebandWrite x f) s fun t =>
         FrameDone s t x f 0 [] false ∧ (t.tile x).side.buffer = b.buffer ∧
         (∀ a, 0x020 ≤ a → a ≤ 0x02F → sbWord t x a =
           if sbAddr h ≤ a ∧ a < sbAddr h + n then data.getD (a - sbAddr h) 0 else sbWord s x a) ∧ kept t) ∧
       (0x100 ≤ sbAddr h → sbAddr h + n ≤ 0x200 →
         (b.spdmBusy = false → Completes (.sidebandWrite x f) s fun t =>
           FrameDone s t x f 0 [] false ∧ (t.tile x).side.scratch = b.scratch ∧ (t.tile x).side.spdmReady = false ∧
           (∀ a, 0x100 ≤ a → a ≤ 0x1FF → sbWord t x a =
             if sbAddr h ≤ a ∧ a < sbAddr h + n then data.getD (a - sbAddr h) 0 else sbWord s x a) ∧ kept t) ∧
         (b.spdmBusy = true → Completes (.sidebandWrite x f) s fun t =>
           FrameDone s t x f 5 [] false ∧ (t.tile x).side.buffer = b.buffer ∧ kept t)) ∧
       (sbAddr h = 0x010 → n = 1 →
         (data.headD 0 &&& 3 ≠ 3 → Completes (.sidebandWrite x f) s fun t =>
           FrameDone s t x f 0 [] false ∧ (t.tile x).side.mode = (data.headD 0).setWidth 2 ∧ kept t) ∧
         (data.headD 0 &&& 3 = 3 → Completes (.sidebandWrite x f) s fun t =>
           FrameDone s t x f 4 [] false ∧ (t.tile x).side.mode = b.mode ∧ kept t)) ∧
       (sbAddr h + n ≤ 0x010 → Completes (.sidebandWrite x f) s fun t => FrameDone s t x f 7 [] false ∧
         (t.tile x).side.scratch = b.scratch ∧ (t.tile x).side.buffer = b.buffer ∧ (t.tile x).side.mode = b.mode ∧ kept t))) ∧
  (∀ (s : State) (x : TileId) (f : Frame), sbAddr (sbHeader f) = 0 →
     let data := (f.words.drop 1).dropLast
     let arg := data.headD 0
     let tx := s.tile x
     let push := stagingPush (stageSnapshot s x) x
     let told := fun (t : State) (cmd result : Nat) => FrameDone s t x f result [] false ∧
       (t.tile x).side.lastCmd = BitVec.ofNat 8 cmd ∧ (t.tile x).side.lastResult = BitVec.ofNat 8 result
     (∀ cmd c, (cmd, c) ∈ [(0x20, Instr.bootOk x f), (0x21, .resetReq x f), (0x24, .openCommit x f)] →
       GoodFrame s x f cmd → sbLen (sbHeader f) = 0 → tx.ctl.state.released = false → (cmd = 0x21 → arg = 0x52535452) →
       Completes c s fun t => told t cmd 1 ∧ (t.tile x).ctl = tx.ctl ∧ (t.tile x).mem = tx.mem ∧
         (t.tile x).update = tx.update ∧ Only [.tiles, .events, .resp] s t) ∧
     (GoodFrame s x f 0x20 → sbLen (sbHeader f) = 0 → tx.ctl.state.released = true →
       Completes (.bootOk x f) s fun t => told t 0x20 0 ∧ (t.tile x).update.bootOk = true ∧ (t.tile x).ctl = tx.ctl ∧
         (tx.update.trial = none ∨ s.gmode.mode = .lockdown → t.ridge = s.ridge ∧
           (t.tile x).update.switches = tx.update.switches ∧ (t.tile x).update.trial = tx.update.trial) ∧
         (∀ d, tx.update.trial = some d → s.gmode.mode ≠ .lockdown →
           (t.tile x).update.trial = none ∧ (t.tile x).update.result = 2 ∧
           (t.tile x).update.switches = tx.update.switches ++
             [{ partition := tx.force.partition, state := 2, digest := tx.force.digest }]) ∧
         Only [.tiles, .ridge, .events, .resp] s t) ∧
     (GoodFrame s x f 0x21 → sbLen (sbHeader f) = 0 → arg = 0x52535452 → s.gmode.mode ≠ .lockdown →
       (tx.ctl.state = .run → tx.ctl.switchPending = false → Completes (.resetReq x f) s fun t =>
         told t 0x21 0 ∧ Moved x s t .held .platformReset ∧ (t.tile x).mem = tx.mem ∧ (t.tile x).side.spdm.sessions = [] ∧
         Only [.tiles, .keys, .eng, .events, .resp] s t) ∧
       (tx.ctl.state = .early → Completes (.resetReq x f) s fun t =>
         told t 0x21 0 ∧ Moved x s t .fetch .platformReset ∧ (t.tile x).verify.verified = tx.verify.verified ∧
         (t.tile x).side.spdm.sessions = [] ∧ Only [.tiles, .ridge, .keys, .eng, .events, .resp] s t)) ∧
     (GoodFrame s x f 0x22 → sbLen (sbHeader f) = 0 → updateState tx.ctl.state = true → tx.active.platformUpdate = true →
       (tx.owned = true → tx.update.owner = 1 ∧ tx.update.phase = 1) →
       (commitBlocked s x = true → Completes (.updateCommit x f) s fun t =>
         told t 0x22 1 ∧ (t.tile x).update = { tx.update with result := 7 } ∧ Only [.tiles, .events, .resp] s t) ∧
       (commitBlocked s x = false → (push.headerOk = true →
           granulesFor (0x10000 + mfTreeSize push.manifest + mfImageLen push.manifest) ≤ poolFree s) →
         Completes (.updateCommit x f) s fun t => told t 0x22 0 ∧ (t.tile x).update.count = arg.toNat ∧
           (t.tile x).update.phase = (if tx.ctl.state = .fetch ∨ tx.ctl.state = .restore then 3 else 2) ∧
           (t.tile x).update.owner = 1 ∧ (tx.owned = false → (t.tile x).ctl.stage = true) ∧ (t.tile x).ctl.state = tx.ctl.state ∧
           (t.tile x).update.staged = tx.mem.staging ∧ (t.tile x).mem.staging = tx.mem.staging ∧ t.gmode = wokenMode s ∧
           Only [.gmode, .attic, .memctl, .tiles, .events, .resp] s t)) ∧
     (GoodFrame s x f 0x23 → sbLen (sbHeader f) = 0 → arg = 0 → updateState tx.ctl.state = true → tx.update.owner = 1 →
       tx.update.trial = none →
       (tx.owned = true → Completes (.updateAbandon x f) s fun t => told t 0x23 6 ∧ (t.tile x).mem.staging = [] ∧
         (t.tile x).mem.granules = [] ∧ (t.tile x).update.owner = 0 ∧ (t.tile x).update.result = 5 ∧
         (t.tile x).ctl.stage = false ∧ (t.tile x).ctl.state = tx.ctl.state ∧
         Only [.gmode, .attic, .memctl, .tiles, .events, .resp] s t) ∧
       (tx.owned = false → tx.ctl.switchPending = true → Completes (.updateAbandon x f) s fun t => told t 0x23 6 ∧
         (t.tile x).ctl.switchPending = false ∧ (t.tile x).update.result = 5 ∧ (t.tile x).update.phase = 0 ∧
         (t.tile x).update.switches = tx.update.switches ++
           [{ partition := tx.update.selected, state := 2, digest := tx.force.digest }] ∧
         (t.tile x).ctl.state = tx.ctl.state ∧ Only [.gmode, .attic, .memctl, .tiles, .events, .resp] s t)) ∧
     (GoodFrame s x f 0x24 → sbLen (sbHeader f) = 0 → tx.ctl.state.released = true → (mainUp tx = true ∨ twinUp tx = true) →
       (arg = 0xFFFFFFFF ∨ arg.toNat < 32) →
       (∀ rs, stageRegions tx.force.manifest arg = some rs →
         let units := tx.filter.changed.filter fun u => rs.any fun r => regionUnits r u
         Completes (.openCommit x f) s fun t => told t 0x24 0 ∧
           (t.tile x).filter.committing.map (·.unit) = tx.filter.committing.map (·.unit) ++ units ∧
           (t.tile x).filter.changed = tx.filter.changed.filter (fun u => !units.contains u) ∧ (t.tile x).mem = tx.mem ∧
           (t.tile x).ctl = tx.ctl ∧ Only [.tiles, .events, .resp] s t) ∧
       (stageRegions tx.force.manifest arg = none → Completes (.openCommit x f) s fun t => told t 0x24 4 ∧
         (t.tile x).filter.committing = tx.filter.committing ∧ Only [.tiles, .events, .resp] s t)) ∧
     (∀ k : Fin 8, 4 ≤ k.val → arg.toNat = k.val → GoodFrame s x f 0x25 → sbLen (sbHeader f) = 12 →
       tx.ctl.state.released = true → (s.reg (tileReg x k)).saturated = false → s.boot.ridgeHeld = false →
       s.ridge.powered = true → Completes (.measureExtendSb x f) s fun t =>
         told t 0x25 0 ∧ (t.reg (tileReg x k)).value = Config.sha384 (bytesOf 48 (s.reg (tileReg x k)).value ++
           bytesOf 48 (ofBytes 384 ((data.drop 1).flatMap (bytesOf 4)))) ∧
         (t.reg (tileReg x k)).counter = (s.reg (tileReg x k)).counter + 1 ∧ (t.reg (tileReg x k)).lastBy = 4 ∧
         (∀ q, q ≠ tileReg x k → t.reg q = s.reg q) ∧ (t.tile x).ctl = tx.ctl ∧ Only [.tiles, .ridge, .resp] s t) ∧
     (GoodFrame s x f 0x26 → sbLen (sbHeader f) = 0 → bitOf arg 31 = false →
       (fieldOf arg 10 0 = 0 ∨ 1024 < fieldOf arg 10 0 → Completes (.spdmSend x f) s fun t => told t 0x26 4 ∧
         (t.tile x).side.spdm = tx.side.spdm ∧ Only [.tiles, .resp] s t) ∧
       (0 < fieldOf arg 10 0 → fieldOf arg 10 0 ≤ 1024 → tx.side.spdmBusy = true → Completes (.spdmSend x f) s fun t =>
         told t 0x26 5 ∧ (t.tile x).side.spdm = tx.side.spdm ∧ Only [.tiles, .resp] s t) ∧
       (0 < fieldOf arg 10 0 → fieldOf arg 10 0 ≤ 1024 → tx.side.spdmBusy = false → Completes (.spdmSend x f) s fun t =>
         told t 0x26 0 ∧ (t.tile x).side.spdmBusy = true ∧ (t.tile x).side.spdmReady = false ∧
         (t.tile x).side.spdm.request = some (Memory.read 0 tx.side.buffer 0 (fieldOf arg 10 0)) ∧
         (t.tile x).side.spdm.locked = false ∧ (t.tile x).side.spdm.inSession = none ∧
         Only [.tiles, .resp] s t)) ∧
     ∀ rsp secured, tx.side.spdm.response = some (rsp, secured) → rsp.length ≤ 1024 → Canonical s →
       Completes (.spdmSbResponse x) s fun t => Memory.read 0 (t.tile x).side.buffer 0 rsp.length = rsp ∧
         (t.tile x).side.length = rsp.length ∧ (t.tile x).side.secured = secured ∧ (t.tile x).side.spdmBusy = false ∧
         (t.tile x).side.spdmReady = true ∧ (t.tile x).side.spdm.response = none ∧ OnlyTile x s t ∧ Only [.tiles] s t)

/-! ### SPDM (R259 to R266, R386, R400) -/

/-- Connecting and asking (R259 to R262, R265): GET_VERSION starts afresh, the next two build on it, and what follows needs
algorithms negotiated; digests and certificates of the slots, a challenge, measurement blocks. While the boot ROM runs every
request gets ERROR Busy; a code without a row gets ERROR UnsupportedRequest; and what needs the Ridge domain waits while its
port is held (R20). The model's choices it rests on are in log entries 8, 52. It says of each of these that it completes, with
its own effect: .getVersion, .getCapabilities, .negotiateAlgorithms, .getDigests, .getCertificate, .challenge,
.getMeasurements, .spdmUnsupported, .keyExchange, .chunkSend. -/
def Obligations.SpdmConnectsAndGivesEvidence : Prop :=
  ∀ (s : State) (via : SpdmVia) (run : RafterRun) (m : List Byte), run.wrong = [] →
    let p := spdmOf s via
    (p.request = some m → p.inSession = none → p.locked = false → spdmServed s = true → leAt 1 1 m = 0x84 → leAt 0 1 m = 0x10 → 4 ≤ m.length →
      Completes (.getVersion via) s fun t => Sent [] s t via [0x10, 0x04, 0, 0, 0, 1, 0x00, 0x13] false ∧
        (spdmOf t via).versioned = true ∧ (spdmOf t via).capable = false ∧ (spdmOf t via).negotiated = false ∧
        (spdmOf t via).sessions = p.sessions) ∧
    (Asks s via 0xE1 m →
      (p.versioned = true → Completes (.getCapabilities via) s fun t => (spdmOf t via).capable = true ∧
        ∃ rsp, Sent [] s t via rsp false ∧ leAt 1 1 rsp = 0x61 ∧ leAt 8 4 rsp = spdmFlags ∧ leAt 12 4 rsp = viaLimit via ∧
          (spdmOf t via).vca = p.vca ++ m ++ rsp) ∧
      (p.versioned = false → Completes (.getCapabilities via) s fun t => Sent [] s t via (spdmError 4) false)) ∧
    (Asks s via 0xE3 m → leAt 2 1 m ≤ 8 →
      (p.capable = true → leAt 8 4 m / 0x80 % 2 = 1 → leAt 12 4 m / 2 % 2 = 1 →
        Completes (.negotiateAlgorithms via) s fun t => (spdmOf t via).negotiated = true ∧
          ∃ rsp, Sent [] s t via rsp false ∧ leAt 1 1 rsp = 0x63 ∧ leAt 12 4 rsp = 0x80 ∧ leAt 16 4 rsp = 0x02 ∧
            (spdmOf t via).vca = p.vca ++ m ++ rsp) ∧
      (p.capable = false → Completes (.negotiateAlgorithms via) s fun t => Sent [] s t via (spdmError 4) false)) ∧
    (Asks s via 0x81 m →
      (p.negotiated = true → Completes (.getDigests via) s fun t => Sent [] s t via (spdmRsp 0x01 0x07 (slotMask s)
        ((((List.range 3).map (slotChain s)).filter (· ≠ [])).flatMap fun c => bytesOf 48 (Config.sha384 c))) false) ∧
      (p.negotiated = false → Completes (.getDigests via) s fun t => Sent [] s t via (spdmError 4) false)) ∧
    (∀ slot off, Asks s via 0x82 m → p.negotiated = true → leAt 2 1 m % 16 = slot → leAt 4 2 m = off →
      (off < (slotChain s slot).length → Completes (.getCertificate via) s fun t =>
        let part := ((slotChain s slot).drop off).take (min (leAt 6 2 m) (viaLimit via - 8))
        Sent [] s t via (spdmRsp 0x02 slot 0 (leBytes 2 part.length ++
          leBytes 2 ((slotChain s slot).length - off - part.length) ++ part)) false) ∧
      ((slotChain s slot).length ≤ off → Completes (.getCertificate via) s fun t =>
        Sent [] s t via (spdmError 1) false)) ∧
    (∀ slot, Asks s via 0x83 m → p.negotiated = true → leAt 2 1 m = slot → slotChain s slot ≠ [] → 44 ≤ m.length →
      leAt 3 1 m ∈ [0, 1, 0xFF] → DrbgReady s 1 → (s.slot (certKey slot)).state = .valid →
      TagHolds s (certKey slot) → Completes (.challenge via run) s fun t => ∃ rest, 96 ≤ rest.length ∧
        t.gmode = wokenMode s ∧ Sent [.eng, .gmode, .boot, .attic, .memctl, .events] s t via (spdmRsp 0x03 slot (slotMask s) (bytesOf 48 (Config.sha384 (slotChain s slot)) ++ rest)) false) ∧
    (∀ op, Asks s via 0xE0 m → p.negotiated = true → leAt 2 1 m % 2 = 0 → leAt 3 1 m = op → DrbgReady s 1 →
      (op = 0 → Completes (.getMeasurements via run) s fun t => ∃ nonce, nonce.length = 32 ∧
        Sent [.eng] s t via (spdmRsp 0x60 (indexCount via) 0 ([0, 0, 0, 0] ++ nonce ++ [0, 0] ++
          padTo 8 0 (slice 4 8 m))) false) ∧
      (∀ b, op ≠ 0 → op ≠ 0xFF → indexBlock via op = some b → Completes (.getMeasurements via run) s fun t =>
        ((dmtfBlock s op b).length ≤ 900 → ∃ nonce, nonce.length = 32 ∧
          Sent [.eng] s t via (spdmRsp 0x60 0 0 ([1] ++ leBytes 3 (dmtfBlock s op b).length ++ dmtfBlock s op b ++ nonce ++
            [0, 0] ++ padTo 8 0 (slice 4 8 m))) false)) ∧
      (op ≠ 0 → op ≠ 0xFF → indexBlock via op = none → Completes (.getMeasurements via run) s fun t =>
        Sent [] s t via (spdmError 1) false)) ∧
    (∀ code, Asks s via code m → rowCode 0 m = true → Completes (.spdmUnsupported via) s fun t =>
      Sent [] s t via (spdmError 7) false) ∧
    (∀ code c, (code, c) ∈ [(0x84, Instr.getVersion via), (0x81, .getDigests via), (0x83, .challenge via run),
        (0xE0, .getMeasurements via run), (0xE4, .keyExchange via run), (0x85, .chunkSend via run)] →
      p.request = some m → p.inSession = none → p.locked = false → leAt 1 1 m = code →
      (asksRidge p m = false → s.loft.run = .bootRom →
        Completes c s fun t => Sent [] s t via (spdmError 3) false) ∧
      (s.boot.ridgeHeld = false → s.loft.run = .bootRom →
        Completes c s fun t => Sent [] s t via (spdmError 3) false) ∧
      (s.boot.ridgeHeld = true → asksRidge p m = true → exec c s = .next s))

/-- Sessions (R263, R264, R266): KEY_EXCHANGE opens a handshake, FINISH completes one whose checks hold and ends any other,
and requests within a session are answered under its keys: END_SESSION ends it, KEY_UPDATE moves its keys on, the encapsulated
flow reads the peer's chain, and an owner session asks for a CSR and stores the slot 2 chain. The model's choices it rests on
are in log entries 8, 52, 53. It says of each of these that it completes, with its own effect: .keyExchange, .finish,
.endSession, .heartbeat, .keyUpdate, .getEncapsulatedRequest, .deliverEncapsulatedResponse, .setCertificate, .getCsr,
.chunkSend, .chunkGet. -/
def Obligations.SpdmSessions : Prop :=
  ∀ (s : State) (via : SpdmVia) (run : RafterRun) (m : List Byte), run.wrong = [] →
    let p := spdmOf s via
    let sealed := fun (x : Session) (rsp : List Byte) => sealWith (s.slot (loftSlot x.rspSlot)) x.id rsp
    (∀ slot, Asks s via 0xE4 m → p.negotiated = true → leAt 3 1 m = slot → slotChain s slot ≠ [] → 138 ≤ m.length →
      leAt 2 1 m ∈ [0, 1, 0xFF] → DrbgReady s 0 → DrbgReady s 1 → (s.slot (certKey slot)).state = .valid →
      TagHolds s (certKey slot) → p.sessions = [] → (freeLoftSlots s).isSome = true →
      Completes (.keyExchange via run) s fun t =>
        (Config.p384ValidPoint (0x04 :: slice 40 96 m) = true → ∃ x rsp, (spdmOf t via).sessions = [x] ∧
          x.done = false ∧ x.slot = slot ∧ x.mutualAuth = (viaDoe via && p.mutCap) ∧ x.id % 65536 = leAt 4 2 m ∧
          leAt 1 1 rsp = 0x64 ∧ leAt 4 2 rsp = x.id / 65536 ∧ x.reqSlot ≠ x.rspSlot ∧
          (∀ i ∈ [x.reqSlot, x.rspSlot], (s.slot (loftSlot i)).state = .empty ∧ (t.slot (loftSlot i)).state = .valid ∧
            TagHolds t (loftSlot i)) ∧ t.gmode = wokenMode s ∧
          Sent [.keys, .eng, .freeCtr, .gmode, .boot, .attic, .memctl, .events] s t via rsp false) ∧
        (Config.p384ValidPoint (0x04 :: slice 40 96 m) = false → Sent [] s t via (spdmError 1) false)) ∧
    (∀ x, AsksIn s via 0xE5 m x → x.done = false → x.mutualAuth = false → x.encap = 0 → leAt 2 1 m % 2 = 0 → 52 ≤ m.length →
      DrbgReady s 0 → Completes (.finish via) s fun t =>
        let mac := Config.hmacSha384 (finishedKey 4 x.secret x.th) (bytesOf 48 (Config.sha384 (x.th ++ m.take 4)))
        (slice 4 48 m = bytesOf 48 mac → (∀ y ∈ (spdmOf t via).sessions, y.id = x.id → y.done = true ∧ y.peer = 0) ∧
          (t.slot (loftSlot x.reqSlot)).state = .valid ∧ (t.slot (loftSlot x.rspSlot)).state = .valid ∧
          Sent [.keys, .eng, .events] (sparWake s) t via (sealed x (spdmRsp 0x65 0 0 [])) true) ∧
        (slice 4 48 m ≠ bytesOf 48 mac → (∀ y ∈ (spdmOf t via).sessions, y.id ≠ x.id) ∧
          (t.slot (loftSlot x.reqSlot)).state = .empty ∧ (t.slot (loftSlot x.rspSlot)).state = .empty ∧
          Sent [.keys, .eng] (sparWake s) t via (sealed x (spdmError 6)) true)) ∧
    (∀ x, AsksIn s via 0xEC m x → Completes (.endSession via) s fun t =>
      (spdmOf t via).sessions = p.sessions.filter (fun y => decide (y.id ≠ x.id)) ∧
      (t.slot (loftSlot x.reqSlot)).state = .empty ∧ (t.slot (loftSlot x.rspSlot)).state = .empty ∧
      Sent [.keys, .eng, .events] (sparWake s) t via (sealed x (spdmRsp 0x6C 0 0 [])) true) ∧
    (∀ x, AsksIn s via 0xE8 m x → x.done = true → Completes (.heartbeat via) s fun t =>
      (spdmOf t via).sessions = p.sessions ∧
      t.slot (loftSlot x.rspSlot) = { s.slot (loftSlot x.rspSlot) with counter := (s.slot (loftSlot x.rspSlot)).counter + 1 } ∧
      Sent [.keys] (sparWake s) t via (sealed x (spdmRsp 0x68 0 0 [])) true) ∧
    (∀ x, AsksIn s via 0xE9 m x → SessionKey s x.reqSlot true → x.done = true → leAt 2 1 m = 1 → DrbgReady s 0 → Completes (.keyUpdate via) s fun t =>
      (spdmOf t via).sessions = p.sessions ∧
      (t.slot (loftSlot x.reqSlot)).material = ofBytes 512 (nextKey (s.slot (loftSlot x.reqSlot))) ∧
      (t.slot (loftSlot x.reqSlot)).counter = 0 ∧ (t.slot (loftSlot x.reqSlot)).state = .valid ∧
      t.slot (loftSlot x.rspSlot) = { s.slot (loftSlot x.rspSlot) with counter := (s.slot (loftSlot x.rspSlot)).counter + 1 } ∧
      Sent [.keys, .eng] (sparWake s) t via (sealed x (spdmRsp 0x69 1 (leAt 3 1 m) [])) true) ∧
    (∀ x f, via = .doe f → AsksIn s via 0xEA m x → x.done = false → x.encap = 1 → x.peerChain.length < 65536 →
      Completes (.getEncapsulatedRequest via) s fun t =>
        (spdmOf t via).sessions = p.sessions ∧
        Sent [.keys] (sparWake s) t via (sealed x (spdmRsp 0x6A 1 0 (encapGet x.peerChain.length))) true) ∧
    (∀ x f part, via = .doe f → AsksIn s via 0xEB m x → x.done = false → x.encap = 1 → leAt 5 1 m = 0x02 →
      leAt 6 1 m % 16 = 0 → leAt 8 2 m = part → 12 + part ≤ m.length → leAt 10 2 m = 0 →
      Completes (.deliverEncapsulatedResponse via) s fun t =>
        (∃ y ∈ (spdmOf t via).sessions, y.id = x.id ∧ y.encap = 2 ∧ y.peerChain = x.peerChain ++ slice 12 part m) ∧
        ∃ rsp, leAt 1 1 rsp = 0x6B ∧ Sent [.keys] (sparWake s) t via (sealed x rsp) true) ∧
    (∀ x f, via = .doe f → AsksIn s via 0xEE m x → x.owner s.host.ownerDigest = true → leAt 2 1 m % 16 = 2 →
      Completes (.setCertificate via) s fun t => t.keys = { s.keys with slot2Chain := m.drop 4, slots := t.keys.slots } ∧
        (∀ i, i ≠ loftSlot x.rspSlot → t.slot i = s.slot i) ∧
        Sent [.keys] (sparWake s) t via (sealed x (spdmRsp 0x6E 2 0 [])) true) ∧
    (∀ x f, via = .doe f → AsksIn s via 0xED m x → x.owner s.host.ownerDigest = true → s.gmode.barren = false →
      (s.slot 7).state = .valid → TagHolds s 7 → DrbgReady s 1 → Completes (.getCsr via run) s fun t =>
        let csr := Config.csrBytes (bytesOf 48 (s.slot 7).material) m s.eng.calls1
        t.gmode = wokenMode s ∧
        (csr.length ≤ 4000 → Sent [.keys, .eng, .gmode, .boot, .attic, .memctl, .events] (sparWake s) t via (sealed x
          (spdmRsp 0x6D 0 0 (leBytes 2 csr.length ++ [0, 0] ++ csr))) true)) ∧
    (∀ code c, (code, c) ∈ [(0xED, Instr.getCsr via run), (0xEE, .setCertificate via)] → Asks s via code m →
      Completes c s fun t => Sent [] s t via (spdmError 7) false) ∧
    (∀ data, p.request = some m → p.inSession = none → p.locked = false → spdmServed s = true → leAt 1 1 m = 0x85 → leAt 0 1 m = 0x13 →
      leAt 2 1 m % 2 = 0 → leAt 4 2 m = 0 → slice 16 (leAt 8 4 m) m = data → data.length = leAt 8 4 m →
      data.length ≤ leAt 12 4 m → leAt 12 4 m ≤ 0x60000 → Completes (.chunkSend via run) s fun t =>
        (spdmOf t via).chunkIn = data ∧ (spdmOf t via).chunkSeq = 1 ∧ (spdmOf t via).chunkTotal = leAt 12 4 m ∧
        Sent [] s t via (spdmRsp 0x05 0 (leAt 3 1 m) [0, 0]) false) ∧
    (Asks s via 0x86 m → p.large ≠ [] → leAt 4 2 m = p.largeSeq → leAt 3 1 m = p.handle.toNat → 0 < p.largeSeq →
      Completes (.chunkGet via) s fun t =>
        (spdmOf t via).large = p.large.drop (viaLimit via - 12) ∧ (spdmOf t via).largeSeq = p.largeSeq + 1 ∧
        ∃ rsp, leAt 1 1 rsp = 0x06 ∧ rsp.drop 12 = p.large.take (viaLimit via - 12) ∧ Sent [] s t via rsp false)

/-! ### Updates and host staging (R226 to R235, R403, R431) -/

/-- Host staging (R226, R227, R230, R234, R403, R410, R431): IMAGE_STAGE takes the staging area, IMAGE_WRITE stores into it or
into the push buffer, IMAGE_COMMIT hands it to verification or is refused, IMAGE_ABANDON empties it, IMAGE_CONFIRM confirms a
trial, in LOCKDOWN it only records the confirmation; host staging left without an owner is abandoned. The model's choices it
rests on are in log entries 40, 61. It says of each of these that it completes, with its own effect: .imageStage, .imageWrite,
.imageCommit, .imageAbandon, .imageConfirm, .orphanExpiry. -/
def Obligations.HostStagingCommands : Prop :=
  ∀ (s : State) (h : LdId) (x : TileId),
    let tx := s.tile x
    let push := stagingPush (stageSnapshot s x) x
    (OwnerTile s h x (0x300 * 256) 4 → tx.owned = false → tx.ctl.state ∉ [TileState.fetch, .restore, .absent] →
      (tileLayout tx).isSome = true → Completes (.imageStage h) s fun t =>
        Moved x s t tx.ctl.state .stageSet ∧ (t.tile x).ctl.stage = true ∧ (t.tile x).update.owner = 2 ∧
        (t.tile x).update.phase = 1 ∧ (t.tile x).update.mailbox = h ∧ (t.tile x).mem = tx.mem ∧ OnlyTile x s t ∧
        Only [.tiles, .events, .mail] s t ∧ Completed s t h 0 (tileAnswer t x)) ∧
    (OwnerTile s h x (0x300 * 256) 4 → (tx.ctl.state = .fetch ∨ tx.ctl.state = .restore) →
      Completes (.imageStage h) s fun t => MailFrame s t ∧ Completed s t h 1 []) ∧
    (∀ off data, Taken s h (0x301 * 256) → (s.mb h).arg 0 4 = x.val → fusedOff s x = false → ownerOnly s h = true →
      s.gmode.mode ∈ servedModes → 13 ≤ lengthOf s h → lengthOf s h ≤ 0x2000 → (s.mb h).zero 5 3 = true →
      (s.mb h).arg 8 4 = off → (s.mb h).bytes 12 (lengthOf s h - 12) = data → Canonical s →
      ((s.mb h).arg 4 1 = 0 → tx.owned = true → tx.update.owner = 2 → off + data.length ≤ stagingSize →
        let need := (granulesOf off data.length).filter (· ∉ tx.mem.granules)
        (need.length ≤ poolFree s → Completes (.imageWrite h) s fun t =>
          (∀ p, Sparse.get 0xFF (t.tile x).mem.staging p =
            if off ≤ p ∧ p < off + data.length then data.getD (p - off) 0 else Sparse.get 0xFF tx.mem.staging p) ∧
          (∀ g ∈ granulesOf off data.length, g ∈ (t.tile x).mem.granules) ∧ (t.tile x).mem.copy = tx.mem.copy ∧
          (t.tile x).update = tx.update ∧ (t.tile x).ctl = tx.ctl ∧ (∀ u, u ≠ x → t.tile u = s.tile u) ∧
          WokeNow [.memctl, .tiles, .events, .freeCtr, .mail] s t ∧ Completed s t h 0 []) ∧
        (poolFree s < need.length → need ≠ [] → Completes (.imageWrite h) s fun t => t.tiles = s.tiles ∧
          WokeNow [.memctl, .events, .mail] s t ∧ Completed s t h 9 [])) ∧
      ((s.mb h).arg 4 1 = 0 → (tx.owned = false ∨ tx.update.owner ≠ 2) → Completes (.imageWrite h) s fun t =>
        t.tiles = s.tiles ∧ WokeNow [.mail] s t ∧ Completed s t h 5 []) ∧
      ((s.mb h).arg 4 1 = 1 → off + data.length ≤ pushSize → Completes (.imageWrite h) s fun t =>
        (∀ p, Sparse.get 0xFF t.memctl.push p =
          if off ≤ p ∧ p < off + data.length then data.getD (p - off) 0 else Sparse.get 0xFF s.memctl.push p) ∧
        Only [.memctl, .events, .freeCtr, .mail] s t ∧ Completed s t h 0 [])) ∧
    (OwnerTile s h x (0x302 * 256) 8 → tx.owned = true → tx.update.owner = 2 →
      (tx.update.phase = 1 → commitBlocked s x = false → (push.headerOk = true →
          granulesFor (0x10000 + mfTreeSize push.manifest + mfImageLen push.manifest) ≤ poolFree s) →
        Completes (.imageCommit h) s fun t => (t.tile x).update.count = (s.mb h).arg 4 4 ∧
          (t.tile x).update.phase = (if tx.ctl.state = .fetch ∨ tx.ctl.state = .restore then 3 else 2) ∧
          (t.tile x).update.target = !tx.update.selected ∧ (t.tile x).update.staged = tx.mem.staging ∧ (t.tile x).mem.staging = tx.mem.staging ∧
          (t.tile x).update.mailbox = h ∧ (t.tile x).ctl = tx.ctl ∧ OnlyTile x s t ∧ Only [.tiles, .mail] s t ∧
          Completed s t h 0 (tileAnswer t x)) ∧
      (tx.update.phase ≠ 1 ∨ commitBlocked s x = true → Completes (.imageCommit h) s fun t =>
        (t.tile x).update = { tx.update with result := 7 } ∧ (t.tile x).ctl = tx.ctl ∧ OnlyTile x s t ∧
        Only [.tiles, .mail] s t ∧ Completed s t h 1 [])) ∧
    (OwnerTile s h x (0x303 * 256) 4 → tx.owned = true → tx.update.trial = none →
      Completes (.imageAbandon h) s fun t => (t.tile x).mem.staging = [] ∧ (t.tile x).mem.granules = [] ∧
        (t.tile x).update.owner = 0 ∧ (t.tile x).update.result = 5 ∧ (t.tile x).ctl.stage = false ∧
        (t.tile x).ctl.state = tx.ctl.state ∧ OnlyTile x s t ∧ Completed s t h 0 (tileAnswer t x)) ∧
    (∀ d, OwnerTile s h x (0x304 * 256) 4 → tx.update.trial = some d → tx.ctl.state.released = true →
      Completes (.imageConfirm h) s fun t => (t.tile x).update.trial = none ∧ (t.tile x).update.result = 2 ∧
        (t.tile x).update.switches = tx.update.switches ++
          [{ partition := tx.force.partition, state := 2, digest := tx.force.digest }] ∧
        (t.tile x).ctl = tx.ctl ∧ OnlyTile x s t ∧ Only [.tiles, .ridge, .events, .mail] s t ∧
        Completed s t h 0 (tileAnswer t x)) ∧
    (Taken s h (0x304 * 256) → Names s h x → lengthOf s h = 4 → ownerOnly s h = true → s.gmode.mode = .lockdown →
      tx.update.trial.isSome = true → tx.ctl.state.released = true → Completes (.imageConfirm h) s fun t =>
        t.tile x = { tx with update := { tx.update with bootOk := true } } ∧ OnlyTile x s t ∧ Only [.tiles, .mail] s t ∧
        Completed s t h 5 []) ∧
    (ownerLds s = 0 → s.gmode.mode ≠ .depot → Completes .orphanExpiry s fun t =>
      (∀ u, (s.tile u).update.owner = 2 → (s.tile u).update.phase = 1 → (t.tile u).update.owner = 0 ∧
        (t.tile u).update.result = 5 ∧ (t.tile u).mem.staging = []) ∧
      (∀ u, ¬((s.tile u).update.owner = 2 ∧ (s.tile u).update.phase = 1) → t.tile u = s.tile u) ∧
      Only [.memctl, .tiles, .events] s t) ∧
    (ownerLds s ≠ 0 ∨ s.gmode.mode = .depot → Completes .orphanExpiry s fun t => t = s)

/-- A committed update (R228, R229, R233, R234): content whose checks pass is written step by step, each step on the flashes
that have not failed, until its ARMED record stands and the tile switches; content that fails, and a sequence with no flash
left, end the update with its cause. A trial that runs out of time falls back. The model's choices it rests on are in log
entry 41. It says of each of these that it completes, with its own effect: .updateVerified, .updateWriteStepDone,
.updateReadbackDone, .updateArmed, .switchRecordWrite, .trialExpiry. -/
def Obligations.UpdatesAreVerifiedWrittenAndArmed : Prop :=
  ∀ (s : State) (x : TileId),
    let tx := s.tile x
    let p := stagingPush s x
    let m := p.manifest
    let only := fun t : State => OnlyTile x s t ∧ Only [.memctl, .tiles, .events] s t
    let record := switchRecord (tx.update.switchSeq + 1)
    let written := fun r : List Byte => putRecord tx.update.records (nextSlot tx.update.records) r
    let ports := portFree s x false .update = true ∧ portFree s x true .update = true
    let counted := fun (t : State) (main twin : Bool) (a b : WriteResult) =>
      (t.tile x).eave = { tx.eave with
        writeErrors := (t.tile x).eave.writeErrors, mainFailed := (t.tile x).eave.mainFailed, twinFailed := (t.tile x).eave.twinFailed } ∧
      (tx.eave.writeErrors ≤ 0xFF → (t.tile x).eave.writeErrors =
        min 0xFF (tx.eave.writeErrors + (if main then a.differed else 0) + (if twin then b.differed else 0)))
    (∀ sig : RafterRun, sig.wrong = [] → s.memctl.channelUp = BitVec.allOnes 8 → tx.update.phase = 2 → tx.update.owner ≠ 0 → fetchAllowed s x = true →
      let found := (checkBulk { st := wake s, runs := [] } x.val m (p.nodes m) (p.blocks m) false).2
      Completes (.updateVerified x sig []) s fun t =>
        (p.headerOk = false → (t.tile x).update.result = 3 ∧ (t.tile x).update.cause = 1) ∧
        (p.headerOk = true → tx.update.count ≠ mfImageLen m → (t.tile x).update.result = 3 ∧
          (t.tile x).update.cause = 0x16) ∧
        (p.headerOk = false ∨ tx.update.count ≠ mfImageLen m → (t.tile x).mem.staging = [] ∧
          (t.tile x).update.owner = 0 ∧ (t.tile x).ctl.state = tx.ctl.state ∧ Logged s t (x.val * 14 + 2) ∧ OnlyTile x s t ∧
          Woke [.memctl, .tiles, .events] s t) ∧
        ((checkPush (wake s) x p (some tx.update.count) (some (routeRoom tx)) sig).2 = 0 → found.fail = none →
          (t.tile x).update.content = p.read 0 (pushLen m) ∧
          (t.tile x).update.phase = (if tx.ctl.state.writable then 4 else 3) ∧ (t.tile x).ctl = tx.ctl ∧ OnlyTile x s t ∧
          Woke [.tiles] s t)) ∧
    (∀ a b : WriteResult, a.ok = true → b.ok = true → writesRun s x = true → ports →
        (tx.update.mainOk = true ∨ tx.update.twinOk = true) →
      let through := fun (t : State) (u : TileUpdate) => t.tile x = { tx with update := u, eave := (t.tile x).eave } ∧
        counted t tx.update.mainOk tx.update.twinOk a b ∧ only t
      (∀ u : TileUpdate,
        (tx.update.phase = 4 ∧ u = (if tx.update.step = 0 then { tx.update with step := 1 }
          else { tx.update with phase := 5, step := 2 })) ∨
        (tx.update.phase = 5 ∧ tx.update.step = 3 ∧ u = { tx.update with phase := 6, step := 4 }) →
        Completes (.updateWriteStepDone x a b) s fun t => through t u) ∧
      (tx.update.phase = 5 → tx.update.step = 2 → Completes (.updateReadbackDone x a b) s fun t =>
        through t { tx.update with step := 3 })) ∧
    (∀ a b : WriteResult, a.ok = false → writesRun s x = true → ports → tx.update.phase = 4 → tx.update.mainOk = true → tx.update.twinOk = false →
      Completes (.updateWriteStepDone x a b) s fun t => (t.tile x).update.result = 4 ∧
        (t.tile x).update.cause = 0x17 ∧ (t.tile x).update.owner = 0 ∧ (t.tile x).mem.staging = [] ∧
        (t.tile x).sweep.mainDown = true ∧ (t.tile x).ctl.state = tx.ctl.state ∧ Logged s t (x.val * 14 + 2) ∧ only t) ∧
    (writesRun s x = true → ports → tx.update.phase = 6 → s.gmode.mode ∈ servedModes →
      let r := record tx.update.target 1 (manifestDigest (updateManifest tx))
      let armed := fun t : State => (t.tile x).update.switchSeq = tx.update.switchSeq + 1 ∧
        (t.tile x).update.records = written r ∧ t.resp = { data := r, code := 0x20000 + 32 * nextSlot tx.update.records } ∧
        (∀ u, u ≠ x → t.tile u = s.tile u)
      (tx.ctl.state = .run ∨ tx.ctl.state = .early → Completes (.updateArmed x) s fun t =>
        Moved x s t tx.ctl.state .stageClear ∧ (t.tile x).ctl.stage = false ∧ (t.tile x).ctl.switchPending = true ∧
        (t.tile x).update.phase = 7 ∧ (t.tile x).update.result = 1 ∧ (t.tile x).mem.staging = [] ∧ armed t ∧
        Only [.memctl, .tiles, .events, .resp] s t) ∧
      (tx.ctl.state = .held ∨ tx.ctl.state = .quarantine → Completes (.updateArmed x) s fun t =>
        (t.tile x).ctl.state = .fetch ∧ (t.tile x).ctl.cause = .switch ∧ (t.tile x).ctl.switchPending = false ∧
        (t.tile x).ctl.gen = tx.ctl.gen + 2 ∧ (t.tile x).mem.copy = [] ∧ t.gmode = wokenMode s ∧ armed t ∧
        Only [.gmode, .attic, .memctl, .tiles, .ridge, .keys, .eng, .events, .resp] s t)) ∧
    (∀ w rest, ∀ a b : WriteResult, a.ok = true → b.ok = true → tx.update.switches = w :: rest → writesRun s x = true → ports → mainUp tx = true ∨ twinUp tx = true →
      Completes (.switchRecordWrite x a b) s fun t =>
        let r := record w.partition w.state w.digest
        t.tile x = { tx with eave := (t.tile x).eave, update := { tx.update with
          switches := rest, switchSeq := tx.update.switchSeq + 1, records := written r } } ∧
        counted t (mainUp tx) (twinUp tx) a b ∧
        t.resp = { data := r, code := 0x20000 + 32 * nextSlot tx.update.records } ∧ Only [.tiles, .resp] s t ∧
        ∀ u, u ≠ x → t.tile u = s.tile u) ∧
    (∀ d, tx.ctl.state = .run → tx.update.trial = some d → mfBootOkTimeout tx.force.manifest ≤ tx.update.runMs → s.gmode.mode ≠ .lockdown → s.gmode.mode ≠ .gate →
      Completes (.trialExpiry x) s fun t => (t.tile x).update.trial = none ∧ (t.tile x).update.result = 6 ∧
        ((t.tile x).ctl.state = .restore ∨ (t.tile x).ctl.state = .quarantine) ∧ (t.tile x).ctl.rstHeld = true ∧
        (t.tile x).restore.fallback = true ∧ t.gmode = wokenMode s ∧ OnlyTile x s t)

/-! ### Recovery (R216 to R225, R431) -/

/-- Recovery sources (R217 to R221): a source whose content cannot be read or fails its first check is entered as tried with
its cause and the next is taken; one whose checks all pass yields the tile's verified copy and waits for the release. The
flash writes after a restore's release end with a switch record naming the partition written (R221, R233). The model's choices
it rests on are in log entries 7, 42. It says of each of these that it completes, with its own effect: .restoreSourceDone,
.pushWaitExpiry, .imageRecover, .restoreFlashWriteDone. -/
def Obligations.RecoverySources : Prop :=
  (∀ (s : State) (x : TileId) (sig : RafterRun) (flash : FlashImage), sig.wrong = [] → restoring s x = true →
     s.gmode.mode ≠ .gate → fusedOff s x = false →
     let tx := s.tile x
     let failed := fun (t : State) (k cause : Nat) => bitOf (t.tile x).restore.tried (k - 1) = true ∧
       (t.tile x).restore.lastCause = BitVec.ofNat 8 cause ∧ (t.tile x).restore.ready = false ∧
       ((t.tile x).ctl.state = .restore ∧ k < (t.tile x).restore.source.toNat ∨ (t.tile x).ctl.state = .quarantine) ∧
       Logged s t (x.val * 14 + 2) ∧ OnlyTile x s t ∧ Only [.tiles, .events] s t
     let adopted := fun (t : State) (m : List Byte) => (t.tile x).restore.ready = true ∧ (t.tile x).ctl.state = .restore ∧
       (t.tile x).verify.phase = 8 ∧ (t.tile x).verify.accepted = true ∧ (t.tile x).verify.manifest = m ∧
       (t.tile x).verify.digest = manifestDigest m ∧ (t.tile x).force.manifest = tx.force.manifest ∧
       Logged s t (x.val * 14 + 1) ∧ OnlyTile x s t ∧ Only [.tiles, .ridge, .events] s t
     ((tx.restore.source = 1 ∨ tx.restore.source = 2) → flash.manifest = [] →
       Completes (.restoreSourceDone x flash sig []) s fun t => failed t tx.restore.source.toNat 0x12) ∧
     (tx.restore.source = 3 → s.memctl.channelUp = BitVec.allOnes 8 → let p := goldenPush s x
       let found := (checkBulk { st := s, runs := [] } x.val p.manifest (p.nodes p.manifest) (p.blocks p.manifest)
         (!tx.active.watchedRestore)).2
       Completes (.restoreSourceDone x flash sig []) s fun t =>
         (p.headerOk = false → failed t 3 1) ∧
         ((p.headerOk = false ∨ excluded tx p.manifest = false) → (checkPush s x p none none sig).2 = 0 →
           found.fail = none → found.held = [] → found.bad = [] →
           (openCopy p.manifest (if mainUp tx ∨ twinUp tx then flash.opens else [])).isSome = true → adopted t p.manifest)) ∧
     (tx.restore.source = 4 → tx.restore.waiting = true → Completes (.pushWaitExpiry x) s fun t =>
       bitOf (t.tile x).restore.tried 3 = true ∧ (t.tile x).restore.waiting = false ∧
       ((t.tile x).ctl.state = .restore ∧ (t.tile x).restore.source = 5 ∨ (t.tile x).ctl.state = .quarantine) ∧
       OnlyTile x s t ∧ Only [.tiles, .events] s t) ∧
     ∀ h opens base, OwnerTile s h x (0x305 * 256) 12 → (s.mb h).arg 4 4 = base →
       (tx.restore.waiting = false → Completes (.imageRecover h opens sig []) s fun t => MailFrame s t ∧ Completed s t h 1 []) ∧
       (tx.restore.waiting = true → base % 0x1000 ≠ 0 → Completes (.imageRecover h opens sig []) s fun t =>
         MailFrame s t ∧ Completed s t h 6 []) ∧
       (tx.restore.waiting = true → base % 0x1000 = 0 → base < pushSize → tx.restore.source = 4 →
         s.memctl.channelUp = BitVec.allOnes 8 →
         let p := windowPush s base
         (p.headerOk = true → base + pushLen p.manifest ≤ pushSize) → Completes (.imageRecover h opens sig []) s fun t =>
           Completed s t h 0 (tileAnswer t x) ∧
           (p.headerOk = false → bitOf (t.tile x).restore.tried 3 = true ∧ (t.tile x).restore.lastCause = 1 ∧
             Logged s t (x.val * 14 + 2)) ∧ OnlyTile x s t)) ∧
  (∀ (s : State) (x : TileId) (p : Bool) (st : BitVec 8) (a b : WriteResult), a.ok = true → b.ok = true → (s.tile x).restore.writing = some (p, st) → writesRun s x = true →
     portFree s x false .update = true → portFree s x true .update = true → mainUp (s.tile x) = true → Completes (.restoreFlashWriteDone x a b) s fun t =>
       t.tile x = { s.tile x with
         eave := { (s.tile x).eave with
           writeErrors := min 0xFF ((s.tile x).eave.writeErrors + a.differed + if twinUp (s.tile x) then b.differed else 0)
           mainFailed := none, twinFailed := if twinUp (s.tile x) then none else (s.tile x).eave.twinFailed }
         restore := { (s.tile x).restore with writing := none }
         update := { (s.tile x).update with selected := p, switches := (s.tile x).update.switches ++
           [{ partition := p, state := st, digest := (s.tile x).force.digest }] } } ∧ OnlyTile x s t ∧ Only [.tiles] s t)

/-- Golden copies, anti-rollback, formats and OPEN erases (R201, R222, R224, R235, R431): what each command stores or burns,
and the arguments it turns away. The model's choices it rests on are in log entries 26, 43. It says of each of these that it
completes, with its own effect: .imageGolden, .goldenPurlinWriteDone, .imageSvnCommit, .imageFormat, .imageFormatDone,
.imageOpenErase. -/
def Obligations.GoldenSvnFormatAndOpenErase : Prop :=
  ∀ (s : State) (h : LdId) (x : TileId),
    let tx := s.tile x
    let len := pushLen tx.force.manifest
    (OwnerTile s h x (0x306 * 256) 12 →
      (tx.ctl.state = .run → tx.verify.phase = 8 → tx.update.trial = none →
        ((s.mb h).arg 4 4 = 1 → granulesFor len ≤ poolFree s + tx.mem.goldGranules → s.memctl.channelUp = BitVec.allOnes 8 →
          Completes (.imageGolden h) s fun t =>
          (t.tile x).restore.golden = goldenContent tx ∧ (t.tile x).restore.goldenU = true ∧ (t.tile x).ctl = tx.ctl ∧
          (t.tile x).mem.copy = tx.mem.copy ∧ OnlyTile x s t ∧ Only [.tiles, .mail] s t ∧
          Completed s t h 0 (tileAnswer t x)) ∧
        ((s.mb h).arg 4 4 = 2 → tx.restore.goldenBusy = false → goldenBaseOk s x ((s.mb h).arg 8 4) len = true →
          s.purlin.state = 1 → s.memctl.channelUp = BitVec.allOnes 8 →
          Completes (.imageGolden h) s fun t => (t.tile x).restore.goldenBusy = true ∧
            (t.tile x).restore.goldenPend = goldenContent tx ∧ (t.tile x).restore.goldenBase = (s.mb h).arg 8 4 ∧
            (∀ a, Sparse.get 0xFF t.purlin.contents a = if goldenSector x ≤ a ∧ a < goldenSector x + 0x1000 then 0xFF
              else Sparse.get 0xFF s.purlin.contents a) ∧ Only [.tiles, .purlin, .mail] s t ∧
            Completed s t h 0 (tileAnswer t x))) ∧
      ((s.mb h).arg 4 4 = 1 → tx.ctl.state ≠ .run → Completes (.imageGolden h) s fun t =>
        MailFrame s t ∧ Completed s t h 1 []) ∧
      ((s.mb h).arg 4 4 = 0 ∨ 4 ≤ (s.mb h).arg 4 4 → Completes (.imageGolden h) s fun t =>
        MailFrame s t ∧ Completed s t h 6 [])) ∧
    (tx.restore.goldenBusy = true → Canonical s →
      (s.purlin.state = 1 → goldenSector x + 0x1000 ≤ tx.restore.goldenBase →
        Completes (.goldenPurlinWriteDone x true) s fun t => (t.tile x).restore.goldenBusy = false ∧
          Memory.read 0xFF t.purlin.contents tx.restore.goldenBase tx.restore.goldenPend.length = tx.restore.goldenPend ∧
          Memory.read 0xFF t.purlin.contents (goldenSector x) 0x20 =
            goldenRecord tx.restore.goldenBase tx.restore.goldenPend ∧
          (∀ u, u ≠ x → t.tile u = s.tile u) ∧ Only [.tiles, .purlin] s t) ∧
      Completes (.goldenPurlinWriteDone x false) s fun t => (t.tile x).restore.goldenBusy = false ∧ t.purlin.state = 2 ∧
        t.purlin.contents = s.purlin.contents ∧ Logged s t 507 ∧ Only [.tiles, .purlin, .events] s t) ∧
    (∀ n, OwnerTile s h x (0x307 * 256) 8 → s.gmode.mode ≠ .trial → s.otp.overrides = false → svnCount s x.val = n →
      tx.force.manifest ≠ [] → tx.ctl.switchPending = false → tx.update.trial = none →
      ((s.mb h).arg 4 4 ≤ n → (s.mb h).arg 4 4 ≤ mfSvn tx.force.manifest → (s.mb h).arg 4 4 ≤ 64 →
        Completes (.imageSvnCommit h []) s fun t => MailFrame s t ∧
          Completed s t h (if otpBusy s h then 1 else 0) (tileAnswer t x)) ∧
      (mfSvn tx.force.manifest < (s.mb h).arg 4 4 → Completes (.imageSvnCommit h []) s fun t =>
        MailFrame s t ∧ Completed s t h 6 []) ∧
      (n < 32 → (s.mb h).arg 4 4 = n + 1 → n + 1 ≤ mfSvn tx.force.manifest → otpBusy s h = false →
        let row := 256 + 2 * x.val
        otpNormal s row = shadowRow s row → BurnReady s row (otpNormal s row ||| (1#32 <<< n)) → Canonical s →
        Completes (.imageSvnCommit h []) s fun t => svnCount t x.val = n + 1 ∧
          otpStrict t row = otpNormal s row ||| (1#32 <<< n) ∧
          (∀ q, q ≠ row → otpNormal t q = otpNormal s q ∧ shadowRow t q = shadowRow s q) ∧ Logged s t 466 ∧
          Only [.otp, .ridge, .events, .mail] s t ∧ Completed s t h 0 (tileAnswer t x))) ∧
    (OwnerTile s h x (0x308 * 256) 12 → tx.ctl.stage = false →
      (∀ base len, (s.mb h).arg 4 4 = base → (s.mb h).arg 8 4 = len → tx.ctl.state = .off → base + len ≤ pushSize →
        tx.eave.format = none → poisonIn s 32 base 256 = false → headerOk (Memory.read 0xFF s.memctl.push base 256) = true →
        flashEnd (mfLayout (Memory.read 0xFF s.memctl.push base 256)) = len → fitsFlash tx len = true →
        Completes (.imageFormat h) s fun t => t.tile x = { tx with eave := { tx.eave with format := some (base, len) } } ∧
          OnlyTile x s t ∧ Only [.tiles, .mail] s t ∧ Completed s t h 0 (tileAnswer t x)) ∧
      (tx.ctl.state ≠ .off → Completes (.imageFormat h) s fun t => MailFrame s t ∧ Completed s t h 6 [])) ∧
    (∀ base len, tx.eave.format = some (base, len) →
      let bytes := Memory.read 0xFF s.memctl.push base len
      let good : List (Option (List Byte)) := [some bytes]
      Completes (.imageFormatDone x good good) s fun t =>
        t.tile x = { tx with eave := (t.tile x).eave } ∧ (t.tile x).eave = { tx.eave with
          format := none, writeErrors := (t.tile x).eave.writeErrors, mainFailed := (t.tile x).eave.mainFailed
          twinFailed := (t.tile x).eave.twinFailed } ∧
        (tx.eave.writeErrors ≤ 0xFF → (t.tile x).eave.writeErrors = tx.eave.writeErrors) ∧ t.resp = { data := bytes, code := 0 } ∧
        Logged s t (x.val * 14 + 5) ∧ (∀ u, u ≠ x → t.tile u = s.tile u) ∧ Only [.tiles, .events, .resp] s t) ∧
    (∀ i off n, OwnerTile s h x (0x309 * 256) 16 → (s.mb h).zero 5 3 = true → (s.mb h).arg 4 1 = i →
      (s.mb h).arg 8 4 = off → (s.mb h).arg 12 4 = n → tx.ctl.state.released = true → i < mfRegionCount tx.force.manifest →
      let r := mfRegion tx.force.manifest i
      (r.isOpen = true → off % 0x1000 = 0 → n % 0x1000 = 0 → 0 < n → off + n ≤ r.len →
        (mainUp tx = true ∨ twinUp tx = true) → alignDenied tx r (r.src + off) n = false → tx.filter.queue.length < 64 →
        Completes (.imageOpenErase h) s fun t =>
          (∀ p, Sparse.get 0xFF (t.tile x).mem.opens p =
            if r.src + off ≤ p ∧ p < r.src + off + n then 0xFF else Sparse.get 0xFF tx.mem.opens p) ∧
          (t.tile x).mem = { tx.mem with opens := (t.tile x).mem.opens } ∧ (t.tile x).filter.wip = true ∧
          (t.tile x).filter.queue = tx.filter.queue ++
            [{ size := n, parts := [(r.src + off, n)], data := [], mainDone := false, tries := 0 }] ∧
          (t.tile x).ctl = tx.ctl ∧ OnlyTile x s t ∧ Only [.tiles, .mail] s t ∧ Completed s t h 0 (tileAnswer t x)) ∧
      (r.isOpen = false → Completes (.imageOpenErase h) s fun t => MailFrame s t ∧ Completed s t h 6 []))

/-! ### Registers and doorbells (R14, R397, R416 to R418, R461 to R463, R477, R506 to R516) -/

/-- The doorbell (R417, R418, R421): rung while busy it only sets ring_ignored; else the command is held busy at the
responder, or completes at once where its header fails, and waits where the responder takes no command (R39, R423). A command
newly rung has not waited behind an OTP operation (R328). A write into a busy mailbox's header or payload only sets
write_ignored. Event latches and vectors of a function (R462, R463, R484): writing ones clears those latches; unmasking a
vector with a pending message sends it against a posted credit, and without one it waits; while the function's MSI-X as a
whole is masked it stays pending. The MSI-X control in configuration space turns that mask. The model's choices it rests on
are in log entry 54. It says of each of these that it completes, with its own effect: .doorbellWhileBusy, .doorbell,
.mailboxWriteWhileBusy, .evtPendClear, .msixUnmask, .registerWrite. -/
def Obligations.DoorbellsLatchesAndVectors : Prop :=
  (∀ (s : State) (h : LdId),
     let m := s.mb h
     let rung := fun t : State => t.otp = { s.otp with behind := s.otp.behind.filter (· ≠ h) } ∧ Only [.otp, .mail] s t
     (m.busy = true → ∀ c ∈ [Instr.doorbell h, .doorbellWhileBusy h], Completes c s fun t =>
       t.mb h = { m with ringIgnored := true } ∧ (∀ u, u ≠ h → t.mb u = s.mb u) ∧ t.responder = s.responder ∧
       Only [.mail] s t) ∧
     (m.busy = false → Completes (.doorbellWhileBusy h) s fun t => t = s) ∧
     (m.busy = false → answer s m.opcode.toNat = .take →
       (headerStatus m = 0 → knownOpcode m.opcode.toNat = true → s.responder = [] → Completes (.doorbell h) s fun t =>
         t.mb h = { m with go := true, busy := true } ∧ (∀ u, u ≠ h → t.mb u = s.mb u) ∧ t.responder = [h] ∧
         rung t) ∧
       (headerStatus m ≠ 0 → h ∉ s.responder → Completes (.doorbell h) s fun t =>
         Completed s t h (headerStatus m) [] ∧ rung t)) ∧
     (m.busy = false → answer s m.opcode.toNat = .hold → Completes (.doorbell h) s fun t =>
       t.mb h = { m with go := true, busy := true } ∧ (∀ u, u ≠ h → t.mb u = s.mb u) ∧ t.responder = s.responder ++ [h] ∧
       rung t) ∧
     ∀ off data, m.busy = true → data ≠ [] → (off < 0x10 ∨ (0x1000 ≤ off ∧ off < 0x3000)) →
       Completes (.mailboxWriteWhileBusy h off data) s fun t =>
         t.mb h = { m with writeIgnored := true } ∧ (∀ u, u ≠ h → t.mb u = s.mb u) ∧ Only [.mail] s t) ∧
  (∀ (s : State) (f : LdId),
     let e := s.fn f
     (∀ (word : Fin 16) (mask : Word), Completes (.evtPendClear f word mask) s fun t =>
       (∀ src, (t.fn f).pend.getLsbD src =
         (e.pend.getLsbD src && !(decide (src / 32 = word.val) && mask.getLsbD (src % 32)))) ∧
       t.fn f = { e with pend := (t.fn f).pend } ∧ (∀ g, g ≠ f → t.fn g = s.fn g) ∧ t.host = s.host ∧
       Only [.events] s t) ∧
     ∀ v : Fin 64,
       let open_ := { e with vecMask := putBit e.vecMask v.val false, pending := putBit e.pending v.val false }
       let msg := e.pending.getLsbD v.val && !e.msixHeld
       (msg = false → Completes (.msixUnmask f v) s fun t => t.fn f = { e with vecMask := putBit e.vecMask v.val false } ∧
         (∀ g, g ≠ f → t.fn g = s.fn g) ∧ t.host = s.host ∧ Only [.events] s t) ∧
       (∀ b : Byte, e.pending = 0 → Completes (.registerWrite f (configBase + 0x43) [some b]) s fun t =>
         t.fn f = { e with msixOn := b.getLsbD 7, msixMask := b.getLsbD 6 } ∧ (∀ g, g ≠ f → t.fn g = s.fn g) ∧ t.host = s.host ∧
         Only [.events] s t) ∧
       (msg = true → (s.host.heads[headOf s f]).credit = true → Completes (.msixUnmask f v) s fun t =>
         t.fn f = { open_ with sent := e.sent ++ [(v.val, Sparse.get 0 e.msgAddr v.val)] } ∧
         t.host.heads[headOf s f] = (s.host.heads[headOf s f]).spend f ∧ (∀ g, g ≠ f → t.fn g = s.fn g) ∧
         Only [.events] s t) ∧
       (msg = true → (s.host.heads[headOf s f]).credit = false → v.val ∉ e.waiting → Completes (.msixUnmask f v) s fun t =>
         t.fn f = { open_ with waiting := e.waiting ++ [v.val] } ∧ (∀ g, g ≠ f → t.fn g = s.fn g) ∧ t.host = s.host ∧
         Only [.events] s t))

/-- Reads of BAR0 (R13, R14, R477, R507, R510): a word is read as it stands, its RC fields then clear where the read covers
them; a LO read captures the HI word; configuration space shows the function's identity, BARs and MSI-X capability; what lies
past the block or is not mapped reads zero and is noted. Writes of BAR0 (R12, R397, R416, R461, R506, R508, R510, R513):
global, tile, pending-bit and ridge blocks ignore them but for G_ACCESS_STAT, and G_PURLIN_CFG, which only the Loft writes;
the own mailbox stores bytes and fill and rings, the event window clears latches and selects a quarter, the MSI-X table takes
its masks; an address not mapped is noted. The model's choices it rests on are in log entries 10, 58. It says of each of these
that it completes, with its own effect: .rcRead, .gutterLoRead, .barAccessOverrun, .registerWrite. -/
def Obligations.BarReadsAndWrites : Prop :=
  (∀ (s : State) (f : LdId),
     (Completes (.rcRead f 0x064 4) s fun t => t.resp = { data := bytesOf 4 (gMemErr s), code := 0 } ∧
       t.memctl = { s.memctl with corrected := 0, uncorrU := 0, uncorrS := 0 } ∧ Only [.memctl, .resp] s t) ∧
     (Completes (.rcRead f 0x064 2) s fun t => t.resp = { data := (bytesOf 4 (gMemErr s)).take 2, code := 0 } ∧
       t.memctl = { s.memctl with corrected := 0 } ∧ Only [.memctl, .resp] s t) ∧
     (∀ x : TileId, fusedOff s x = false → Completes (.rcRead f (0x100000 + 0x1000 * x.val + 0xA4) 4) s fun t =>
       t.resp = { data := bytesOf 4 (tileWord s x 0x29), code := 0 } ∧
       t.tile x = { s.tile x with filter := { (s.tile x).filter with denyCount := 0, frameBad := 0, busyIgn := 0, noWel := 0 } } ∧
       (∀ u, u ≠ x → t.tile u = s.tile u) ∧ Only [.tiles, .resp] s t) ∧
     (∀ which : Fin 3, Completes (.gutterLoRead f which) s fun t =>
       t.resp = { data := bytesOf 4 (Rows.seqWord (gutterSeq s which) false), code := 0 } ∧
       (t.fn f).captured which = some (Rows.seqWord (gutterSeq s which) true) ∧
       t.fn f = (s.fn f).capture which (some (Rows.seqWord (gutterSeq s which) true)) ∧
       (∀ g, g ≠ f → t.fn g = s.fn g) ∧ t.host = s.host ∧ Only [.events, .resp] s t) ∧
     (∀ k < 1024, Completes (.rcRead f (configBase + 4 * k) 4) s fun t =>
       t = { s with resp := { data := bytesOf 4 (configWord (s.fn f) (4 * k)), code := 0 } }) ∧
     (∀ a n, blockAt f a = none → Completes (.barAccessOverrun f a n) s fun t =>
       t.resp = { data := List.replicate n 0, code := 0 } ∧
       t.fn f = { s.fn f with unmapped := true, overruns := satInc 0xFFFF (s.fn f).overruns } ∧
       (∀ g, g ≠ f → t.fn g = s.fn g) ∧ t.host = s.host ∧ Only [.events, .resp] s t) ∧
     ∀ a n b base size, blockAt f a = some (b, base, size) → base + size < a + n → b = .ridge ∨ b = .mailbox →
       Completes (.barAccessOverrun f a n) s fun t => t.resp.data.length = n ∧
         (∀ k, base + size ≤ a + k → t.resp.data.getD k 0 = 0) ∧ t.mbs = s.mbs ∧ t.ridge = s.ridge ∧
         t.fn f = { s.fn f with addrOver := true, overruns := satInc 0xFFFF (s.fn f).overruns } ∧
         (∀ g, g ≠ f → t.fn g = s.fn g) ∧ t.host = s.host ∧ Only [.events, .resp] s t) ∧
  (∀ (s : State) (f : LdId),
     (∀ b : Byte, Completes (.registerWrite none 0x74 [some b]) s fun t =>
       t = { s with purlin := { s.purlin with cfg := b.setWidth 4 } }) ∧
     (∀ a bytes, a + bytes.length ≤ 0x74 ∨ 0x75 ≤ a → Completes (.registerWrite none a bytes) s fun t => t = s) ∧
     (∀ a bytes, a + bytes.length ≤ 0xA0 ∨ (0xA1 ≤ a ∧ a + bytes.length ≤ 0x120000 ∧ (a < 0x100000 → a + bytes.length ≤ 0x100000) ∧
         (0x100000 ≤ a → a / 0x1000 = (a + bytes.length - 1) / 0x1000)) ∨ (0x500000 ≤ a ∧ a + bytes.length ≤ 0x505000) →
       bytes ≠ [] → Completes (.registerWrite f a bytes) s fun t => t = s) ∧
     (∀ off data, (s.mb f).busy = false → off + data.length ≤ 0x2000 → data ≠ [] → Canonical s →
       Completes (.registerWrite f (0x201000 + 0x4000 * f.val + off) (data.map some)) s fun t =>
         (∀ p, Sparse.get 0 (t.mb f).payload p =
           if off ≤ p ∧ p < off + data.length then data.getD (p - off) 0 else Sparse.get 0 (s.mb f).payload p) ∧
         t.mb f = { s.mb f with payload := (t.mb f).payload, fill := max (s.mb f).fill (off + data.length) } ∧
         (∀ u, u ≠ f → t.mb u = s.mb u) ∧ Only [.mail] s t) ∧
     (∀ b : Byte, b.getLsbD 0 = true →
       exec (.registerWrite f (0x200010 + 0x4000 * f.val) [some b]) s = exec (.doorbell f) s) ∧
     (∀ off data, (s.mb f).busy = true → off + data.length ≤ 0x2000 → data ≠ [] →
       Completes (.registerWrite f (0x201000 + 0x4000 * f.val + off) (data.map some)) s fun t =>
         t.mb f = { s.mb f with writeIgnored := true } ∧ (∀ u, u ≠ f → t.mb u = s.mb u) ∧ Only [.mail] s t) ∧
     (∀ b : Byte, Completes (.registerWrite f 0x300044 [some b]) s fun t =>
       t.fn f = { s.fn f with quarter := b.setWidth 2 } ∧ (∀ g, g ≠ f → t.fn g = s.fn g) ∧ Only [.events] s t) ∧
     (∀ (v : Fin 64) (b : Byte), b.getLsbD 0 = true →
       Completes (.registerWrite f (0x40000C + 16 * v.val) [some b]) s fun t =>
         t.fn f = { s.fn f with vecMask := putBit (s.fn f).vecMask v.val true } ∧ (∀ g, g ≠ f → t.fn g = s.fn g) ∧
         Only [.events] s t) ∧
     (Completes (.registerWrite f 0xA0 [some 7]) s fun t =>
       t.fn f = { s.fn f with addrOver := false, unmapped := false } ∧ t.mb f = { s.mb f with writeIgnored := false } ∧
       (∀ g, g ≠ f → t.fn g = s.fn g ∧ t.mb g = s.mb g) ∧ Only [.mail, .events] s t) ∧
     (∀ a bytes, blockAt f a = none → Completes (.registerWrite f a bytes) s fun t =>
       t.fn f = { s.fn f with unmapped := true, overruns := satInc 0xFFFF (s.fn f).overruns } ∧
       (∀ g, g ≠ f → t.fn g = s.fn g) ∧ Only [.events] s t))

/-! ### The host port (R395 to R414, R483, R484) -/

/-- Heads and logical devices (R395, R405, R410, R411, R413): a link comes up where the head can train to it and enables its
logical device, and what waited goes out as the host returns credits; one that goes down, by any cause, resets the logical
devices it carries and nothing of the others; a reset of one function resets that one and leaves the head up, its decoders
kept by a function-level reset alone. The model's choices it rests on are in log entries 54, 55. It says of each of these that
it completes, with its own effect: .linkUp, .linkDown, .ideCheckFail, .functionLevelReset, .cxlReset, .hostCreditsReturned. -/
def Obligations.HeadsAndLogicalDevices : Prop :=
  ∀ s : State,
    (∀ (k : HeadId) rate width flit posted drs ndr, (s.host.heads[k]).up = false →
      (linkOk s k rate width flit = false → ∀ mld, Completes (.linkUp k rate width flit mld posted drs ndr) s fun t => t = s) ∧
      (linkOk s k rate width flit = true → Completes (.linkUp k rate width flit false posted drs ndr) s fun t =>
        let own : LdId := if s.host.bifur = 0 then 0 else Fin.ofNat 16 k.val
        t.host.heads[k] = { s.host.heads[k] with
          up := true, rate := rate, width := width, flit256 := flit, posted := posted, drs := drs, ndr := ndr } ∧
        (∀ j : HeadId, j ≠ k → t.host.heads[j] = s.host.heads[j]) ∧ (t.ld own).enabled = true ∧ t.host.mld = false ∧
        (∀ f, f ≠ own → t.ld f = (if s.host.bifur = 0 then { s.ld f with enabled := false } else s.ld f)) ∧
        Only [.host] s t)) ∧
    (s.gmode.mode ∈ [DevMode.serve, .doze, .barren, .trial, .lockdown] → (∀ x : TileId, (s.tile x).switching = none) →
      (∀ (k : HeadId) (reason : Fin 3), (s.host.heads[k]).up = true → Completes (.linkDown k reason) s fun t =>
        (t.host.heads[k]).up = false ∧ (t.host.heads[k]).reason = BitVec.ofNat 3 reason.val ∧
        (t.host.heads[k]).downs = satInc 0xFF (s.host.heads[k]).downs ∧ LdsReset (ldsOf s k) s t) ∧
      (∀ k : HeadId, (s.host.heads[k]).up = true → ideActive s k = true → Completes (.ideCheckFail k) s fun t =>
        (t.host.heads[k]).up = false ∧ (t.host.heads[k]).ioPipe = [] ∧ (t.host.heads[k]).memPipe = [] ∧
        (t.host.heads[k]).reason = 5 ∧ LdsReset (ldsOf s k) s t) ∧
      ∀ f : LdId, (s.ld f).enabled = true → (s.host.heads[headOf s f]).up = true →
        Completes (.functionLevelReset f) s (fun t => LdsReset [f] s t ∧ (t.ld f).decoders = (s.ld f).decoders ∧
          (t.ld f).enabled = true ∧ (t.host.heads[headOf s f]).up = true ∧ (t.host.heads[headOf s f]).reason = 3) ∧
        Completes (.cxlReset f) s fun t => LdsReset [f] s t ∧ (t.ld f).decoders = Ld.reset.decoders ∧
          (t.ld f).enabled = true ∧ (t.host.heads[headOf s f]).up = true ∧ (t.host.heads[headOf s f]).reason = 4) ∧
    (∀ (k : HeadId) n drs ndr, (s.host.heads[k]).up = true → (∀ f, headOf s f = k → (s.fn f).waiting = []) →
      (s.host.heads[k]).drsHeld = [] → (s.host.heads[k]).ndrHeld = [] → Completes (.hostCreditsReturned k n drs ndr) s fun t =>
        t.host.heads[k] = { s.host.heads[k] with
          posted := (s.host.heads[k]).posted.map (· + n), drs := (s.host.heads[k]).drs.map (· + drs)
          ndr := (s.host.heads[k]).ndr.map (· + ndr) } ∧
        (∀ j : HeadId, j ≠ k → t.host.heads[j] = s.host.heads[j]) ∧ t.fns = s.fns ∧ Only [.host] s t) ∧
    (∀ (k : HeadId) r rest, (s.host.heads[k]).up = true → (∀ f, headOf s f = k → (s.fn f).waiting = []) →
      (s.host.heads[k]).drs = some 0 → (s.host.heads[k]).drsHeld = r :: rest → (s.host.heads[k]).ndrHeld = [] →
      Completes (.hostCreditsReturned k 0 1 0) s fun t =>
        t.host.heads[k] = { s.host.heads[k] with drsHeld := rest } ∧ t.resp = { data := r.data, code := r.code } ∧
        (∀ j : HeadId, j ≠ k → t.host.heads[j] = s.host.heads[j]) ∧ t.fns = s.fns ∧ Only [.host, .resp] s t) ∧
    ∀ (f : LdId) (v : Nat), (s.host.heads[headOf s f]).up = true → (s.host.heads[headOf s f]).posted = some 0 →
      (s.fn f).waiting = [v] → (∀ g, g ≠ f → (s.fn g).waiting = []) →
      (s.host.heads[headOf s f]).drsHeld = [] → (s.host.heads[headOf s f]).ndrHeld = [] →
      Completes (.hostCreditsReturned (headOf s f) 1 0 0) s fun t => (t.host.heads[headOf s f]).posted = some 0 ∧ (t.host.heads[headOf s f]).turn = f + 1 ∧
        t.fn f = { s.fn f with waiting := [], sent := (s.fn f).sent ++ [(v, Sparse.get 0 (s.fn f).msgAddr v)] } ∧
        (∀ g, g ≠ f → t.fn g = s.fn g) ∧ Only [.host, .events] s t

/-- CXL.mem and HDM decoders (R402 to R404, R444, R448, R452, R453, R480, R483, R485): a host address reaches a place through
a committed decoder; reads return the bytes the access rules show, or poison, or wait for a suspect block, a channel in
training or a response slot; a response goes out against an S2M credit or waits for one; a write of the owner into a window it
may write is stored and takes its tokens, any other is discarded, and one the bucket has no tokens for waits; a decoder is
committed or refused. What an address of no decoder reads as is the model's choice (log entry 9). The model's choices it rests
on are in log entries 18, 56, 61. It says of each of these that it completes, with its own effect: .cxlMemRead, .cxlMemWrite,
.hdmDecoderCommit. -/
def Obligations.CxlMemoryAccess : Prop :=
  ∀ (s : State) (f : LdId), offersMem s = true →
    let h := headOf s f
    let awake := { s.memctl with selfRefresh := false, memTick := some s.attic.tick }
    let answered := fun (u : State) (data : List Byte) (code : Nat) =>
      { u.modHead h (fun x => { x with drs := x.drs.map (· - 1) }) with resp := { data := data, code := code } }
    let others := fun t : State => ∀ j : HeadId, j ≠ h → t.host.heads[j] = s.host.heads[j]
    (∀ hpa fault, s2mFull s h true = true → Completes (.cxlMemRead f hpa fault) s fun t =>
      t = { s with resp := { data := [], code := 3 } }) ∧
    (s2mFull s h true = false → s.host.heads[h].drsHeld = [] → s.host.heads[h].drs ≠ some 0 →
      (∀ hpa fault, decodeHpa s f (hpa / 64 * 64) = none → Completes (.cxlMemRead f hpa fault) s fun t =>
        t = answered s (List.replicate 64 0xFF) 0) ∧
      ∀ hpa d, decodeHpa s f (hpa / 64 * 64) = some d →
        (∀ fault, memWaits s f d = true → Completes (.cxlMemRead f hpa fault) s fun t =>
          t = { s with resp := { data := [], code := 3 } }) ∧
        (∀ fault, memPlace s f d = none → Completes (.cxlMemRead f hpa fault) s fun t => t = answered s (memRead s f d 64) 0) ∧
        (memWaits s f d = false → memPlace s f d ≠ none →
          (∀ l, memDown s f d = some l → Completes (.cxlMemRead f hpa none) s fun t => t.resp = { data := [], code := 2 }) ∧
          (memDown s f d = none → Completes (.cxlMemRead f hpa none) s fun t => t = answered { s with memctl := awake }
            (if windowPoison s d then [] else memRead s f d 64) (if windowPoison s d then 2 else 0)) ∧
          ∀ (x : TileId) o (l : LineFault), d = 0x10000000 * x.val + o → o < 0x10000000 → l.symbols = 0 → l.sram = false →
            l.contents = 11 → l.tile = 32 → s.host.poison = [] → Completes (.cxlMemRead f hpa (some l)) s fun t =>
              t.resp = { data := [], code := 2 } ∧ t.host.poison = [d] ∧
              t.memctl.uncorrU = satInc 0xFF s.memctl.uncorrU ∧ Logged s t 481 ∧
              Only [.memctl, .host, .events, .freeCtr, .resp] s t)) ∧
    (∀ hpa d, s.host.heads[h].drs = some 0 → s2mFull s h true = false → decodeHpa s f (hpa / 64 * 64) = some d →
      memWaits s f d = false → memPlace s f d ≠ none → memDown s f d = none → windowPoison s d = false →
      Completes (.cxlMemRead f hpa none) s fun t => t.resp = { data := [], code := 4 } ∧
        t.host.heads[h] = { s.host.heads[h] with
          drsHeld := s.host.heads[h].drsHeld ++ [{ data := memRead s f d 64, code := 0 }] } ∧ others t ∧
        Only [.memctl, .host, .resp] s t) ∧
    (∀ hpa gap data, s2mFull s h false = true → Completes (.cxlMemWrite f hpa gap data) s fun t =>
      t = { s with resp := { data := [], code := 3 } }) ∧
    (s2mFull s h false = false → s.host.heads[h].ndrHeld = [] → s.host.heads[h].ndr ≠ some 0 → ∀ hpa gap data,
      let bytes : List (Option Byte) := data.map some
      (decodeHpa s f hpa = none → Completes (.cxlMemWrite f hpa gap bytes) s fun t => t.resp = { data := [], code := 0 } ∧
        t.tiles = s.tiles ∧ Only [.host, .resp] s t) ∧
      ∀ d, decodeHpa s f hpa = some d →
        (windowRange (dpaRange d) = true → windowTokens s gap < data.length →
          Completes (.cxlMemWrite f hpa gap bytes) s fun t => t = { s with resp := { data := [], code := 3 } }) ∧
        (∀ (x : TileId) o, d = 0x400000000 + 0x20000000 * x.val + o → data ≠ [] → o + data.length ≤ stagingSize →
          data.length ≤ windowTokens s gap → Canonical s →
          (isOwner s f = true → hostOwned (s.tile x) = true →
            ((granulesOf o data.length).filter (· ∉ (s.tile x).mem.granules)).length ≤ poolFree s →
            Completes (.cxlMemWrite f hpa gap bytes) s fun t =>
              t.resp = { data := [], code := 0 } ∧
              (∀ p, Sparse.get 0xFF (t.tile x).mem.staging p =
                if o ≤ p ∧ p < o + data.length then data.getD (p - o) 0 else Sparse.get 0xFF (s.tile x).mem.staging p) ∧
              (t.tile x).ctl = (s.tile x).ctl ∧ (∀ u, u ≠ x → t.tile u = s.tile u) ∧ t.gmode = wokenMode s ∧
              t.host = { s.host with heads := t.host.heads, tokens := windowTokens s gap - data.length } ∧
              Only [.gmode, .boot, .attic, .memctl, .tiles, .host, .events, .freeCtr, .resp] s t) ∧
          (isOwner s f = false → Completes (.cxlMemWrite f hpa gap bytes) s fun t =>
            t.resp = { data := [], code := 0 } ∧ t.tiles = s.tiles ∧ Only [.memctl, .host, .events, .resp] s t)) ∧
        (∀ o, d = 0x200000000 + o → data ≠ [] → o + data.length ≤ pushSize → data.length ≤ windowTokens s gap → Canonical s →
          (isOwner s f = true → Completes (.cxlMemWrite f hpa gap bytes) s fun t =>
            t.resp = { data := [], code := 0 } ∧ (∀ p, Sparse.get 0xFF t.memctl.push p =
              if o ≤ p ∧ p < o + data.length then data.getD (p - o) 0 else Sparse.get 0xFF s.memctl.push p) ∧
            t.host = { s.host with heads := t.host.heads, tokens := windowTokens s gap - data.length } ∧
            Only [.memctl, .host, .events, .freeCtr, .resp] s t) ∧
          (isOwner s f = false → (s.ld f).denyTick = none → Completes (.cxlMemWrite f hpa gap bytes) s fun t =>
            t.resp = { data := [], code := 0 } ∧ t.memctl = awake ∧ Logged s t 510 ∧
            Only [.memctl, .host, .events, .resp] s t)) ∧
        (d < 0x200000000 → Completes (.cxlMemWrite f hpa gap bytes) s fun t =>
          t.resp = { data := [], code := 0 } ∧ t.tiles = s.tiles ∧ t.memctl = awake ∧
          Only [.memctl, .host, .events, .resp] s t)) ∧
    ∀ (i : Fin 4) base size dpa skip lock,
      (∀ j : Fin 4, ((s.ld f).decoders[j]) = none) → 0 < size → base % 0x10000000 = 0 → size % 0x10000000 = 0 →
      (dpa + skip + size ≤ 0x800000000 → Completes (.hdmDecoderCommit f i base size dpa skip 1 lock) s fun t =>
        t.resp = { data := [], code := 0 } ∧
        ((t.ld f).decoders[i]) = some { base := base, size := size, dpa := dpa + skip, lock := lock } ∧
        (∀ j : Fin 4, j ≠ i → ((t.ld f).decoders[j]) = none) ∧ (∀ g, g ≠ f → t.ld g = s.ld g) ∧ Only [.host, .resp] s t) ∧
      (0x800000000 < dpa + skip + size → Completes (.hdmDecoderCommit f i base size dpa skip 1 lock) s fun t =>
        t = { s with resp := { data := [], code := 1 } })

/-- DOE and the fabric manager (R396, R400, R401, R405): a function, and in multi-logical-device operation the FM-owned one,
answers discovery and CDAT reads, hands an SPDM request on and is busy until its response, and answers no other protocol; an
abort discards the request. The FM API is answered in multi-logical-device operation only; an allocation enables that many
logical devices and resets those it removes. The CXL memory device mailbox (R399): identification, the Command Effects Log,
event logs without records, the timestamp, the partition, the poison list of image-view lines, and Unsupported for every other
opcode. The model's choices it rests on are in log entries 9, 57. It says of each of these that it completes, with its own
effect: .doeRequest, .doeAbort, .getLdInfo, .getLdAllocations, .getQosControl, .setQosControl, .getQosStatus,
.setLdAllocations, .identifyMemoryDevice, .getSupportedLogs, .getLog, .getEventRecords, .clearEventRecords, .setTimestamp,
.getTimestamp, .getPartitionInfo, .getPoisonList, .cxlMailboxUnsupported. -/
def Obligations.DoeFabricAndMemoryMailbox : Prop :=
  (∀ s : State,
     (∀ (f : LdId) (data : List Byte), data.length ≤ 4096 →
       ((s.ld f).doeBusy = true → ∀ v ty, Completes (.doeRequest f v ty data) s fun t =>
         t = { s with resp := { data := [], code := 2 } }) ∧
       ((s.ld f).doeBusy = false →
         (Completes (.doeRequest f 0x0001 0 data) s fun t => t = { s with resp := { data := doeDiscovery data, code := 0 } }) ∧
         (Completes (.doeRequest f 0x1E98 2 data) s fun t => t = { s with resp := { data := cdatRead s data, code := 0 } }) ∧
         (Completes (.doeRequest f 0x0001 1 data) s fun t => (t.ld f).doeBusy = true ∧
           (t.ld f).spdm.request = some data ∧ (t.ld f).spdm.locked = false ∧ (t.ld f).spdm.inSession = none ∧ (∀ g, g ≠ f → t.ld g = s.ld g) ∧
           t.resp = { data := [], code := 0 } ∧ Only [.host, .resp] s t) ∧
         (Completes (.doeRequest f 0x1234 7 data) s fun t => t = { s with resp := { data := [], code := 1 } }))) ∧
     (∀ v ty data, s.host.mld = false → Completes (.doeRequest none v ty data) s fun t => t = s) ∧
     (∀ data : List Byte, s.host.mld = true → s.host.fmBusy = false → data.length ≤ 4096 →
       Completes (.doeRequest none 0x0001 1 data) s fun t => t.host.fmBusy = true ∧ t.host.fmSpdm.request = some data ∧
         t.host.lds = s.host.lds ∧ t.resp = { data := [], code := 0 } ∧ Only [.host, .resp] s t) ∧
     (∀ f : LdId, Completes (.doeAbort f) s fun t => (t.ld f).spdm.request = none ∧ (t.ld f).doeBusy = false ∧
       (t.ld f).spdm.sessions = (s.ld f).spdm.sessions ∧ (∀ g, g ≠ f → t.ld g = s.ld g) ∧ Only [.host] s t) ∧
     (∀ n k sizes value, s.host.mld = false → ∀ c ∈ [Instr.getLdInfo, .getLdAllocations, .setLdAllocations n k sizes,
         .getQosControl, .setQosControl value, .getQosStatus],
       Completes c s fun t => t = { s with resp := { data := [], code := 3 } }) ∧
     (s.host.mld = true →
       (Completes .getLdInfo s fun t => t.resp.code = 0 ∧ leAt 0 8 t.resp.data = 0x800000000 ∧ leAt 8 2 t.resp.data = 16 ∧
         Only [.resp] s t) ∧
       (Completes .getLdAllocations s fun t => t = { s with resp := { data := ldAllocations s, code := 0 } }) ∧
       (Completes .getQosControl s fun t => t = { s with resp := { data := s.host.qos, code := 0 } }) ∧
       (∀ value, Completes (.setQosControl value) s fun t =>
         t = { s with host := { s.host with qos := value }, resp := { data := value, code := 0 } }) ∧
       (Completes .getQosStatus s fun t => t.resp.code = 0 ∧ t.resp.data.length = 1 ∧ t.freeCtr = s.freeCtr + 1 ∧
         Only [.freeCtr, .resp] s t) ∧
       (∀ k sizes, 1 ≤ k → k ≤ 16 → sizes = List.replicate k 128 →
         (∀ f : LdId, (s.ld f).enabled = true → f.val < k) → Completes (.setLdAllocations 0 k sizes) s fun t =>
           (∀ f : LdId, t.ld f = { s.ld f with enabled := decide (f.val < k) }) ∧ t.host.ldCount = k ∧
           t.resp = { data := ldAllocations t, code := 0 } ∧ Only [.host, .resp] s t) ∧
       (∀ k sizes, 1 ≤ k → k ≤ 16 → sizes = List.replicate k 128 → s.gmode.mode = .serve →
         (∀ x : TileId, (s.tile x).switching = none) → Completes (.setLdAllocations 0 k sizes) s fun t =>
           (∀ f : LdId, k ≤ f.val → (s.ld f).enabled = true → LdCleared t f ∧ (t.ld f).enabled = false) ∧
           (∀ f : LdId, f.val < k → t.ld f = { s.ld f with enabled := true }) ∧ t.host.ldCount = k ∧ t.resp.code = 0) ∧
       ∀ k sizes, k = 0 ∨ 16 < k → Completes (.setLdAllocations 0 k sizes) s fun t =>
         t = { s with resp := { data := [], code := 2 } })) ∧
  (∀ (s : State) (f : LdId),
     (Completes (.identifyMemoryDevice f) s fun t => t.resp.code = 0 ∧ leAt 16 8 t.resp.data = 128 ∧
       leAt 24 8 t.resp.data = 128 ∧ leAt 32 8 t.resp.data = 0 ∧ leAt 60 3 t.resp.data = 64 ∧ Only [.resp] s t) ∧
     (Completes (.getSupportedLogs f) s fun t => t.resp.code = 0 ∧ leAt 0 2 t.resp.data = 1 ∧
       slice 8 16 t.resp.data = celUuid ∧ leAt 24 4 t.resp.data = celBytes.length ∧ Only [.resp] s t) ∧
     (∀ off len, (off + len ≤ celBytes.length → Completes (.getLog f off len) s fun t =>
         t = { s with resp := { data := slice off len celBytes, code := 0 } }) ∧
       (celBytes.length < off + len → Completes (.getLog f off len) s fun t =>
         t = { s with resp := { data := [], code := 2 } })) ∧
     (∀ log : Fin 4, Completes (.getEventRecords f log) s fun t => t.resp.code = 0 ∧ leAt 20 2 t.resp.data = 0 ∧
       Only [.resp] s t) ∧
     (∀ log : Fin 4, Completes (.clearEventRecords f log []) s (fun t => t = { s with resp := { data := [], code := 0 } }) ∧
       ∀ a l, Completes (.clearEventRecords f log (a :: l)) s fun t => t = { s with resp := { data := [], code := 14 } }) ∧
     (∀ value : BitVec 64, Completes (.setTimestamp f value) s fun t =>
       (t.ld f) = { s.ld f with timestamp := some (value.toNat, s.attic.tick) } ∧ (∀ g, g ≠ f → t.ld g = s.ld g) ∧
       t.resp = { data := [], code := 0 } ∧ Only [.host, .resp] s t) ∧
     (∀ value, (s.ld f).timestamp = some (value, s.attic.tick) → value < 2 ^ 64 → Completes (.getTimestamp f) s fun t =>
       t.resp.code = 0 ∧ leAt 0 8 t.resp.data = value ∧ Only [.resp] s t) ∧
     (Completes (.getPartitionInfo f) s fun t => t.resp.code = 0 ∧ leAt 0 8 t.resp.data = 128 ∧
       leAt 8 8 t.resp.data = 0 ∧ Only [.resp] s t) ∧
     (∀ dpa len, Completes (.getPoisonList f dpa len) s fun t =>
       let ls := s.host.poison.filter fun d => decide (dpa ≤ d ∧ d < dpa + 64 * len)
       t.resp.code = 0 ∧ leAt 10 2 t.resp.data = ls.length % 65536 ∧ t.resp.data.length = 32 + 16 * ls.length ∧
       t.freeCtr = s.freeCtr + ls.length ∧ Only [.freeCtr, .resp] s t) ∧
     ∀ op : BitVec 16, (celEntries.any fun e => decide (e.1 = op.toNat)) = false →
       Completes (.cxlMailboxUnsupported f op) s fun t => t = { s with resp := { data := [], code := 3 } })

end
end

