-- ==== Sys2Proof/Laws/State.lean ====
section
/-! SUPPORT. What each update of State changes and leaves: one lemma per field per update, true by unfolding, and the
read of a part after its own update. -/

namespace Sys2Proof.Machine

open Sys2Proof

/-! ### modTile -/

@[simp] theorem State.modTile_pending (s : State) (t : TileId) (f : Tile → Tile) : (s.modTile t f).pending = s.pending := rfl
@[simp] theorem State.modTile_gmode (s : State) (t : TileId) (f : Tile → Tile) : (s.modTile t f).gmode = s.gmode := rfl
@[simp] theorem State.modTile_boot (s : State) (t : TileId) (f : Tile → Tile) : (s.modTile t f).boot = s.boot := rfl
@[simp] theorem State.modTile_loft (s : State) (t : TileId) (f : Tile → Tile) : (s.modTile t f).loft = s.loft := rfl
@[simp] theorem State.modTile_fw (s : State) (t : TileId) (f : Tile → Tile) : (s.modTile t f).fw = s.fw := rfl
@[simp] theorem State.modTile_attic (s : State) (t : TileId) (f : Tile → Tile) : (s.modTile t f).attic = s.attic := rfl
@[simp] theorem State.modTile_cal (s : State) (t : TileId) (f : Tile → Tile) : (s.modTile t f).cal = s.cal := rfl
@[simp] theorem State.modTile_otp (s : State) (t : TileId) (f : Tile → Tile) : (s.modTile t f).otp = s.otp := rfl
@[simp] theorem State.modTile_ridge (s : State) (t : TileId) (f : Tile → Tile) : (s.modTile t f).ridge = s.ridge := rfl
@[simp] theorem State.modTile_keys (s : State) (t : TileId) (f : Tile → Tile) : (s.modTile t f).keys = s.keys := rfl
@[simp] theorem State.modTile_eng (s : State) (t : TileId) (f : Tile → Tile) : (s.modTile t f).eng = s.eng := rfl
@[simp] theorem State.modTile_gutter (s : State) (t : TileId) (f : Tile → Tile) : (s.modTile t f).gutter = s.gutter := rfl
@[simp] theorem State.modTile_fns (s : State) (t : TileId) (f : Tile → Tile) : (s.modTile t f).fns = s.fns := rfl
@[simp] theorem State.modTile_mbs (s : State) (t : TileId) (f : Tile → Tile) : (s.modTile t f).mbs = s.mbs := rfl
@[simp] theorem State.modTile_responder (s : State) (t : TileId) (f : Tile → Tile) :
    (s.modTile t f).responder = s.responder := rfl
@[simp] theorem State.modTile_host (s : State) (t : TileId) (f : Tile → Tile) : (s.modTile t f).host = s.host := rfl
@[simp] theorem State.modTile_purlin (s : State) (t : TileId) (f : Tile → Tile) : (s.modTile t f).purlin = s.purlin := rfl
@[simp] theorem State.modTile_memctl (s : State) (t : TileId) (f : Tile → Tile) : (s.modTile t f).memctl = s.memctl := rfl
@[simp] theorem State.modTile_resp (s : State) (t : TileId) (f : Tile → Tile) : (s.modTile t f).resp = s.resp := rfl
@[simp] theorem State.modTile_freeCtr (s : State) (t : TileId) (f : Tile → Tile) : (s.modTile t f).freeCtr = s.freeCtr := rfl
@[simp] theorem State.modTile_mb (s : State) (t : TileId) (f : Tile → Tile) (x : LdId) : (s.modTile t f).mb x = s.mb x := rfl
@[simp] theorem State.modTile_fn (s : State) (t : TileId) (f : Tile → Tile) (x : LdId) : (s.modTile t f).fn x = s.fn x := rfl
@[simp] theorem State.modTile_ld (s : State) (t : TileId) (f : Tile → Tile) (x : LdId) : (s.modTile t f).ld x = s.ld x := rfl
@[simp] theorem State.modTile_reg (s : State) (t : TileId) (f : Tile → Tile) (x : Fin 320) :
    (s.modTile t f).reg x = s.reg x := rfl
@[simp] theorem State.modTile_slot (s : State) (t : TileId) (f : Tile → Tile) (x : Fin 256) :
    (s.modTile t f).slot x = s.slot x := rfl

/-! ### modMb -/

@[simp] theorem State.modMb_pending (s : State) (h : LdId) (f : Mailbox → Mailbox) : (s.modMb h f).pending = s.pending := rfl
@[simp] theorem State.modMb_gmode (s : State) (h : LdId) (f : Mailbox → Mailbox) : (s.modMb h f).gmode = s.gmode := rfl
@[simp] theorem State.modMb_boot (s : State) (h : LdId) (f : Mailbox → Mailbox) : (s.modMb h f).boot = s.boot := rfl
@[simp] theorem State.modMb_loft (s : State) (h : LdId) (f : Mailbox → Mailbox) : (s.modMb h f).loft = s.loft := rfl
@[simp] theorem State.modMb_fw (s : State) (h : LdId) (f : Mailbox → Mailbox) : (s.modMb h f).fw = s.fw := rfl
@[simp] theorem State.modMb_attic (s : State) (h : LdId) (f : Mailbox → Mailbox) : (s.modMb h f).attic = s.attic := rfl
@[simp] theorem State.modMb_cal (s : State) (h : LdId) (f : Mailbox → Mailbox) : (s.modMb h f).cal = s.cal := rfl
@[simp] theorem State.modMb_otp (s : State) (h : LdId) (f : Mailbox → Mailbox) : (s.modMb h f).otp = s.otp := rfl
@[simp] theorem State.modMb_ridge (s : State) (h : LdId) (f : Mailbox → Mailbox) : (s.modMb h f).ridge = s.ridge := rfl
@[simp] theorem State.modMb_keys (s : State) (h : LdId) (f : Mailbox → Mailbox) : (s.modMb h f).keys = s.keys := rfl
@[simp] theorem State.modMb_eng (s : State) (h : LdId) (f : Mailbox → Mailbox) : (s.modMb h f).eng = s.eng := rfl
@[simp] theorem State.modMb_gutter (s : State) (h : LdId) (f : Mailbox → Mailbox) : (s.modMb h f).gutter = s.gutter := rfl
@[simp] theorem State.modMb_fns (s : State) (h : LdId) (f : Mailbox → Mailbox) : (s.modMb h f).fns = s.fns := rfl
@[simp] theorem State.modMb_responder (s : State) (h : LdId) (f : Mailbox → Mailbox) :
    (s.modMb h f).responder = s.responder := rfl
@[simp] theorem State.modMb_tiles (s : State) (h : LdId) (f : Mailbox → Mailbox) : (s.modMb h f).tiles = s.tiles := rfl
@[simp] theorem State.modMb_host (s : State) (h : LdId) (f : Mailbox → Mailbox) : (s.modMb h f).host = s.host := rfl
@[simp] theorem State.modMb_purlin (s : State) (h : LdId) (f : Mailbox → Mailbox) : (s.modMb h f).purlin = s.purlin := rfl
@[simp] theorem State.modMb_memctl (s : State) (h : LdId) (f : Mailbox → Mailbox) : (s.modMb h f).memctl = s.memctl := rfl
@[simp] theorem State.modMb_resp (s : State) (h : LdId) (f : Mailbox → Mailbox) : (s.modMb h f).resp = s.resp := rfl
@[simp] theorem State.modMb_freeCtr (s : State) (h : LdId) (f : Mailbox → Mailbox) : (s.modMb h f).freeCtr = s.freeCtr := rfl
@[simp] theorem State.modMb_tile (s : State) (h : LdId) (f : Mailbox → Mailbox) (x : TileId) :
    (s.modMb h f).tile x = s.tile x := rfl
@[simp] theorem State.modMb_fn (s : State) (h : LdId) (f : Mailbox → Mailbox) (x : LdId) : (s.modMb h f).fn x = s.fn x := rfl
@[simp] theorem State.modMb_ld (s : State) (h : LdId) (f : Mailbox → Mailbox) (x : LdId) : (s.modMb h f).ld x = s.ld x := rfl
@[simp] theorem State.modMb_reg (s : State) (h : LdId) (f : Mailbox → Mailbox) (x : Fin 320) :
    (s.modMb h f).reg x = s.reg x := rfl
@[simp] theorem State.modMb_slot (s : State) (h : LdId) (f : Mailbox → Mailbox) (x : Fin 256) :
    (s.modMb h f).slot x = s.slot x := rfl

/-! ### modLd -/

@[simp] theorem State.modLd_pending (s : State) (h : LdId) (f : Ld → Ld) : (s.modLd h f).pending = s.pending := rfl
@[simp] theorem State.modLd_gmode (s : State) (h : LdId) (f : Ld → Ld) : (s.modLd h f).gmode = s.gmode := rfl
@[simp] theorem State.modLd_boot (s : State) (h : LdId) (f : Ld → Ld) : (s.modLd h f).boot = s.boot := rfl
@[simp] theorem State.modLd_loft (s : State) (h : LdId) (f : Ld → Ld) : (s.modLd h f).loft = s.loft := rfl
@[simp] theorem State.modLd_fw (s : State) (h : LdId) (f : Ld → Ld) : (s.modLd h f).fw = s.fw := rfl
@[simp] theorem State.modLd_attic (s : State) (h : LdId) (f : Ld → Ld) : (s.modLd h f).attic = s.attic := rfl
@[simp] theorem State.modLd_cal (s : State) (h : LdId) (f : Ld → Ld) : (s.modLd h f).cal = s.cal := rfl
@[simp] theorem State.modLd_otp (s : State) (h : LdId) (f : Ld → Ld) : (s.modLd h f).otp = s.otp := rfl
@[simp] theorem State.modLd_ridge (s : State) (h : LdId) (f : Ld → Ld) : (s.modLd h f).ridge = s.ridge := rfl
@[simp] theorem State.modLd_keys (s : State) (h : LdId) (f : Ld → Ld) : (s.modLd h f).keys = s.keys := rfl
@[simp] theorem State.modLd_eng (s : State) (h : LdId) (f : Ld → Ld) : (s.modLd h f).eng = s.eng := rfl
@[simp] theorem State.modLd_gutter (s : State) (h : LdId) (f : Ld → Ld) : (s.modLd h f).gutter = s.gutter := rfl
@[simp] theorem State.modLd_fns (s : State) (h : LdId) (f : Ld → Ld) : (s.modLd h f).fns = s.fns := rfl
@[simp] theorem State.modLd_mbs (s : State) (h : LdId) (f : Ld → Ld) : (s.modLd h f).mbs = s.mbs := rfl
@[simp] theorem State.modLd_responder (s : State) (h : LdId) (f : Ld → Ld) : (s.modLd h f).responder = s.responder := rfl
@[simp] theorem State.modLd_tiles (s : State) (h : LdId) (f : Ld → Ld) : (s.modLd h f).tiles = s.tiles := rfl
@[simp] theorem State.modLd_purlin (s : State) (h : LdId) (f : Ld → Ld) : (s.modLd h f).purlin = s.purlin := rfl
@[simp] theorem State.modLd_memctl (s : State) (h : LdId) (f : Ld → Ld) : (s.modLd h f).memctl = s.memctl := rfl
@[simp] theorem State.modLd_resp (s : State) (h : LdId) (f : Ld → Ld) : (s.modLd h f).resp = s.resp := rfl
@[simp] theorem State.modLd_freeCtr (s : State) (h : LdId) (f : Ld → Ld) : (s.modLd h f).freeCtr = s.freeCtr := rfl
@[simp] theorem State.modLd_tile (s : State) (h : LdId) (f : Ld → Ld) (x : TileId) : (s.modLd h f).tile x = s.tile x := rfl
@[simp] theorem State.modLd_mb (s : State) (h : LdId) (f : Ld → Ld) (x : LdId) : (s.modLd h f).mb x = s.mb x := rfl
@[simp] theorem State.modLd_fn (s : State) (h : LdId) (f : Ld → Ld) (x : LdId) : (s.modLd h f).fn x = s.fn x := rfl
@[simp] theorem State.modLd_reg (s : State) (h : LdId) (f : Ld → Ld) (x : Fin 320) : (s.modLd h f).reg x = s.reg x := rfl
@[simp] theorem State.modLd_slot (s : State) (h : LdId) (f : Ld → Ld) (x : Fin 256) : (s.modLd h f).slot x = s.slot x := rfl

/-! ### modFn -/

@[simp] theorem State.modFn_pending (s : State) (h : LdId) (f : FnEvents → FnEvents) : (s.modFn h f).pending = s.pending := rfl
@[simp] theorem State.modFn_gmode (s : State) (h : LdId) (f : FnEvents → FnEvents) : (s.modFn h f).gmode = s.gmode := rfl
@[simp] theorem State.modFn_boot (s : State) (h : LdId) (f : FnEvents → FnEvents) : (s.modFn h f).boot = s.boot := rfl
@[simp] theorem State.modFn_loft (s : State) (h : LdId) (f : FnEvents → FnEvents) : (s.modFn h f).loft = s.loft := rfl
@[simp] theorem State.modFn_fw (s : State) (h : LdId) (f : FnEvents → FnEvents) : (s.modFn h f).fw = s.fw := rfl
@[simp] theorem State.modFn_attic (s : State) (h : LdId) (f : FnEvents → FnEvents) : (s.modFn h f).attic = s.attic := rfl
@[simp] theorem State.modFn_cal (s : State) (h : LdId) (f : FnEvents → FnEvents) : (s.modFn h f).cal = s.cal := rfl
@[simp] theorem State.modFn_otp (s : State) (h : LdId) (f : FnEvents → FnEvents) : (s.modFn h f).otp = s.otp := rfl
@[simp] theorem State.modFn_ridge (s : State) (h : LdId) (f : FnEvents → FnEvents) : (s.modFn h f).ridge = s.ridge := rfl
@[simp] theorem State.modFn_keys (s : State) (h : LdId) (f : FnEvents → FnEvents) : (s.modFn h f).keys = s.keys := rfl
@[simp] theorem State.modFn_eng (s : State) (h : LdId) (f : FnEvents → FnEvents) : (s.modFn h f).eng = s.eng := rfl
@[simp] theorem State.modFn_gutter (s : State) (h : LdId) (f : FnEvents → FnEvents) : (s.modFn h f).gutter = s.gutter := rfl
@[simp] theorem State.modFn_mbs (s : State) (h : LdId) (f : FnEvents → FnEvents) : (s.modFn h f).mbs = s.mbs := rfl
@[simp] theorem State.modFn_responder (s : State) (h : LdId) (f : FnEvents → FnEvents) :
    (s.modFn h f).responder = s.responder := rfl
@[simp] theorem State.modFn_tiles (s : State) (h : LdId) (f : FnEvents → FnEvents) : (s.modFn h f).tiles = s.tiles := rfl
@[simp] theorem State.modFn_host (s : State) (h : LdId) (f : FnEvents → FnEvents) : (s.modFn h f).host = s.host := rfl
@[simp] theorem State.modFn_purlin (s : State) (h : LdId) (f : FnEvents → FnEvents) : (s.modFn h f).purlin = s.purlin := rfl
@[simp] theorem State.modFn_memctl (s : State) (h : LdId) (f : FnEvents → FnEvents) : (s.modFn h f).memctl = s.memctl := rfl
@[simp] theorem State.modFn_resp (s : State) (h : LdId) (f : FnEvents → FnEvents) : (s.modFn h f).resp = s.resp := rfl
@[simp] theorem State.modFn_freeCtr (s : State) (h : LdId) (f : FnEvents → FnEvents) : (s.modFn h f).freeCtr = s.freeCtr := rfl
@[simp] theorem State.modFn_tile (s : State) (h : LdId) (f : FnEvents → FnEvents) (x : TileId) :
    (s.modFn h f).tile x = s.tile x := rfl
@[simp] theorem State.modFn_mb (s : State) (h : LdId) (f : FnEvents → FnEvents) (x : LdId) : (s.modFn h f).mb x = s.mb x := rfl
@[simp] theorem State.modFn_ld (s : State) (h : LdId) (f : FnEvents → FnEvents) (x : LdId) : (s.modFn h f).ld x = s.ld x := rfl
@[simp] theorem State.modFn_reg (s : State) (h : LdId) (f : FnEvents → FnEvents) (x : Fin 320) :
    (s.modFn h f).reg x = s.reg x := rfl
@[simp] theorem State.modFn_slot (s : State) (h : LdId) (f : FnEvents → FnEvents) (x : Fin 256) :
    (s.modFn h f).slot x = s.slot x := rfl

/-! ### modHead -/

@[simp] theorem State.modHead_pending (s : State) (h : HeadId) (f : Head → Head) : (s.modHead h f).pending = s.pending := rfl
@[simp] theorem State.modHead_gmode (s : State) (h : HeadId) (f : Head → Head) : (s.modHead h f).gmode = s.gmode := rfl
@[simp] theorem State.modHead_boot (s : State) (h : HeadId) (f : Head → Head) : (s.modHead h f).boot = s.boot := rfl
@[simp] theorem State.modHead_loft (s : State) (h : HeadId) (f : Head → Head) : (s.modHead h f).loft = s.loft := rfl
@[simp] theorem State.modHead_fw (s : State) (h : HeadId) (f : Head → Head) : (s.modHead h f).fw = s.fw := rfl
@[simp] theorem State.modHead_attic (s : State) (h : HeadId) (f : Head → Head) : (s.modHead h f).attic = s.attic := rfl
@[simp] theorem State.modHead_cal (s : State) (h : HeadId) (f : Head → Head) : (s.modHead h f).cal = s.cal := rfl
@[simp] theorem State.modHead_otp (s : State) (h : HeadId) (f : Head → Head) : (s.modHead h f).otp = s.otp := rfl
@[simp] theorem State.modHead_ridge (s : State) (h : HeadId) (f : Head → Head) : (s.modHead h f).ridge = s.ridge := rfl
@[simp] theorem State.modHead_keys (s : State) (h : HeadId) (f : Head → Head) : (s.modHead h f).keys = s.keys := rfl
@[simp] theorem State.modHead_eng (s : State) (h : HeadId) (f : Head → Head) : (s.modHead h f).eng = s.eng := rfl
@[simp] theorem State.modHead_gutter (s : State) (h : HeadId) (f : Head → Head) : (s.modHead h f).gutter = s.gutter := rfl
@[simp] theorem State.modHead_fns (s : State) (h : HeadId) (f : Head → Head) : (s.modHead h f).fns = s.fns := rfl
@[simp] theorem State.modHead_mbs (s : State) (h : HeadId) (f : Head → Head) : (s.modHead h f).mbs = s.mbs := rfl
@[simp] theorem State.modHead_responder (s : State) (h : HeadId) (f : Head → Head) :
    (s.modHead h f).responder = s.responder := rfl
@[simp] theorem State.modHead_tiles (s : State) (h : HeadId) (f : Head → Head) : (s.modHead h f).tiles = s.tiles := rfl
@[simp] theorem State.modHead_purlin (s : State) (h : HeadId) (f : Head → Head) : (s.modHead h f).purlin = s.purlin := rfl
@[simp] theorem State.modHead_memctl (s : State) (h : HeadId) (f : Head → Head) : (s.modHead h f).memctl = s.memctl := rfl
@[simp] theorem State.modHead_resp (s : State) (h : HeadId) (f : Head → Head) : (s.modHead h f).resp = s.resp := rfl
@[simp] theorem State.modHead_freeCtr (s : State) (h : HeadId) (f : Head → Head) : (s.modHead h f).freeCtr = s.freeCtr := rfl
@[simp] theorem State.modHead_tile (s : State) (h : HeadId) (f : Head → Head) (x : TileId) :
    (s.modHead h f).tile x = s.tile x := rfl
@[simp] theorem State.modHead_mb (s : State) (h : HeadId) (f : Head → Head) (x : LdId) : (s.modHead h f).mb x = s.mb x := rfl
@[simp] theorem State.modHead_fn (s : State) (h : HeadId) (f : Head → Head) (x : LdId) : (s.modHead h f).fn x = s.fn x := rfl
@[simp] theorem State.modHead_reg (s : State) (h : HeadId) (f : Head → Head) (x : Fin 320) :
    (s.modHead h f).reg x = s.reg x := rfl
@[simp] theorem State.modHead_slot (s : State) (h : HeadId) (f : Head → Head) (x : Fin 256) :
    (s.modHead h f).slot x = s.slot x := rfl

/-! ### respond -/

@[simp] theorem State.respond_pending (s : State) (d : List Byte) (c : Nat) : (s.respond d c).pending = s.pending := rfl
@[simp] theorem State.respond_gmode (s : State) (d : List Byte) (c : Nat) : (s.respond d c).gmode = s.gmode := rfl
@[simp] theorem State.respond_boot (s : State) (d : List Byte) (c : Nat) : (s.respond d c).boot = s.boot := rfl
@[simp] theorem State.respond_loft (s : State) (d : List Byte) (c : Nat) : (s.respond d c).loft = s.loft := rfl
@[simp] theorem State.respond_fw (s : State) (d : List Byte) (c : Nat) : (s.respond d c).fw = s.fw := rfl
@[simp] theorem State.respond_attic (s : State) (d : List Byte) (c : Nat) : (s.respond d c).attic = s.attic := rfl
@[simp] theorem State.respond_cal (s : State) (d : List Byte) (c : Nat) : (s.respond d c).cal = s.cal := rfl
@[simp] theorem State.respond_otp (s : State) (d : List Byte) (c : Nat) : (s.respond d c).otp = s.otp := rfl
@[simp] theorem State.respond_ridge (s : State) (d : List Byte) (c : Nat) : (s.respond d c).ridge = s.ridge := rfl
@[simp] theorem State.respond_keys (s : State) (d : List Byte) (c : Nat) : (s.respond d c).keys = s.keys := rfl
@[simp] theorem State.respond_eng (s : State) (d : List Byte) (c : Nat) : (s.respond d c).eng = s.eng := rfl
@[simp] theorem State.respond_gutter (s : State) (d : List Byte) (c : Nat) : (s.respond d c).gutter = s.gutter := rfl
@[simp] theorem State.respond_fns (s : State) (d : List Byte) (c : Nat) : (s.respond d c).fns = s.fns := rfl
@[simp] theorem State.respond_mbs (s : State) (d : List Byte) (c : Nat) : (s.respond d c).mbs = s.mbs := rfl
@[simp] theorem State.respond_responder (s : State) (d : List Byte) (c : Nat) : (s.respond d c).responder = s.responder := rfl
@[simp] theorem State.respond_tiles (s : State) (d : List Byte) (c : Nat) : (s.respond d c).tiles = s.tiles := rfl
@[simp] theorem State.respond_host (s : State) (d : List Byte) (c : Nat) : (s.respond d c).host = s.host := rfl
@[simp] theorem State.respond_purlin (s : State) (d : List Byte) (c : Nat) : (s.respond d c).purlin = s.purlin := rfl
@[simp] theorem State.respond_memctl (s : State) (d : List Byte) (c : Nat) : (s.respond d c).memctl = s.memctl := rfl
@[simp] theorem State.respond_freeCtr (s : State) (d : List Byte) (c : Nat) : (s.respond d c).freeCtr = s.freeCtr := rfl
@[simp] theorem State.respond_tile (s : State) (d : List Byte) (c : Nat) (x : TileId) : (s.respond d c).tile x = s.tile x := rfl
@[simp] theorem State.respond_mb (s : State) (d : List Byte) (c : Nat) (x : LdId) : (s.respond d c).mb x = s.mb x := rfl
@[simp] theorem State.respond_fn (s : State) (d : List Byte) (c : Nat) (x : LdId) : (s.respond d c).fn x = s.fn x := rfl
@[simp] theorem State.respond_ld (s : State) (d : List Byte) (c : Nat) (x : LdId) : (s.respond d c).ld x = s.ld x := rfl
@[simp] theorem State.respond_reg (s : State) (d : List Byte) (c : Nat) (x : Fin 320) : (s.respond d c).reg x = s.reg x := rfl
@[simp] theorem State.respond_slot (s : State) (d : List Byte) (c : Nat) (x : Fin 256) :
    (s.respond d c).slot x = s.slot x := rfl

/-! ### fresh -/

@[simp] theorem State.fresh_pending (s : State) (n : Nat) : (s.fresh n).pending = s.pending := rfl
@[simp] theorem State.fresh_gmode (s : State) (n : Nat) : (s.fresh n).gmode = s.gmode := rfl
@[simp] theorem State.fresh_boot (s : State) (n : Nat) : (s.fresh n).boot = s.boot := rfl
@[simp] theorem State.fresh_loft (s : State) (n : Nat) : (s.fresh n).loft = s.loft := rfl
@[simp] theorem State.fresh_fw (s : State) (n : Nat) : (s.fresh n).fw = s.fw := rfl
@[simp] theorem State.fresh_attic (s : State) (n : Nat) : (s.fresh n).attic = s.attic := rfl
@[simp] theorem State.fresh_cal (s : State) (n : Nat) : (s.fresh n).cal = s.cal := rfl
@[simp] theorem State.fresh_otp (s : State) (n : Nat) : (s.fresh n).otp = s.otp := rfl
@[simp] theorem State.fresh_ridge (s : State) (n : Nat) : (s.fresh n).ridge = s.ridge := rfl
@[simp] theorem State.fresh_keys (s : State) (n : Nat) : (s.fresh n).keys = s.keys := rfl
@[simp] theorem State.fresh_eng (s : State) (n : Nat) : (s.fresh n).eng = s.eng := rfl
@[simp] theorem State.fresh_gutter (s : State) (n : Nat) : (s.fresh n).gutter = s.gutter := rfl
@[simp] theorem State.fresh_fns (s : State) (n : Nat) : (s.fresh n).fns = s.fns := rfl
@[simp] theorem State.fresh_mbs (s : State) (n : Nat) : (s.fresh n).mbs = s.mbs := rfl
@[simp] theorem State.fresh_responder (s : State) (n : Nat) : (s.fresh n).responder = s.responder := rfl
@[simp] theorem State.fresh_tiles (s : State) (n : Nat) : (s.fresh n).tiles = s.tiles := rfl
@[simp] theorem State.fresh_host (s : State) (n : Nat) : (s.fresh n).host = s.host := rfl
@[simp] theorem State.fresh_purlin (s : State) (n : Nat) : (s.fresh n).purlin = s.purlin := rfl
@[simp] theorem State.fresh_memctl (s : State) (n : Nat) : (s.fresh n).memctl = s.memctl := rfl
@[simp] theorem State.fresh_resp (s : State) (n : Nat) : (s.fresh n).resp = s.resp := rfl
@[simp] theorem State.fresh_tile (s : State) (n : Nat) (x : TileId) : (s.fresh n).tile x = s.tile x := rfl
@[simp] theorem State.fresh_mb (s : State) (n : Nat) (x : LdId) : (s.fresh n).mb x = s.mb x := rfl
@[simp] theorem State.fresh_fn (s : State) (n : Nat) (x : LdId) : (s.fresh n).fn x = s.fn x := rfl
@[simp] theorem State.fresh_ld (s : State) (n : Nat) (x : LdId) : (s.fresh n).ld x = s.ld x := rfl
@[simp] theorem State.fresh_reg (s : State) (n : Nat) (x : Fin 320) : (s.fresh n).reg x = s.reg x := rfl
@[simp] theorem State.fresh_slot (s : State) (n : Nat) (x : Fin 256) : (s.fresh n).slot x = s.slot x := rfl

/-! ### setReg -/

@[simp] theorem State.setReg_pending (s : State) (r : Fin 320) (v : RidgeReg) : (s.setReg r v).pending = s.pending := rfl
@[simp] theorem State.setReg_gmode (s : State) (r : Fin 320) (v : RidgeReg) : (s.setReg r v).gmode = s.gmode := rfl
@[simp] theorem State.setReg_boot (s : State) (r : Fin 320) (v : RidgeReg) : (s.setReg r v).boot = s.boot := rfl
@[simp] theorem State.setReg_loft (s : State) (r : Fin 320) (v : RidgeReg) : (s.setReg r v).loft = s.loft := rfl
@[simp] theorem State.setReg_fw (s : State) (r : Fin 320) (v : RidgeReg) : (s.setReg r v).fw = s.fw := rfl
@[simp] theorem State.setReg_attic (s : State) (r : Fin 320) (v : RidgeReg) : (s.setReg r v).attic = s.attic := rfl
@[simp] theorem State.setReg_cal (s : State) (r : Fin 320) (v : RidgeReg) : (s.setReg r v).cal = s.cal := rfl
@[simp] theorem State.setReg_otp (s : State) (r : Fin 320) (v : RidgeReg) : (s.setReg r v).otp = s.otp := rfl
@[simp] theorem State.setReg_keys (s : State) (r : Fin 320) (v : RidgeReg) : (s.setReg r v).keys = s.keys := rfl
@[simp] theorem State.setReg_eng (s : State) (r : Fin 320) (v : RidgeReg) : (s.setReg r v).eng = s.eng := rfl
@[simp] theorem State.setReg_gutter (s : State) (r : Fin 320) (v : RidgeReg) : (s.setReg r v).gutter = s.gutter := rfl
@[simp] theorem State.setReg_fns (s : State) (r : Fin 320) (v : RidgeReg) : (s.setReg r v).fns = s.fns := rfl
@[simp] theorem State.setReg_mbs (s : State) (r : Fin 320) (v : RidgeReg) : (s.setReg r v).mbs = s.mbs := rfl
@[simp] theorem State.setReg_responder (s : State) (r : Fin 320) (v : RidgeReg) : (s.setReg r v).responder = s.responder := rfl
@[simp] theorem State.setReg_tiles (s : State) (r : Fin 320) (v : RidgeReg) : (s.setReg r v).tiles = s.tiles := rfl
@[simp] theorem State.setReg_host (s : State) (r : Fin 320) (v : RidgeReg) : (s.setReg r v).host = s.host := rfl
@[simp] theorem State.setReg_purlin (s : State) (r : Fin 320) (v : RidgeReg) : (s.setReg r v).purlin = s.purlin := rfl
@[simp] theorem State.setReg_memctl (s : State) (r : Fin 320) (v : RidgeReg) : (s.setReg r v).memctl = s.memctl := rfl
@[simp] theorem State.setReg_resp (s : State) (r : Fin 320) (v : RidgeReg) : (s.setReg r v).resp = s.resp := rfl
@[simp] theorem State.setReg_freeCtr (s : State) (r : Fin 320) (v : RidgeReg) : (s.setReg r v).freeCtr = s.freeCtr := rfl
@[simp] theorem State.setReg_tile (s : State) (r : Fin 320) (v : RidgeReg) (x : TileId) :
    (s.setReg r v).tile x = s.tile x := rfl
@[simp] theorem State.setReg_mb (s : State) (r : Fin 320) (v : RidgeReg) (x : LdId) : (s.setReg r v).mb x = s.mb x := rfl
@[simp] theorem State.setReg_fn (s : State) (r : Fin 320) (v : RidgeReg) (x : LdId) : (s.setReg r v).fn x = s.fn x := rfl
@[simp] theorem State.setReg_ld (s : State) (r : Fin 320) (v : RidgeReg) (x : LdId) : (s.setReg r v).ld x = s.ld x := rfl
@[simp] theorem State.setReg_slot (s : State) (r : Fin 320) (v : RidgeReg) (x : Fin 256) :
    (s.setReg r v).slot x = s.slot x := rfl

/-! ### setSlot -/

@[simp] theorem State.setSlot_pending (s : State) (i : Fin 256) (k : KeySlot) : (s.setSlot i k).pending = s.pending := rfl
@[simp] theorem State.setSlot_gmode (s : State) (i : Fin 256) (k : KeySlot) : (s.setSlot i k).gmode = s.gmode := rfl
@[simp] theorem State.setSlot_boot (s : State) (i : Fin 256) (k : KeySlot) : (s.setSlot i k).boot = s.boot := rfl
@[simp] theorem State.setSlot_loft (s : State) (i : Fin 256) (k : KeySlot) : (s.setSlot i k).loft = s.loft := rfl
@[simp] theorem State.setSlot_fw (s : State) (i : Fin 256) (k : KeySlot) : (s.setSlot i k).fw = s.fw := rfl
@[simp] theorem State.setSlot_attic (s : State) (i : Fin 256) (k : KeySlot) : (s.setSlot i k).attic = s.attic := rfl
@[simp] theorem State.setSlot_cal (s : State) (i : Fin 256) (k : KeySlot) : (s.setSlot i k).cal = s.cal := rfl
@[simp] theorem State.setSlot_otp (s : State) (i : Fin 256) (k : KeySlot) : (s.setSlot i k).otp = s.otp := rfl
@[simp] theorem State.setSlot_ridge (s : State) (i : Fin 256) (k : KeySlot) : (s.setSlot i k).ridge = s.ridge := rfl
@[simp] theorem State.setSlot_eng (s : State) (i : Fin 256) (k : KeySlot) : (s.setSlot i k).eng = s.eng := rfl
@[simp] theorem State.setSlot_gutter (s : State) (i : Fin 256) (k : KeySlot) : (s.setSlot i k).gutter = s.gutter := rfl
@[simp] theorem State.setSlot_fns (s : State) (i : Fin 256) (k : KeySlot) : (s.setSlot i k).fns = s.fns := rfl
@[simp] theorem State.setSlot_mbs (s : State) (i : Fin 256) (k : KeySlot) : (s.setSlot i k).mbs = s.mbs := rfl
@[simp] theorem State.setSlot_responder (s : State) (i : Fin 256) (k : KeySlot) : (s.setSlot i k).responder = s.responder := rfl
@[simp] theorem State.setSlot_tiles (s : State) (i : Fin 256) (k : KeySlot) : (s.setSlot i k).tiles = s.tiles := rfl
@[simp] theorem State.setSlot_host (s : State) (i : Fin 256) (k : KeySlot) : (s.setSlot i k).host = s.host := rfl
@[simp] theorem State.setSlot_purlin (s : State) (i : Fin 256) (k : KeySlot) : (s.setSlot i k).purlin = s.purlin := rfl
@[simp] theorem State.setSlot_memctl (s : State) (i : Fin 256) (k : KeySlot) : (s.setSlot i k).memctl = s.memctl := rfl
@[simp] theorem State.setSlot_resp (s : State) (i : Fin 256) (k : KeySlot) : (s.setSlot i k).resp = s.resp := rfl
@[simp] theorem State.setSlot_freeCtr (s : State) (i : Fin 256) (k : KeySlot) : (s.setSlot i k).freeCtr = s.freeCtr := rfl
@[simp] theorem State.setSlot_tile (s : State) (i : Fin 256) (k : KeySlot) (x : TileId) :
    (s.setSlot i k).tile x = s.tile x := rfl
@[simp] theorem State.setSlot_mb (s : State) (i : Fin 256) (k : KeySlot) (x : LdId) : (s.setSlot i k).mb x = s.mb x := rfl
@[simp] theorem State.setSlot_fn (s : State) (i : Fin 256) (k : KeySlot) (x : LdId) : (s.setSlot i k).fn x = s.fn x := rfl
@[simp] theorem State.setSlot_ld (s : State) (i : Fin 256) (k : KeySlot) (x : LdId) : (s.setSlot i k).ld x = s.ld x := rfl
@[simp] theorem State.setSlot_reg (s : State) (i : Fin 256) (k : KeySlot) (x : Fin 320) : (s.setSlot i k).reg x = s.reg x := rfl

/-! ### setThatch -/

@[simp] theorem State.setThatch_pending (s : State) (i : Fin 512) (c : Option HashCtx) :
    (s.setThatch i c).pending = s.pending := rfl
@[simp] theorem State.setThatch_gmode (s : State) (i : Fin 512) (c : Option HashCtx) : (s.setThatch i c).gmode = s.gmode := rfl
@[simp] theorem State.setThatch_boot (s : State) (i : Fin 512) (c : Option HashCtx) : (s.setThatch i c).boot = s.boot := rfl
@[simp] theorem State.setThatch_loft (s : State) (i : Fin 512) (c : Option HashCtx) : (s.setThatch i c).loft = s.loft := rfl
@[simp] theorem State.setThatch_fw (s : State) (i : Fin 512) (c : Option HashCtx) : (s.setThatch i c).fw = s.fw := rfl
@[simp] theorem State.setThatch_attic (s : State) (i : Fin 512) (c : Option HashCtx) : (s.setThatch i c).attic = s.attic := rfl
@[simp] theorem State.setThatch_cal (s : State) (i : Fin 512) (c : Option HashCtx) : (s.setThatch i c).cal = s.cal := rfl
@[simp] theorem State.setThatch_otp (s : State) (i : Fin 512) (c : Option HashCtx) : (s.setThatch i c).otp = s.otp := rfl
@[simp] theorem State.setThatch_ridge (s : State) (i : Fin 512) (c : Option HashCtx) : (s.setThatch i c).ridge = s.ridge := rfl
@[simp] theorem State.setThatch_keys (s : State) (i : Fin 512) (c : Option HashCtx) : (s.setThatch i c).keys = s.keys := rfl
@[simp] theorem State.setThatch_gutter (s : State) (i : Fin 512) (c : Option HashCtx) :
    (s.setThatch i c).gutter = s.gutter := rfl
@[simp] theorem State.setThatch_fns (s : State) (i : Fin 512) (c : Option HashCtx) : (s.setThatch i c).fns = s.fns := rfl
@[simp] theorem State.setThatch_mbs (s : State) (i : Fin 512) (c : Option HashCtx) : (s.setThatch i c).mbs = s.mbs := rfl
@[simp] theorem State.setThatch_responder (s : State) (i : Fin 512) (c : Option HashCtx) :
    (s.setThatch i c).responder = s.responder := rfl
@[simp] theorem State.setThatch_tiles (s : State) (i : Fin 512) (c : Option HashCtx) : (s.setThatch i c).tiles = s.tiles := rfl
@[simp] theorem State.setThatch_host (s : State) (i : Fin 512) (c : Option HashCtx) : (s.setThatch i c).host = s.host := rfl
@[simp] theorem State.setThatch_purlin (s : State) (i : Fin 512) (c : Option HashCtx) :
    (s.setThatch i c).purlin = s.purlin := rfl
@[simp] theorem State.setThatch_memctl (s : State) (i : Fin 512) (c : Option HashCtx) :
    (s.setThatch i c).memctl = s.memctl := rfl
@[simp] theorem State.setThatch_resp (s : State) (i : Fin 512) (c : Option HashCtx) : (s.setThatch i c).resp = s.resp := rfl
@[simp] theorem State.setThatch_freeCtr (s : State) (i : Fin 512) (c : Option HashCtx) :
    (s.setThatch i c).freeCtr = s.freeCtr := rfl
@[simp] theorem State.setThatch_tile (s : State) (i : Fin 512) (c : Option HashCtx) (x : TileId) :
    (s.setThatch i c).tile x = s.tile x := rfl
@[simp] theorem State.setThatch_mb (s : State) (i : Fin 512) (c : Option HashCtx) (x : LdId) :
    (s.setThatch i c).mb x = s.mb x := rfl
@[simp] theorem State.setThatch_fn (s : State) (i : Fin 512) (c : Option HashCtx) (x : LdId) :
    (s.setThatch i c).fn x = s.fn x := rfl
@[simp] theorem State.setThatch_ld (s : State) (i : Fin 512) (c : Option HashCtx) (x : LdId) :
    (s.setThatch i c).ld x = s.ld x := rfl
@[simp] theorem State.setThatch_reg (s : State) (i : Fin 512) (c : Option HashCtx) (x : Fin 320) :
    (s.setThatch i c).reg x = s.reg x := rfl
@[simp] theorem State.setThatch_slot (s : State) (i : Fin 512) (c : Option HashCtx) (x : Fin 256) :
    (s.setThatch i c).slot x = s.slot x := rfl

/-! ### setSpar -/

@[simp] theorem State.setSpar_pending (s : State) (i : Fin 128) (c : Option SparCtx) :
    (s.setSpar i c).pending = s.pending := rfl
@[simp] theorem State.setSpar_gmode (s : State) (i : Fin 128) (c : Option SparCtx) : (s.setSpar i c).gmode = s.gmode := rfl
@[simp] theorem State.setSpar_boot (s : State) (i : Fin 128) (c : Option SparCtx) : (s.setSpar i c).boot = s.boot := rfl
@[simp] theorem State.setSpar_loft (s : State) (i : Fin 128) (c : Option SparCtx) : (s.setSpar i c).loft = s.loft := rfl
@[simp] theorem State.setSpar_fw (s : State) (i : Fin 128) (c : Option SparCtx) : (s.setSpar i c).fw = s.fw := rfl
@[simp] theorem State.setSpar_attic (s : State) (i : Fin 128) (c : Option SparCtx) : (s.setSpar i c).attic = s.attic := rfl
@[simp] theorem State.setSpar_cal (s : State) (i : Fin 128) (c : Option SparCtx) : (s.setSpar i c).cal = s.cal := rfl
@[simp] theorem State.setSpar_otp (s : State) (i : Fin 128) (c : Option SparCtx) : (s.setSpar i c).otp = s.otp := rfl
@[simp] theorem State.setSpar_ridge (s : State) (i : Fin 128) (c : Option SparCtx) : (s.setSpar i c).ridge = s.ridge := rfl
@[simp] theorem State.setSpar_keys (s : State) (i : Fin 128) (c : Option SparCtx) : (s.setSpar i c).keys = s.keys := rfl
@[simp] theorem State.setSpar_gutter (s : State) (i : Fin 128) (c : Option SparCtx) : (s.setSpar i c).gutter = s.gutter := rfl
@[simp] theorem State.setSpar_fns (s : State) (i : Fin 128) (c : Option SparCtx) : (s.setSpar i c).fns = s.fns := rfl
@[simp] theorem State.setSpar_mbs (s : State) (i : Fin 128) (c : Option SparCtx) : (s.setSpar i c).mbs = s.mbs := rfl
@[simp] theorem State.setSpar_responder (s : State) (i : Fin 128) (c : Option SparCtx) :
    (s.setSpar i c).responder = s.responder := rfl
@[simp] theorem State.setSpar_tiles (s : State) (i : Fin 128) (c : Option SparCtx) : (s.setSpar i c).tiles = s.tiles := rfl
@[simp] theorem State.setSpar_host (s : State) (i : Fin 128) (c : Option SparCtx) : (s.setSpar i c).host = s.host := rfl
@[simp] theorem State.setSpar_purlin (s : State) (i : Fin 128) (c : Option SparCtx) : (s.setSpar i c).purlin = s.purlin := rfl
@[simp] theorem State.setSpar_memctl (s : State) (i : Fin 128) (c : Option SparCtx) : (s.setSpar i c).memctl = s.memctl := rfl
@[simp] theorem State.setSpar_resp (s : State) (i : Fin 128) (c : Option SparCtx) : (s.setSpar i c).resp = s.resp := rfl
@[simp] theorem State.setSpar_freeCtr (s : State) (i : Fin 128) (c : Option SparCtx) :
    (s.setSpar i c).freeCtr = s.freeCtr := rfl
@[simp] theorem State.setSpar_tile (s : State) (i : Fin 128) (c : Option SparCtx) (x : TileId) :
    (s.setSpar i c).tile x = s.tile x := rfl
@[simp] theorem State.setSpar_mb (s : State) (i : Fin 128) (c : Option SparCtx) (x : LdId) :
    (s.setSpar i c).mb x = s.mb x := rfl
@[simp] theorem State.setSpar_fn (s : State) (i : Fin 128) (c : Option SparCtx) (x : LdId) :
    (s.setSpar i c).fn x = s.fn x := rfl
@[simp] theorem State.setSpar_ld (s : State) (i : Fin 128) (c : Option SparCtx) (x : LdId) :
    (s.setSpar i c).ld x = s.ld x := rfl
@[simp] theorem State.setSpar_reg (s : State) (i : Fin 128) (c : Option SparCtx) (x : Fin 320) :
    (s.setSpar i c).reg x = s.reg x := rfl
@[simp] theorem State.setSpar_slot (s : State) (i : Fin 128) (c : Option SparCtx) (x : Fin 256) :
    (s.setSpar i c).slot x = s.slot x := rfl

/-! ### modFilter -/

@[simp] theorem State.modFilter_pending (s : State) (t : TileId) (f : TileFilter → TileFilter) :
    (s.modFilter t f).pending = s.pending := rfl
@[simp] theorem State.modFilter_gmode (s : State) (t : TileId) (f : TileFilter → TileFilter) :
    (s.modFilter t f).gmode = s.gmode := rfl
@[simp] theorem State.modFilter_boot (s : State) (t : TileId) (f : TileFilter → TileFilter) :
    (s.modFilter t f).boot = s.boot := rfl
@[simp] theorem State.modFilter_loft (s : State) (t : TileId) (f : TileFilter → TileFilter) :
    (s.modFilter t f).loft = s.loft := rfl
@[simp] theorem State.modFilter_fw (s : State) (t : TileId) (f : TileFilter → TileFilter) : (s.modFilter t f).fw = s.fw := rfl
@[simp] theorem State.modFilter_attic (s : State) (t : TileId) (f : TileFilter → TileFilter) :
    (s.modFilter t f).attic = s.attic := rfl
@[simp] theorem State.modFilter_cal (s : State) (t : TileId) (f : TileFilter → TileFilter) :
    (s.modFilter t f).cal = s.cal := rfl
@[simp] theorem State.modFilter_otp (s : State) (t : TileId) (f : TileFilter → TileFilter) :
    (s.modFilter t f).otp = s.otp := rfl
@[simp] theorem State.modFilter_ridge (s : State) (t : TileId) (f : TileFilter → TileFilter) :
    (s.modFilter t f).ridge = s.ridge := rfl
@[simp] theorem State.modFilter_keys (s : State) (t : TileId) (f : TileFilter → TileFilter) :
    (s.modFilter t f).keys = s.keys := rfl
@[simp] theorem State.modFilter_eng (s : State) (t : TileId) (f : TileFilter → TileFilter) :
    (s.modFilter t f).eng = s.eng := rfl
@[simp] theorem State.modFilter_gutter (s : State) (t : TileId) (f : TileFilter → TileFilter) :
    (s.modFilter t f).gutter = s.gutter := rfl
@[simp] theorem State.modFilter_fns (s : State) (t : TileId) (f : TileFilter → TileFilter) :
    (s.modFilter t f).fns = s.fns := rfl
@[simp] theorem State.modFilter_mbs (s : State) (t : TileId) (f : TileFilter → TileFilter) :
    (s.modFilter t f).mbs = s.mbs := rfl
@[simp] theorem State.modFilter_responder (s : State) (t : TileId) (f : TileFilter → TileFilter) :
    (s.modFilter t f).responder = s.responder := rfl
@[simp] theorem State.modFilter_host (s : State) (t : TileId) (f : TileFilter → TileFilter) :
    (s.modFilter t f).host = s.host := rfl
@[simp] theorem State.modFilter_purlin (s : State) (t : TileId) (f : TileFilter → TileFilter) :
    (s.modFilter t f).purlin = s.purlin := rfl
@[simp] theorem State.modFilter_memctl (s : State) (t : TileId) (f : TileFilter → TileFilter) :
    (s.modFilter t f).memctl = s.memctl := rfl
@[simp] theorem State.modFilter_resp (s : State) (t : TileId) (f : TileFilter → TileFilter) :
    (s.modFilter t f).resp = s.resp := rfl
@[simp] theorem State.modFilter_freeCtr (s : State) (t : TileId) (f : TileFilter → TileFilter) :
    (s.modFilter t f).freeCtr = s.freeCtr := rfl
@[simp] theorem State.modFilter_mb (s : State) (t : TileId) (f : TileFilter → TileFilter) (x : LdId) :
    (s.modFilter t f).mb x = s.mb x := rfl
@[simp] theorem State.modFilter_fn (s : State) (t : TileId) (f : TileFilter → TileFilter) (x : LdId) :
    (s.modFilter t f).fn x = s.fn x := rfl
@[simp] theorem State.modFilter_ld (s : State) (t : TileId) (f : TileFilter → TileFilter) (x : LdId) :
    (s.modFilter t f).ld x = s.ld x := rfl
@[simp] theorem State.modFilter_reg (s : State) (t : TileId) (f : TileFilter → TileFilter) (x : Fin 320) :
    (s.modFilter t f).reg x = s.reg x := rfl
@[simp] theorem State.modFilter_slot (s : State) (t : TileId) (f : TileFilter → TileFilter) (x : Fin 256) :
    (s.modFilter t f).slot x = s.slot x := rfl

/-! ### modVer -/

@[simp] theorem State.modVer_pending (s : State) (t : TileId) (f : TileVerify → TileVerify) :
    (s.modVer t f).pending = s.pending := rfl
@[simp] theorem State.modVer_gmode (s : State) (t : TileId) (f : TileVerify → TileVerify) :
    (s.modVer t f).gmode = s.gmode := rfl
@[simp] theorem State.modVer_boot (s : State) (t : TileId) (f : TileVerify → TileVerify) : (s.modVer t f).boot = s.boot := rfl
@[simp] theorem State.modVer_loft (s : State) (t : TileId) (f : TileVerify → TileVerify) : (s.modVer t f).loft = s.loft := rfl
@[simp] theorem State.modVer_fw (s : State) (t : TileId) (f : TileVerify → TileVerify) : (s.modVer t f).fw = s.fw := rfl
@[simp] theorem State.modVer_attic (s : State) (t : TileId) (f : TileVerify → TileVerify) :
    (s.modVer t f).attic = s.attic := rfl
@[simp] theorem State.modVer_cal (s : State) (t : TileId) (f : TileVerify → TileVerify) : (s.modVer t f).cal = s.cal := rfl
@[simp] theorem State.modVer_otp (s : State) (t : TileId) (f : TileVerify → TileVerify) : (s.modVer t f).otp = s.otp := rfl
@[simp] theorem State.modVer_ridge (s : State) (t : TileId) (f : TileVerify → TileVerify) :
    (s.modVer t f).ridge = s.ridge := rfl
@[simp] theorem State.modVer_keys (s : State) (t : TileId) (f : TileVerify → TileVerify) : (s.modVer t f).keys = s.keys := rfl
@[simp] theorem State.modVer_eng (s : State) (t : TileId) (f : TileVerify → TileVerify) : (s.modVer t f).eng = s.eng := rfl
@[simp] theorem State.modVer_gutter (s : State) (t : TileId) (f : TileVerify → TileVerify) :
    (s.modVer t f).gutter = s.gutter := rfl
@[simp] theorem State.modVer_fns (s : State) (t : TileId) (f : TileVerify → TileVerify) : (s.modVer t f).fns = s.fns := rfl
@[simp] theorem State.modVer_mbs (s : State) (t : TileId) (f : TileVerify → TileVerify) : (s.modVer t f).mbs = s.mbs := rfl
@[simp] theorem State.modVer_responder (s : State) (t : TileId) (f : TileVerify → TileVerify) :
    (s.modVer t f).responder = s.responder := rfl
@[simp] theorem State.modVer_host (s : State) (t : TileId) (f : TileVerify → TileVerify) : (s.modVer t f).host = s.host := rfl
@[simp] theorem State.modVer_purlin (s : State) (t : TileId) (f : TileVerify → TileVerify) :
    (s.modVer t f).purlin = s.purlin := rfl
@[simp] theorem State.modVer_memctl (s : State) (t : TileId) (f : TileVerify → TileVerify) :
    (s.modVer t f).memctl = s.memctl := rfl
@[simp] theorem State.modVer_resp (s : State) (t : TileId) (f : TileVerify → TileVerify) : (s.modVer t f).resp = s.resp := rfl
@[simp] theorem State.modVer_freeCtr (s : State) (t : TileId) (f : TileVerify → TileVerify) :
    (s.modVer t f).freeCtr = s.freeCtr := rfl
@[simp] theorem State.modVer_mb (s : State) (t : TileId) (f : TileVerify → TileVerify) (x : LdId) :
    (s.modVer t f).mb x = s.mb x := rfl
@[simp] theorem State.modVer_fn (s : State) (t : TileId) (f : TileVerify → TileVerify) (x : LdId) :
    (s.modVer t f).fn x = s.fn x := rfl
@[simp] theorem State.modVer_ld (s : State) (t : TileId) (f : TileVerify → TileVerify) (x : LdId) :
    (s.modVer t f).ld x = s.ld x := rfl
@[simp] theorem State.modVer_reg (s : State) (t : TileId) (f : TileVerify → TileVerify) (x : Fin 320) :
    (s.modVer t f).reg x = s.reg x := rfl
@[simp] theorem State.modVer_slot (s : State) (t : TileId) (f : TileVerify → TileVerify) (x : Fin 256) :
    (s.modVer t f).slot x = s.slot x := rfl

/-! ### modSide -/

@[simp] theorem State.modSide_pending (s : State) (t : TileId) (f : TileSideband → TileSideband) :
    (s.modSide t f).pending = s.pending := rfl
@[simp] theorem State.modSide_gmode (s : State) (t : TileId) (f : TileSideband → TileSideband) :
    (s.modSide t f).gmode = s.gmode := rfl
@[simp] theorem State.modSide_boot (s : State) (t : TileId) (f : TileSideband → TileSideband) :
    (s.modSide t f).boot = s.boot := rfl
@[simp] theorem State.modSide_loft (s : State) (t : TileId) (f : TileSideband → TileSideband) :
    (s.modSide t f).loft = s.loft := rfl
@[simp] theorem State.modSide_fw (s : State) (t : TileId) (f : TileSideband → TileSideband) : (s.modSide t f).fw = s.fw := rfl
@[simp] theorem State.modSide_attic (s : State) (t : TileId) (f : TileSideband → TileSideband) :
    (s.modSide t f).attic = s.attic := rfl
@[simp] theorem State.modSide_cal (s : State) (t : TileId) (f : TileSideband → TileSideband) :
    (s.modSide t f).cal = s.cal := rfl
@[simp] theorem State.modSide_otp (s : State) (t : TileId) (f : TileSideband → TileSideband) :
    (s.modSide t f).otp = s.otp := rfl
@[simp] theorem State.modSide_ridge (s : State) (t : TileId) (f : TileSideband → TileSideband) :
    (s.modSide t f).ridge = s.ridge := rfl
@[simp] theorem State.modSide_keys (s : State) (t : TileId) (f : TileSideband → TileSideband) :
    (s.modSide t f).keys = s.keys := rfl
@[simp] theorem State.modSide_eng (s : State) (t : TileId) (f : TileSideband → TileSideband) :
    (s.modSide t f).eng = s.eng := rfl
@[simp] theorem State.modSide_gutter (s : State) (t : TileId) (f : TileSideband → TileSideband) :
    (s.modSide t f).gutter = s.gutter := rfl
@[simp] theorem State.modSide_fns (s : State) (t : TileId) (f : TileSideband → TileSideband) :
    (s.modSide t f).fns = s.fns := rfl
@[simp] theorem State.modSide_mbs (s : State) (t : TileId) (f : TileSideband → TileSideband) :
    (s.modSide t f).mbs = s.mbs := rfl
@[simp] theorem State.modSide_responder (s : State) (t : TileId) (f : TileSideband → TileSideband) :
    (s.modSide t f).responder = s.responder := rfl
@[simp] theorem State.modSide_host (s : State) (t : TileId) (f : TileSideband → TileSideband) :
    (s.modSide t f).host = s.host := rfl
@[simp] theorem State.modSide_purlin (s : State) (t : TileId) (f : TileSideband → TileSideband) :
    (s.modSide t f).purlin = s.purlin := rfl
@[simp] theorem State.modSide_memctl (s : State) (t : TileId) (f : TileSideband → TileSideband) :
    (s.modSide t f).memctl = s.memctl := rfl
@[simp] theorem State.modSide_resp (s : State) (t : TileId) (f : TileSideband → TileSideband) :
    (s.modSide t f).resp = s.resp := rfl
@[simp] theorem State.modSide_freeCtr (s : State) (t : TileId) (f : TileSideband → TileSideband) :
    (s.modSide t f).freeCtr = s.freeCtr := rfl
@[simp] theorem State.modSide_mb (s : State) (t : TileId) (f : TileSideband → TileSideband) (x : LdId) :
    (s.modSide t f).mb x = s.mb x := rfl
@[simp] theorem State.modSide_fn (s : State) (t : TileId) (f : TileSideband → TileSideband) (x : LdId) :
    (s.modSide t f).fn x = s.fn x := rfl
@[simp] theorem State.modSide_ld (s : State) (t : TileId) (f : TileSideband → TileSideband) (x : LdId) :
    (s.modSide t f).ld x = s.ld x := rfl
@[simp] theorem State.modSide_reg (s : State) (t : TileId) (f : TileSideband → TileSideband) (x : Fin 320) :
    (s.modSide t f).reg x = s.reg x := rfl
@[simp] theorem State.modSide_slot (s : State) (t : TileId) (f : TileSideband → TileSideband) (x : Fin 256) :
    (s.modSide t f).slot x = s.slot x := rfl

/-! ### A part after its own update -/

@[simp] theorem State.tile_modTile (s : State) (t : TileId) (f : Tile → Tile) : (s.modTile t f).tile t = f (s.tile t) := by
  simp [State.tile, State.modTile]

theorem State.tile_modTile_ne (s : State) (f : Tile → Tile) (t u : TileId) (h : t ≠ u) :
    (s.modTile t f).tile u = s.tile u := by
  have : t.val ≠ u.val := fun e => h (Fin.ext e)
  simp [State.tile, State.modTile, this]

@[simp] theorem State.mb_modMb (s : State) (h : LdId) (f : Mailbox → Mailbox) : (s.modMb h f).mb h = f (s.mb h) := by
  simp [State.mb, State.modMb]

theorem State.mb_modMb_ne (s : State) (f : Mailbox → Mailbox) (h k : LdId) (n : h ≠ k) : (s.modMb h f).mb k = s.mb k := by
  have : h.val ≠ k.val := fun e => n (Fin.ext e)
  simp [State.mb, State.modMb, this]

@[simp] theorem State.fn_modFn (s : State) (h : LdId) (f : FnEvents → FnEvents) : (s.modFn h f).fn h = f (s.fn h) := by
  simp [State.fn, State.modFn]

theorem State.fn_modFn_ne (s : State) (f : FnEvents → FnEvents) (h k : LdId) (n : h ≠ k) :
    (s.modFn h f).fn k = s.fn k := by
  have : h.val ≠ k.val := fun e => n (Fin.ext e)
  simp [State.fn, State.modFn, this]

@[simp] theorem State.ld_modLd (s : State) (h : LdId) (f : Ld → Ld) : (s.modLd h f).ld h = f (s.ld h) := by
  simp [State.ld, State.modLd]

theorem State.ld_modLd_ne (s : State) (f : Ld → Ld) (h k : LdId) (n : h ≠ k) : (s.modLd h f).ld k = s.ld k := by
  have : h.val ≠ k.val := fun e => n (Fin.ext e)
  simp [State.ld, State.modLd, this]

@[simp] theorem State.ld_modHead (s : State) (h : HeadId) (f : Head → Head) (k : LdId) :
    (s.modHead h f).ld k = s.ld k := rfl

@[simp] theorem State.reg_setReg (s : State) (r : Fin 320) (v : RidgeReg) : (s.setReg r v).reg r = v := by
  simp [State.reg, State.setReg]

theorem State.reg_setReg_ne (s : State) (v : RidgeReg) (r q : Fin 320) (n : r ≠ q) : (s.setReg r v).reg q = s.reg q := by
  have : r.val ≠ q.val := fun e => n (Fin.ext e)
  simp [State.reg, State.setReg, this]

@[simp] theorem State.slot_setSlot (s : State) (i : Fin 256) (k : KeySlot) : (s.setSlot i k).slot i = k := by
  simp [State.slot, State.setSlot]

theorem State.slot_setSlot_ne (s : State) (k : KeySlot) (i j : Fin 256) (n : i ≠ j) :
    (s.setSlot i k).slot j = s.slot j := by
  have : i.val ≠ j.val := fun e => n (Fin.ext e)
  simp [State.slot, State.setSlot, this]

end Sys2Proof.Machine
end

