-- ==== Sys2Proof/Laws/Canonical.lean ====
section
/-! SUPPORT. `Canonical` under the updates of one tile and of one mailbox: what holds of the area written holds of the
state. -/

namespace Sys2Proof.Machine

open Sys2Proof

/-- A tile whose areas are in canonical form may take a tile's place. -/
theorem Canonical.modTile {s : State} (h : Canonical s) (x : TileId) (f : Tile → Tile)
    (copy : Memory.wf 0xFF (f (s.tile x)).mem.copy = true) (opens : Memory.wf 0xFF (f (s.tile x)).mem.opens = true)
    (staging : Memory.wf 0xFF (f (s.tile x)).mem.staging = true) (buffer : Memory.wf 0 (f (s.tile x)).side.buffer = true)
    (port : Memory.wf 0 (f (s.tile x)).eave.buffer = true) :
    Canonical (s.modTile x f) := by
  have at_ : ∀ P : Tile → Prop, P (f (s.tile x)) → (∀ u, P (s.tile u)) → ∀ u, P ((s.modTile x f).tile u) := by
    intro P a b u
    by_cases e : x = u
    · subst e; rw [State.tile_modTile]; exact a
    · rw [State.tile_modTile_ne s f x u e]; exact b u
  exact { normal := h.normal, strict := h.strict, shadow := h.shadow, purlin := h.purlin, push := h.push
          copy := at_ (fun y => Memory.wf 0xFF y.mem.copy = true) copy h.copy
          opens := at_ (fun y => Memory.wf 0xFF y.mem.opens = true) opens h.opens
          staging := at_ (fun y => Memory.wf 0xFF y.mem.staging = true) staging h.staging
          buffer := at_ (fun y => Memory.wf 0 y.side.buffer = true) buffer h.buffer
          port := at_ (fun y => Memory.wf 0 y.eave.buffer = true) port h.port, own := h.own
          payload := h.payload, routes := h.routes, message := h.message }

/-- A tile changed elsewhere than in its areas keeps them. -/
theorem Canonical.modTile_keep {s : State} (h : Canonical s) (x : TileId) (f : Tile → Tile)
    (mem : (f (s.tile x)).mem = (s.tile x).mem) (buffer : (f (s.tile x)).side.buffer = (s.tile x).side.buffer)
    (port : (f (s.tile x)).eave.buffer = (s.tile x).eave.buffer := by rfl) :
    Canonical (s.modTile x f) :=
  h.modTile x f (by rw [mem]; exact h.copy x) (by rw [mem]; exact h.opens x) (by rw [mem]; exact h.staging x)
    (by rw [buffer]; exact h.buffer x) (by rw [port]; exact h.port x)

/-- A mailbox whose payload is in canonical form may take a mailbox's place. -/
theorem Canonical.modMb {s : State} (h : Canonical s) (k : LdId) (f : Mailbox → Mailbox)
    (payload : Memory.wf 0 (f (s.mb k)).payload = true) : Canonical (s.modMb k f) where
  normal := h.normal
  strict := h.strict
  shadow := h.shadow
  purlin := h.purlin
  push := h.push
  copy := h.copy
  opens := h.opens
  staging := h.staging
  buffer := h.buffer
  port := h.port
  own := h.own
  payload u := by
    by_cases e : k = u
    · subst e; rw [State.mb_modMb]; exact payload
    · rw [State.mb_modMb_ne s f k u e]; exact h.payload u
  routes := h.routes
  message := h.message

end Sys2Proof.Machine
end

