-- ==== Sys2Proof/Laws/Cycle.lean ====
section
/-! SUPPORT. The order of a cycle's raises (R467): sorting them moves the records a command has queued and nothing else; they stay
the same records, and one record stays where it is. -/

namespace Sys2Proof.Machine

open Sys2Proof

@[simp] theorem sortRaises_pending (s t : State) : (sortRaises s t).pending = t.pending := rfl
@[simp] theorem sortRaises_gmode (s t : State) : (sortRaises s t).gmode = t.gmode := rfl
@[simp] theorem sortRaises_boot (s t : State) : (sortRaises s t).boot = t.boot := rfl
@[simp] theorem sortRaises_loft (s t : State) : (sortRaises s t).loft = t.loft := rfl
@[simp] theorem sortRaises_fw (s t : State) : (sortRaises s t).fw = t.fw := rfl
@[simp] theorem sortRaises_attic (s t : State) : (sortRaises s t).attic = t.attic := rfl
@[simp] theorem sortRaises_cal (s t : State) : (sortRaises s t).cal = t.cal := rfl
@[simp] theorem sortRaises_otp (s t : State) : (sortRaises s t).otp = t.otp := rfl
@[simp] theorem sortRaises_ridge (s t : State) : (sortRaises s t).ridge = t.ridge := rfl
@[simp] theorem sortRaises_keys (s t : State) : (sortRaises s t).keys = t.keys := rfl
@[simp] theorem sortRaises_eng (s t : State) : (sortRaises s t).eng = t.eng := rfl
@[simp] theorem sortRaises_fns (s t : State) : (sortRaises s t).fns = t.fns := rfl
@[simp] theorem sortRaises_mbs (s t : State) : (sortRaises s t).mbs = t.mbs := rfl
@[simp] theorem sortRaises_responder (s t : State) : (sortRaises s t).responder = t.responder := rfl
@[simp] theorem sortRaises_tiles (s t : State) : (sortRaises s t).tiles = t.tiles := rfl
@[simp] theorem sortRaises_host (s t : State) : (sortRaises s t).host = t.host := rfl
@[simp] theorem sortRaises_purlin (s t : State) : (sortRaises s t).purlin = t.purlin := rfl
@[simp] theorem sortRaises_memctl (s t : State) : (sortRaises s t).memctl = t.memctl := rfl
@[simp] theorem sortRaises_resp (s t : State) : (sortRaises s t).resp = t.resp := rfl
@[simp] theorem sortRaises_freeCtr (s t : State) : (sortRaises s t).freeCtr = t.freeCtr := rfl
@[simp] theorem sortRaises_tileAt (s t : State) (x : TileId) : (sortRaises s t).tile x = t.tile x := rfl
@[simp] theorem sortRaises_mbAt (s t : State) (x : LdId) : (sortRaises s t).mb x = t.mb x := rfl
@[simp] theorem sortRaises_fnAt (s t : State) (x : LdId) : (sortRaises s t).fn x = t.fn x := rfl
@[simp] theorem sortRaises_ldAt (s t : State) (x : LdId) : (sortRaises s t).ld x = t.ld x := rfl
@[simp] theorem sortRaises_regAt (s t : State) (x : Fin 320) : (sortRaises s t).reg x = t.reg x := rfl
@[simp] theorem sortRaises_slotAt (s t : State) (x : Fin 256) : (sortRaises s t).slot x = t.slot x := rfl

/-- Of the Gutter only the queue is put in order. -/
theorem sortRaises_gutter (s t : State) :
    (sortRaises s t).gutter = { t.gutter with queue := (sortRaises s t).gutter.queue } := rfl

theorem insertRaise_perm (l : List Waiting) (w : Waiting) : (insertRaise l w).Perm (l ++ [w]) := by
  induction l with
  | nil => exact .refl _
  | cons v l ih =>
    unfold insertRaise
    split
    · exact List.perm_append_comm (l₁ := [w]) (l₂ := v :: l)
    · exact ih.cons v

theorem foldl_insertRaise_perm (l acc : List Waiting) : (l.foldl insertRaise acc).Perm (acc ++ l) := by
  induction l generalizing acc with
  | nil => simp
  | cons w l ih =>
    have h := (ih (insertRaise acc w)).trans ((insertRaise_perm acc w).append_right l)
    simpa using h

/-- Every record queued stays queued, and none is added. -/
theorem sortRaises_perm (s t : State) : (sortRaises s t).gutter.queue.Perm t.gutter.queue := by
  have h := (foldl_insertRaise_perm (t.gutter.queue.drop s.gutter.queue.length) []).append_left
    (t.gutter.queue.take s.gutter.queue.length)
  simpa [sortRaises] using h

@[simp] theorem mem_sortRaises (s t : State) (w : Waiting) : w ∈ (sortRaises s t).gutter.queue ↔ w ∈ t.gutter.queue :=
  (sortRaises_perm s t).mem_iff

@[simp] theorem length_sortRaises (s t : State) : (sortRaises s t).gutter.queue.length = t.gutter.queue.length :=
  (sortRaises_perm s t).length_eq

/-- Records queued before the command stay in front. -/
theorem take_sortRaises (s t : State) (h : s.gutter.queue.length ≤ t.gutter.queue.length) :
    (sortRaises s t).gutter.queue.take s.gutter.queue.length = t.gutter.queue.take s.gutter.queue.length := by
  simp [sortRaises, List.length_take, Nat.min_eq_left h]

/-- A command that has raised nothing, or one record, leaves its order alone. -/
theorem sortRaises_of_le (s t : State) (h : t.gutter.queue.length ≤ s.gutter.queue.length + 1) : sortRaises s t = t := by
  have one : ∀ l : List Waiting, l.length ≤ 1 → l.foldl insertRaise [] = l
    | [], _ => rfl
    | [_], _ => rfl
    | _ :: _ :: _, n => by simp at n
  have e : (t.gutter.queue.drop s.gutter.queue.length).foldl insertRaise [] = t.gutter.queue.drop s.gutter.queue.length :=
    one _ (by rw [List.length_drop]; omega)
  unfold sortRaises
  dsimp only
  rw [e, List.take_append_drop]

/-- What a command wrapped as one cycle answers. -/
theorem inOneCycle_next (s t : State) (o : Out) : inOneCycle s o = .next t ↔ ∃ u, o = .next u ∧ t = sortRaises s u := by
  cases o with
  | next u => simp [inOneCycle, eq_comm]
  | fault f => simp [inOneCycle]
  | refused r => simp [inOneCycle]

@[simp] theorem inOneCycle_of_next (s t : State) : inOneCycle s (.next t) = .next (sortRaises s t) := rfl

theorem inOneCycle_ite (s : State) (p : Prop) [Decidable p] (a b : Out) :
    inOneCycle s (if p then a else b) = if p then inOneCycle s a else inOneCycle s b := by split <;> rfl

end Sys2Proof.Machine
end

