-- ==== Sys2Proof/Laws/Events.lean ====
section
/-! SUPPORT. What latches, messages and records touch: the recorder, the functions' latches and the heads' credits, and
nothing else. `EventFrame s t` says it once; each operation has one lemma. -/

namespace Sys2Proof.Machine

open Sys2Proof

/-- `t` is `s` but for the recorder, the functions and the credits of the heads. -/
structure EventFrame (s t : State) : Prop where
  pending : t.pending = s.pending
  gmode : t.gmode = s.gmode
  boot : t.boot = s.boot
  loft : t.loft = s.loft
  fw : t.fw = s.fw
  attic : t.attic = s.attic
  cal : t.cal = s.cal
  otp : t.otp = s.otp
  ridge : t.ridge = s.ridge
  keys : t.keys = s.keys
  eng : t.eng = s.eng
  mbs : t.mbs = s.mbs
  responder : t.responder = s.responder
  tiles : t.tiles = s.tiles
  purlin : t.purlin = s.purlin
  memctl : t.memctl = s.memctl
  resp : t.resp = s.resp
  freeCtr : t.freeCtr = s.freeCtr
  host : t.host = { s.host with heads := t.host.heads }
  links : ∀ k : HeadId, (t.host.heads[k]).link = (s.host.heads[k]).link

theorem EventFrame.refl (s : State) : EventFrame s s :=
  ⟨rfl, rfl, rfl, rfl, rfl, rfl, rfl, rfl, rfl, rfl, rfl, rfl, rfl, rfl, rfl, rfl, rfl, rfl, rfl, fun _ => rfl⟩

theorem EventFrame.trans {s t u : State} (a : EventFrame s t) (b : EventFrame t u) : EventFrame s u :=
  ⟨b.pending.trans a.pending, b.gmode.trans a.gmode, b.boot.trans a.boot,
    b.loft.trans a.loft, b.fw.trans a.fw, b.attic.trans a.attic, b.cal.trans a.cal, b.otp.trans a.otp,
    b.ridge.trans a.ridge, b.keys.trans a.keys, b.eng.trans a.eng, b.mbs.trans a.mbs,
    b.responder.trans a.responder, b.tiles.trans a.tiles, b.purlin.trans a.purlin, b.memctl.trans a.memctl, b.resp.trans a.resp, b.freeCtr.trans a.freeCtr,
    by rw [b.host, a.host], fun k => (b.links k).trans (a.links k)⟩

theorem EventFrame.foldl {α : Type} (f : State → α → State) (h : ∀ s a, EventFrame s (f s a)) (l : List α) (s : State) :
    EventFrame s (l.foldl f s) := by
  induction l generalizing s with
  | nil => exact .refl s
  | cons a l ih => exact (h s a).trans (ih (f s a))

theorem EventFrame.tile {s t : State} (h : EventFrame s t) (x : TileId) : t.tile x = s.tile x := by
  simp [State.tile, h.tiles]
theorem EventFrame.mb {s t : State} (h : EventFrame s t) (x : LdId) : t.mb x = s.mb x := by simp [State.mb, h.mbs]
theorem EventFrame.reg {s t : State} (h : EventFrame s t) (x : Fin 320) : t.reg x = s.reg x := by
  simp [State.reg, h.ridge]
theorem EventFrame.slot {s t : State} (h : EventFrame s t) (x : Fin 256) : t.slot x = s.slot x := by
  simp [State.slot, h.keys]
theorem EventFrame.ld {s t : State} (h : EventFrame s t) (x : LdId) : t.ld x = s.ld x := by
  rw [State.ld, State.ld, h.host]

theorem modFn_frame (s : State) (f : LdId) (g : FnEvents → FnEvents) : EventFrame s (s.modFn f g) :=
  ⟨rfl, rfl, rfl, rfl, rfl, rfl, rfl, rfl, rfl, rfl, rfl, rfl, rfl, rfl, rfl, rfl, rfl, rfl, rfl, fun _ => rfl⟩

theorem gutter_frame (s : State) (g : Gutter) : EventFrame s { s with gutter := g } :=
  ⟨rfl, rfl, rfl, rfl, rfl, rfl, rfl, rfl, rfl, rfl, rfl, rfl, rfl, rfl, rfl, rfl, rfl, rfl, rfl, fun _ => rfl⟩

/-- A posted credit used is no part of a link. -/
theorem spend_frame (s : State) (h : HeadId) (f : LdId) : EventFrame s (s.modHead h (Head.spend f)) :=
  ⟨rfl, rfl, rfl, rfl, rfl, rfl, rfl, rfl, rfl, rfl, rfl, rfl, rfl, rfl, rfl, rfl, rfl, rfl, rfl, fun k => by
    by_cases e : h = k
    · subst e; simp [State.modHead, Head.link, Head.spend]
    · have : h.val ≠ k.val := fun q => e (Fin.ext q)
      simp [State.modHead, this]⟩

/-- One message touches its function and its head's credits (R484). -/
theorem sendMsg_frame (s : State) (f : LdId) (v : Nat) : EventFrame s (sendMsg s f v) := by
  unfold sendMsg
  dsimp only
  split
  · exact (spend_frame s _ f).trans (modFn_frame _ f _)
  · exact modFn_frame s f _

/-- A latch that rises touches its function and its message (R461). -/
theorem riseFn_frame (s : State) (f : LdId) (src : Nat) : EventFrame s (riseFn s f src) := by
  unfold riseFn
  dsimp only
  split
  · exact .refl s
  · split
    · exact modFn_frame s f _
    · split
      · exact (modFn_frame s f _).trans (modFn_frame _ f _)
      · exact (modFn_frame s f _).trans (sendMsg_frame _ f _)

theorem setLoft_frame (s : State) (src : Nat) : EventFrame s (setLoft s src) := gutter_frame s _

/-- A source's latches touch the Loft's latch and the functions (R461). -/
theorem setLatch_frame (s : State) (src : Nat) : EventFrame s (setLatch s src) :=
  (setLoft_frame s src).trans (EventFrame.foldl _ (fun s f => riseFn_frame s f src) _ _)

theorem setMbLatch_frame (s : State) (h : LdId) : EventFrame s (setMbLatch s h) :=
  (setLoft_frame s _).trans (riseFn_frame _ h _)

theorem EventFrame.ite {s a b : State} (c : Prop) [Decidable c] (ha : EventFrame s a) (hb : EventFrame s b) :
    EventFrame s (if c then a else b) := by
  split
  · exact ha
  · exact hb

/-- A dropped record touches the recorder and the latches (R469). -/
theorem dropRecord_frame (s : State) (r : Nat) (w : Waiting) : EventFrame s (dropRecord s r w) := by
  have step : ∀ t, EventFrame s t →
      EventFrame s (if w.source = 0x3FF then t else setLatch t w.source) := fun t h =>
    .ite _ h (h.trans (setLatch_frame t _))
  exact step _ (.ite _ ((gutter_frame s _).trans (setLatch_frame _ _)) (gutter_frame s _))

theorem enqueue_frame (s : State) (w : Waiting) : EventFrame s (enqueue s w) := by
  unfold enqueue
  split
  · exact gutter_frame s _
  · exact dropRecord_frame s 0 w

/-- A raise joins the recorder's queue or is dropped: it touches nothing else (R467, R469). -/
theorem raise_frame (s : State) (src tile : Nat) (p : Payload) : EventFrame s (raise s src tile p) := enqueue_frame s _

theorem raiseSev_frame (s : State) (src sev tile : Nat) (p : Payload) : EventFrame s (raiseSev s src sev tile p) :=
  enqueue_frame s _

theorem note_frame (s : State) (code sev tile : Nat) (p : Payload) : EventFrame s (note s code sev tile p) :=
  enqueue_frame s _

/-- A tile source of a fused-off tile never asserts (R458). -/
theorem raiseT_frame (s : State) (t : TileId) (k : Nat) (p : Payload) : EventFrame s (raiseT s t k p) := by
  unfold raiseT
  split
  · exact .refl s
  · exact raise_frame s _ _ p

theorem raiseT_fusedOff (s : State) (t : TileId) (k : Nat) (p : Payload) (h : fusedOff s t = true) :
    raiseT s t k p = s := by
  simp [raiseT, h]

/-- A raise that finds room in the queue is the last entry of it (R467). -/
theorem raise_queue (s : State) (src tile : Nat) (p : Payload) (h : s.gutter.queue.length < 256) :
    (raise s src tile p).gutter.queue = s.gutter.queue ++ [stamp s src (severityOf src) tile (p.toNat % 256) p] := by
  simp [raise, raiseSev, enqueue, h]

/-! ### raise -/

@[simp] theorem raise_pending (s : State) (k tile : Nat) (p : Payload) : (raise s k tile p).pending = s.pending :=
    (raise_frame s k tile p).pending
@[simp] theorem raise_gmode (s : State) (k tile : Nat) (p : Payload) : (raise s k tile p).gmode = s.gmode :=
    (raise_frame s k tile p).gmode
@[simp] theorem raise_boot (s : State) (k tile : Nat) (p : Payload) : (raise s k tile p).boot = s.boot :=
    (raise_frame s k tile p).boot
@[simp] theorem raise_loft (s : State) (k tile : Nat) (p : Payload) : (raise s k tile p).loft = s.loft :=
    (raise_frame s k tile p).loft
@[simp] theorem raise_fw (s : State) (k tile : Nat) (p : Payload) : (raise s k tile p).fw = s.fw := (raise_frame s k tile p).fw
@[simp] theorem raise_attic (s : State) (k tile : Nat) (p : Payload) : (raise s k tile p).attic = s.attic :=
    (raise_frame s k tile p).attic
@[simp] theorem raise_cal (s : State) (k tile : Nat) (p : Payload) : (raise s k tile p).cal = s.cal :=
    (raise_frame s k tile p).cal
@[simp] theorem raise_otp (s : State) (k tile : Nat) (p : Payload) : (raise s k tile p).otp = s.otp :=
    (raise_frame s k tile p).otp
@[simp] theorem raise_ridge (s : State) (k tile : Nat) (p : Payload) : (raise s k tile p).ridge = s.ridge :=
    (raise_frame s k tile p).ridge
@[simp] theorem raise_keys (s : State) (k tile : Nat) (p : Payload) : (raise s k tile p).keys = s.keys :=
    (raise_frame s k tile p).keys
@[simp] theorem raise_eng (s : State) (k tile : Nat) (p : Payload) : (raise s k tile p).eng = s.eng :=
    (raise_frame s k tile p).eng
@[simp] theorem raise_mbs (s : State) (k tile : Nat) (p : Payload) : (raise s k tile p).mbs = s.mbs :=
    (raise_frame s k tile p).mbs
@[simp] theorem raise_responder (s : State) (k tile : Nat) (p : Payload) : (raise s k tile p).responder = s.responder :=
    (raise_frame s k tile p).responder
@[simp] theorem raise_tiles (s : State) (k tile : Nat) (p : Payload) : (raise s k tile p).tiles = s.tiles :=
    (raise_frame s k tile p).tiles
@[simp] theorem raise_purlin (s : State) (k tile : Nat) (p : Payload) : (raise s k tile p).purlin = s.purlin :=
    (raise_frame s k tile p).purlin
@[simp] theorem raise_memctl (s : State) (k tile : Nat) (p : Payload) : (raise s k tile p).memctl = s.memctl :=
    (raise_frame s k tile p).memctl
@[simp] theorem raise_resp (s : State) (k tile : Nat) (p : Payload) : (raise s k tile p).resp = s.resp :=
    (raise_frame s k tile p).resp
@[simp] theorem raise_freeCtr (s : State) (k tile : Nat) (p : Payload) : (raise s k tile p).freeCtr = s.freeCtr :=
    (raise_frame s k tile p).freeCtr
@[simp] theorem raise_tileAt (s : State) (k tile : Nat) (p : Payload) (x : TileId) : (raise s k tile p).tile x = s.tile x :=
    (raise_frame s k tile p).tile x
@[simp] theorem raise_mbAt (s : State) (k tile : Nat) (p : Payload) (x : LdId) : (raise s k tile p).mb x = s.mb x :=
    (raise_frame s k tile p).mb x
@[simp] theorem raise_regAt (s : State) (k tile : Nat) (p : Payload) (x : Fin 320) : (raise s k tile p).reg x = s.reg x :=
    (raise_frame s k tile p).reg x
@[simp] theorem raise_slotAt (s : State) (k tile : Nat) (p : Payload) (x : Fin 256) : (raise s k tile p).slot x = s.slot x :=
    (raise_frame s k tile p).slot x
@[simp] theorem raise_ldAt (s : State) (k tile : Nat) (p : Payload) (x : LdId) : (raise s k tile p).ld x = s.ld x :=
    (raise_frame s k tile p).ld x

/-! ### raiseT -/

@[simp] theorem raiseT_pending (s : State) (t : TileId) (k : Nat) (p : Payload) : (raiseT s t k p).pending = s.pending :=
    (raiseT_frame s t k p).pending
@[simp] theorem raiseT_gmode (s : State) (t : TileId) (k : Nat) (p : Payload) : (raiseT s t k p).gmode = s.gmode :=
    (raiseT_frame s t k p).gmode
@[simp] theorem raiseT_boot (s : State) (t : TileId) (k : Nat) (p : Payload) : (raiseT s t k p).boot = s.boot :=
    (raiseT_frame s t k p).boot
@[simp] theorem raiseT_loft (s : State) (t : TileId) (k : Nat) (p : Payload) : (raiseT s t k p).loft = s.loft :=
    (raiseT_frame s t k p).loft
@[simp] theorem raiseT_fw (s : State) (t : TileId) (k : Nat) (p : Payload) : (raiseT s t k p).fw = s.fw :=
    (raiseT_frame s t k p).fw
@[simp] theorem raiseT_attic (s : State) (t : TileId) (k : Nat) (p : Payload) : (raiseT s t k p).attic = s.attic :=
    (raiseT_frame s t k p).attic
@[simp] theorem raiseT_cal (s : State) (t : TileId) (k : Nat) (p : Payload) : (raiseT s t k p).cal = s.cal :=
    (raiseT_frame s t k p).cal
@[simp] theorem raiseT_otp (s : State) (t : TileId) (k : Nat) (p : Payload) : (raiseT s t k p).otp = s.otp :=
    (raiseT_frame s t k p).otp
@[simp] theorem raiseT_ridge (s : State) (t : TileId) (k : Nat) (p : Payload) : (raiseT s t k p).ridge = s.ridge :=
    (raiseT_frame s t k p).ridge
@[simp] theorem raiseT_keys (s : State) (t : TileId) (k : Nat) (p : Payload) : (raiseT s t k p).keys = s.keys :=
    (raiseT_frame s t k p).keys
@[simp] theorem raiseT_eng (s : State) (t : TileId) (k : Nat) (p : Payload) : (raiseT s t k p).eng = s.eng :=
    (raiseT_frame s t k p).eng
@[simp] theorem raiseT_mbs (s : State) (t : TileId) (k : Nat) (p : Payload) : (raiseT s t k p).mbs = s.mbs :=
    (raiseT_frame s t k p).mbs
@[simp] theorem raiseT_responder (s : State) (t : TileId) (k : Nat) (p : Payload) : (raiseT s t k p).responder = s.responder :=
    (raiseT_frame s t k p).responder
@[simp] theorem raiseT_tiles (s : State) (t : TileId) (k : Nat) (p : Payload) : (raiseT s t k p).tiles = s.tiles :=
    (raiseT_frame s t k p).tiles
@[simp] theorem raiseT_purlin (s : State) (t : TileId) (k : Nat) (p : Payload) : (raiseT s t k p).purlin = s.purlin :=
    (raiseT_frame s t k p).purlin
@[simp] theorem raiseT_memctl (s : State) (t : TileId) (k : Nat) (p : Payload) : (raiseT s t k p).memctl = s.memctl :=
    (raiseT_frame s t k p).memctl
@[simp] theorem raiseT_resp (s : State) (t : TileId) (k : Nat) (p : Payload) : (raiseT s t k p).resp = s.resp :=
    (raiseT_frame s t k p).resp
@[simp] theorem raiseT_freeCtr (s : State) (t : TileId) (k : Nat) (p : Payload) : (raiseT s t k p).freeCtr = s.freeCtr :=
    (raiseT_frame s t k p).freeCtr
@[simp] theorem raiseT_tileAt (s : State) (t : TileId) (k : Nat) (p : Payload) (x : TileId) : (raiseT s t k p).tile x = s.tile x :=
    (raiseT_frame s t k p).tile x
@[simp] theorem raiseT_mbAt (s : State) (t : TileId) (k : Nat) (p : Payload) (x : LdId) : (raiseT s t k p).mb x = s.mb x :=
    (raiseT_frame s t k p).mb x
@[simp] theorem raiseT_regAt (s : State) (t : TileId) (k : Nat) (p : Payload) (x : Fin 320) : (raiseT s t k p).reg x = s.reg x :=
    (raiseT_frame s t k p).reg x
@[simp] theorem raiseT_slotAt (s : State) (t : TileId) (k : Nat) (p : Payload) (x : Fin 256) : (raiseT s t k p).slot x = s.slot x :=
    (raiseT_frame s t k p).slot x
@[simp] theorem raiseT_ldAt (s : State) (t : TileId) (k : Nat) (p : Payload) (x : LdId) : (raiseT s t k p).ld x = s.ld x :=
    (raiseT_frame s t k p).ld x

/-! ### raiseSev -/

@[simp] theorem raiseSev_pending (s : State) (k sev tile : Nat) (p : Payload) : (raiseSev s k sev tile p).pending = s.pending :=
    (raiseSev_frame s k sev tile p).pending
@[simp] theorem raiseSev_gmode (s : State) (k sev tile : Nat) (p : Payload) : (raiseSev s k sev tile p).gmode = s.gmode :=
    (raiseSev_frame s k sev tile p).gmode
@[simp] theorem raiseSev_boot (s : State) (k sev tile : Nat) (p : Payload) : (raiseSev s k sev tile p).boot = s.boot :=
    (raiseSev_frame s k sev tile p).boot
@[simp] theorem raiseSev_loft (s : State) (k sev tile : Nat) (p : Payload) : (raiseSev s k sev tile p).loft = s.loft :=
    (raiseSev_frame s k sev tile p).loft
@[simp] theorem raiseSev_fw (s : State) (k sev tile : Nat) (p : Payload) : (raiseSev s k sev tile p).fw = s.fw :=
    (raiseSev_frame s k sev tile p).fw
@[simp] theorem raiseSev_attic (s : State) (k sev tile : Nat) (p : Payload) : (raiseSev s k sev tile p).attic = s.attic :=
    (raiseSev_frame s k sev tile p).attic
@[simp] theorem raiseSev_cal (s : State) (k sev tile : Nat) (p : Payload) : (raiseSev s k sev tile p).cal = s.cal :=
    (raiseSev_frame s k sev tile p).cal
@[simp] theorem raiseSev_otp (s : State) (k sev tile : Nat) (p : Payload) : (raiseSev s k sev tile p).otp = s.otp :=
    (raiseSev_frame s k sev tile p).otp
@[simp] theorem raiseSev_ridge (s : State) (k sev tile : Nat) (p : Payload) : (raiseSev s k sev tile p).ridge = s.ridge :=
    (raiseSev_frame s k sev tile p).ridge
@[simp] theorem raiseSev_keys (s : State) (k sev tile : Nat) (p : Payload) : (raiseSev s k sev tile p).keys = s.keys :=
    (raiseSev_frame s k sev tile p).keys
@[simp] theorem raiseSev_eng (s : State) (k sev tile : Nat) (p : Payload) : (raiseSev s k sev tile p).eng = s.eng :=
    (raiseSev_frame s k sev tile p).eng
@[simp] theorem raiseSev_mbs (s : State) (k sev tile : Nat) (p : Payload) : (raiseSev s k sev tile p).mbs = s.mbs :=
    (raiseSev_frame s k sev tile p).mbs
@[simp] theorem raiseSev_responder (s : State) (k sev tile : Nat) (p : Payload) : (raiseSev s k sev tile p).responder = s.responder :=
    (raiseSev_frame s k sev tile p).responder
@[simp] theorem raiseSev_tiles (s : State) (k sev tile : Nat) (p : Payload) : (raiseSev s k sev tile p).tiles = s.tiles :=
    (raiseSev_frame s k sev tile p).tiles
@[simp] theorem raiseSev_purlin (s : State) (k sev tile : Nat) (p : Payload) : (raiseSev s k sev tile p).purlin = s.purlin :=
    (raiseSev_frame s k sev tile p).purlin
@[simp] theorem raiseSev_memctl (s : State) (k sev tile : Nat) (p : Payload) : (raiseSev s k sev tile p).memctl = s.memctl :=
    (raiseSev_frame s k sev tile p).memctl
@[simp] theorem raiseSev_resp (s : State) (k sev tile : Nat) (p : Payload) : (raiseSev s k sev tile p).resp = s.resp :=
    (raiseSev_frame s k sev tile p).resp
@[simp] theorem raiseSev_freeCtr (s : State) (k sev tile : Nat) (p : Payload) : (raiseSev s k sev tile p).freeCtr = s.freeCtr :=
    (raiseSev_frame s k sev tile p).freeCtr
@[simp] theorem raiseSev_tileAt (s : State) (k sev tile : Nat) (p : Payload) (x : TileId) : (raiseSev s k sev tile p).tile x = s.tile x :=
    (raiseSev_frame s k sev tile p).tile x
@[simp] theorem raiseSev_mbAt (s : State) (k sev tile : Nat) (p : Payload) (x : LdId) : (raiseSev s k sev tile p).mb x = s.mb x :=
    (raiseSev_frame s k sev tile p).mb x
@[simp] theorem raiseSev_regAt (s : State) (k sev tile : Nat) (p : Payload) (x : Fin 320) : (raiseSev s k sev tile p).reg x = s.reg x :=
    (raiseSev_frame s k sev tile p).reg x
@[simp] theorem raiseSev_slotAt (s : State) (k sev tile : Nat) (p : Payload) (x : Fin 256) : (raiseSev s k sev tile p).slot x = s.slot x :=
    (raiseSev_frame s k sev tile p).slot x
@[simp] theorem raiseSev_ldAt (s : State) (k sev tile : Nat) (p : Payload) (x : LdId) : (raiseSev s k sev tile p).ld x = s.ld x :=
    (raiseSev_frame s k sev tile p).ld x

/-! ### note -/

@[simp] theorem note_pending (s : State) (k sev tile : Nat) (p : Payload) : (note s k sev tile p).pending = s.pending :=
    (note_frame s k sev tile p).pending
@[simp] theorem note_gmode (s : State) (k sev tile : Nat) (p : Payload) : (note s k sev tile p).gmode = s.gmode :=
    (note_frame s k sev tile p).gmode
@[simp] theorem note_boot (s : State) (k sev tile : Nat) (p : Payload) : (note s k sev tile p).boot = s.boot :=
    (note_frame s k sev tile p).boot
@[simp] theorem note_loft (s : State) (k sev tile : Nat) (p : Payload) : (note s k sev tile p).loft = s.loft :=
    (note_frame s k sev tile p).loft
@[simp] theorem note_fw (s : State) (k sev tile : Nat) (p : Payload) : (note s k sev tile p).fw = s.fw :=
    (note_frame s k sev tile p).fw
@[simp] theorem note_attic (s : State) (k sev tile : Nat) (p : Payload) : (note s k sev tile p).attic = s.attic :=
    (note_frame s k sev tile p).attic
@[simp] theorem note_cal (s : State) (k sev tile : Nat) (p : Payload) : (note s k sev tile p).cal = s.cal :=
    (note_frame s k sev tile p).cal
@[simp] theorem note_otp (s : State) (k sev tile : Nat) (p : Payload) : (note s k sev tile p).otp = s.otp :=
    (note_frame s k sev tile p).otp
@[simp] theorem note_ridge (s : State) (k sev tile : Nat) (p : Payload) : (note s k sev tile p).ridge = s.ridge :=
    (note_frame s k sev tile p).ridge
@[simp] theorem note_keys (s : State) (k sev tile : Nat) (p : Payload) : (note s k sev tile p).keys = s.keys :=
    (note_frame s k sev tile p).keys
@[simp] theorem note_eng (s : State) (k sev tile : Nat) (p : Payload) : (note s k sev tile p).eng = s.eng :=
    (note_frame s k sev tile p).eng
@[simp] theorem note_mbs (s : State) (k sev tile : Nat) (p : Payload) : (note s k sev tile p).mbs = s.mbs :=
    (note_frame s k sev tile p).mbs
@[simp] theorem note_responder (s : State) (k sev tile : Nat) (p : Payload) : (note s k sev tile p).responder = s.responder :=
    (note_frame s k sev tile p).responder
@[simp] theorem note_tiles (s : State) (k sev tile : Nat) (p : Payload) : (note s k sev tile p).tiles = s.tiles :=
    (note_frame s k sev tile p).tiles
@[simp] theorem note_purlin (s : State) (k sev tile : Nat) (p : Payload) : (note s k sev tile p).purlin = s.purlin :=
    (note_frame s k sev tile p).purlin
@[simp] theorem note_memctl (s : State) (k sev tile : Nat) (p : Payload) : (note s k sev tile p).memctl = s.memctl :=
    (note_frame s k sev tile p).memctl
@[simp] theorem note_resp (s : State) (k sev tile : Nat) (p : Payload) : (note s k sev tile p).resp = s.resp :=
    (note_frame s k sev tile p).resp
@[simp] theorem note_freeCtr (s : State) (k sev tile : Nat) (p : Payload) : (note s k sev tile p).freeCtr = s.freeCtr :=
    (note_frame s k sev tile p).freeCtr
@[simp] theorem note_tileAt (s : State) (k sev tile : Nat) (p : Payload) (x : TileId) : (note s k sev tile p).tile x = s.tile x :=
    (note_frame s k sev tile p).tile x
@[simp] theorem note_mbAt (s : State) (k sev tile : Nat) (p : Payload) (x : LdId) : (note s k sev tile p).mb x = s.mb x :=
    (note_frame s k sev tile p).mb x
@[simp] theorem note_regAt (s : State) (k sev tile : Nat) (p : Payload) (x : Fin 320) : (note s k sev tile p).reg x = s.reg x :=
    (note_frame s k sev tile p).reg x
@[simp] theorem note_slotAt (s : State) (k sev tile : Nat) (p : Payload) (x : Fin 256) : (note s k sev tile p).slot x = s.slot x :=
    (note_frame s k sev tile p).slot x
@[simp] theorem note_ldAt (s : State) (k sev tile : Nat) (p : Payload) (x : LdId) : (note s k sev tile p).ld x = s.ld x :=
    (note_frame s k sev tile p).ld x

/-! ### setLatch -/

@[simp] theorem setLatch_pending (s : State) (k : Nat) : (setLatch s k).pending = s.pending := (setLatch_frame s k).pending
@[simp] theorem setLatch_gmode (s : State) (k : Nat) : (setLatch s k).gmode = s.gmode := (setLatch_frame s k).gmode
@[simp] theorem setLatch_boot (s : State) (k : Nat) : (setLatch s k).boot = s.boot := (setLatch_frame s k).boot
@[simp] theorem setLatch_loft (s : State) (k : Nat) : (setLatch s k).loft = s.loft := (setLatch_frame s k).loft
@[simp] theorem setLatch_fw (s : State) (k : Nat) : (setLatch s k).fw = s.fw := (setLatch_frame s k).fw
@[simp] theorem setLatch_attic (s : State) (k : Nat) : (setLatch s k).attic = s.attic := (setLatch_frame s k).attic
@[simp] theorem setLatch_cal (s : State) (k : Nat) : (setLatch s k).cal = s.cal := (setLatch_frame s k).cal
@[simp] theorem setLatch_otp (s : State) (k : Nat) : (setLatch s k).otp = s.otp := (setLatch_frame s k).otp
@[simp] theorem setLatch_ridge (s : State) (k : Nat) : (setLatch s k).ridge = s.ridge := (setLatch_frame s k).ridge
@[simp] theorem setLatch_keys (s : State) (k : Nat) : (setLatch s k).keys = s.keys := (setLatch_frame s k).keys
@[simp] theorem setLatch_eng (s : State) (k : Nat) : (setLatch s k).eng = s.eng := (setLatch_frame s k).eng
@[simp] theorem setLatch_mbs (s : State) (k : Nat) : (setLatch s k).mbs = s.mbs := (setLatch_frame s k).mbs
@[simp] theorem setLatch_responder (s : State) (k : Nat) : (setLatch s k).responder = s.responder :=
    (setLatch_frame s k).responder
@[simp] theorem setLatch_tiles (s : State) (k : Nat) : (setLatch s k).tiles = s.tiles := (setLatch_frame s k).tiles
@[simp] theorem setLatch_purlin (s : State) (k : Nat) : (setLatch s k).purlin = s.purlin := (setLatch_frame s k).purlin
@[simp] theorem setLatch_memctl (s : State) (k : Nat) : (setLatch s k).memctl = s.memctl := (setLatch_frame s k).memctl
@[simp] theorem setLatch_resp (s : State) (k : Nat) : (setLatch s k).resp = s.resp := (setLatch_frame s k).resp
@[simp] theorem setLatch_freeCtr (s : State) (k : Nat) : (setLatch s k).freeCtr = s.freeCtr := (setLatch_frame s k).freeCtr
@[simp] theorem setLatch_tileAt (s : State) (k : Nat) (x : TileId) : (setLatch s k).tile x = s.tile x :=
    (setLatch_frame s k).tile x
@[simp] theorem setLatch_mbAt (s : State) (k : Nat) (x : LdId) : (setLatch s k).mb x = s.mb x := (setLatch_frame s k).mb x
@[simp] theorem setLatch_regAt (s : State) (k : Nat) (x : Fin 320) : (setLatch s k).reg x = s.reg x :=
    (setLatch_frame s k).reg x
@[simp] theorem setLatch_slotAt (s : State) (k : Nat) (x : Fin 256) : (setLatch s k).slot x = s.slot x :=
    (setLatch_frame s k).slot x
@[simp] theorem setLatch_ldAt (s : State) (k : Nat) (x : LdId) : (setLatch s k).ld x = s.ld x := (setLatch_frame s k).ld x

/-! ### setMbLatch -/

@[simp] theorem setMbLatch_pending (s : State) (h : LdId) : (setMbLatch s h).pending = s.pending :=
    (setMbLatch_frame s h).pending
@[simp] theorem setMbLatch_gmode (s : State) (h : LdId) : (setMbLatch s h).gmode = s.gmode := (setMbLatch_frame s h).gmode
@[simp] theorem setMbLatch_boot (s : State) (h : LdId) : (setMbLatch s h).boot = s.boot := (setMbLatch_frame s h).boot
@[simp] theorem setMbLatch_loft (s : State) (h : LdId) : (setMbLatch s h).loft = s.loft := (setMbLatch_frame s h).loft
@[simp] theorem setMbLatch_fw (s : State) (h : LdId) : (setMbLatch s h).fw = s.fw := (setMbLatch_frame s h).fw
@[simp] theorem setMbLatch_attic (s : State) (h : LdId) : (setMbLatch s h).attic = s.attic := (setMbLatch_frame s h).attic
@[simp] theorem setMbLatch_cal (s : State) (h : LdId) : (setMbLatch s h).cal = s.cal := (setMbLatch_frame s h).cal
@[simp] theorem setMbLatch_otp (s : State) (h : LdId) : (setMbLatch s h).otp = s.otp := (setMbLatch_frame s h).otp
@[simp] theorem setMbLatch_ridge (s : State) (h : LdId) : (setMbLatch s h).ridge = s.ridge := (setMbLatch_frame s h).ridge
@[simp] theorem setMbLatch_keys (s : State) (h : LdId) : (setMbLatch s h).keys = s.keys := (setMbLatch_frame s h).keys
@[simp] theorem setMbLatch_eng (s : State) (h : LdId) : (setMbLatch s h).eng = s.eng := (setMbLatch_frame s h).eng
@[simp] theorem setMbLatch_mbs (s : State) (h : LdId) : (setMbLatch s h).mbs = s.mbs := (setMbLatch_frame s h).mbs
@[simp] theorem setMbLatch_responder (s : State) (h : LdId) : (setMbLatch s h).responder = s.responder :=
    (setMbLatch_frame s h).responder
@[simp] theorem setMbLatch_tiles (s : State) (h : LdId) : (setMbLatch s h).tiles = s.tiles := (setMbLatch_frame s h).tiles
@[simp] theorem setMbLatch_purlin (s : State) (h : LdId) : (setMbLatch s h).purlin = s.purlin := (setMbLatch_frame s h).purlin
@[simp] theorem setMbLatch_memctl (s : State) (h : LdId) : (setMbLatch s h).memctl = s.memctl := (setMbLatch_frame s h).memctl
@[simp] theorem setMbLatch_resp (s : State) (h : LdId) : (setMbLatch s h).resp = s.resp := (setMbLatch_frame s h).resp
@[simp] theorem setMbLatch_freeCtr (s : State) (h : LdId) : (setMbLatch s h).freeCtr = s.freeCtr :=
    (setMbLatch_frame s h).freeCtr
@[simp] theorem setMbLatch_tileAt (s : State) (h : LdId) (x : TileId) : (setMbLatch s h).tile x = s.tile x :=
    (setMbLatch_frame s h).tile x
@[simp] theorem setMbLatch_mbAt (s : State) (h : LdId) (x : LdId) : (setMbLatch s h).mb x = s.mb x :=
    (setMbLatch_frame s h).mb x
@[simp] theorem setMbLatch_regAt (s : State) (h : LdId) (x : Fin 320) : (setMbLatch s h).reg x = s.reg x :=
    (setMbLatch_frame s h).reg x
@[simp] theorem setMbLatch_slotAt (s : State) (h : LdId) (x : Fin 256) : (setMbLatch s h).slot x = s.slot x :=
    (setMbLatch_frame s h).slot x
@[simp] theorem setMbLatch_ldAt (s : State) (h : LdId) (x : LdId) : (setMbLatch s h).ld x = s.ld x :=
    (setMbLatch_frame s h).ld x

/-! ### riseFn -/

@[simp] theorem riseFn_pending (s : State) (f : LdId) (k : Nat) : (riseFn s f k).pending = s.pending :=
    (riseFn_frame s f k).pending
@[simp] theorem riseFn_gmode (s : State) (f : LdId) (k : Nat) : (riseFn s f k).gmode = s.gmode := (riseFn_frame s f k).gmode
@[simp] theorem riseFn_boot (s : State) (f : LdId) (k : Nat) : (riseFn s f k).boot = s.boot := (riseFn_frame s f k).boot
@[simp] theorem riseFn_loft (s : State) (f : LdId) (k : Nat) : (riseFn s f k).loft = s.loft := (riseFn_frame s f k).loft
@[simp] theorem riseFn_fw (s : State) (f : LdId) (k : Nat) : (riseFn s f k).fw = s.fw := (riseFn_frame s f k).fw
@[simp] theorem riseFn_attic (s : State) (f : LdId) (k : Nat) : (riseFn s f k).attic = s.attic := (riseFn_frame s f k).attic
@[simp] theorem riseFn_cal (s : State) (f : LdId) (k : Nat) : (riseFn s f k).cal = s.cal := (riseFn_frame s f k).cal
@[simp] theorem riseFn_otp (s : State) (f : LdId) (k : Nat) : (riseFn s f k).otp = s.otp := (riseFn_frame s f k).otp
@[simp] theorem riseFn_ridge (s : State) (f : LdId) (k : Nat) : (riseFn s f k).ridge = s.ridge := (riseFn_frame s f k).ridge
@[simp] theorem riseFn_keys (s : State) (f : LdId) (k : Nat) : (riseFn s f k).keys = s.keys := (riseFn_frame s f k).keys
@[simp] theorem riseFn_eng (s : State) (f : LdId) (k : Nat) : (riseFn s f k).eng = s.eng := (riseFn_frame s f k).eng
@[simp] theorem riseFn_mbs (s : State) (f : LdId) (k : Nat) : (riseFn s f k).mbs = s.mbs := (riseFn_frame s f k).mbs
@[simp] theorem riseFn_responder (s : State) (f : LdId) (k : Nat) : (riseFn s f k).responder = s.responder :=
    (riseFn_frame s f k).responder
@[simp] theorem riseFn_tiles (s : State) (f : LdId) (k : Nat) : (riseFn s f k).tiles = s.tiles := (riseFn_frame s f k).tiles
@[simp] theorem riseFn_purlin (s : State) (f : LdId) (k : Nat) : (riseFn s f k).purlin = s.purlin := (riseFn_frame s f k).purlin
@[simp] theorem riseFn_memctl (s : State) (f : LdId) (k : Nat) : (riseFn s f k).memctl = s.memctl := (riseFn_frame s f k).memctl
@[simp] theorem riseFn_resp (s : State) (f : LdId) (k : Nat) : (riseFn s f k).resp = s.resp := (riseFn_frame s f k).resp
@[simp] theorem riseFn_freeCtr (s : State) (f : LdId) (k : Nat) : (riseFn s f k).freeCtr = s.freeCtr :=
    (riseFn_frame s f k).freeCtr
@[simp] theorem riseFn_tileAt (s : State) (f : LdId) (k : Nat) (x : TileId) : (riseFn s f k).tile x = s.tile x :=
    (riseFn_frame s f k).tile x
@[simp] theorem riseFn_mbAt (s : State) (f : LdId) (k : Nat) (x : LdId) : (riseFn s f k).mb x = s.mb x :=
    (riseFn_frame s f k).mb x
@[simp] theorem riseFn_regAt (s : State) (f : LdId) (k : Nat) (x : Fin 320) : (riseFn s f k).reg x = s.reg x :=
    (riseFn_frame s f k).reg x
@[simp] theorem riseFn_slotAt (s : State) (f : LdId) (k : Nat) (x : Fin 256) : (riseFn s f k).slot x = s.slot x :=
    (riseFn_frame s f k).slot x
@[simp] theorem riseFn_ldAt (s : State) (f : LdId) (k : Nat) (x : LdId) : (riseFn s f k).ld x = s.ld x :=
    (riseFn_frame s f k).ld x

/-! ### sendMsg -/

@[simp] theorem sendMsg_pending (s : State) (f : LdId) (v : Nat) : (sendMsg s f v).pending = s.pending :=
    (sendMsg_frame s f v).pending
@[simp] theorem sendMsg_gmode (s : State) (f : LdId) (v : Nat) : (sendMsg s f v).gmode = s.gmode := (sendMsg_frame s f v).gmode
@[simp] theorem sendMsg_boot (s : State) (f : LdId) (v : Nat) : (sendMsg s f v).boot = s.boot := (sendMsg_frame s f v).boot
@[simp] theorem sendMsg_loft (s : State) (f : LdId) (v : Nat) : (sendMsg s f v).loft = s.loft := (sendMsg_frame s f v).loft
@[simp] theorem sendMsg_fw (s : State) (f : LdId) (v : Nat) : (sendMsg s f v).fw = s.fw := (sendMsg_frame s f v).fw
@[simp] theorem sendMsg_attic (s : State) (f : LdId) (v : Nat) : (sendMsg s f v).attic = s.attic := (sendMsg_frame s f v).attic
@[simp] theorem sendMsg_cal (s : State) (f : LdId) (v : Nat) : (sendMsg s f v).cal = s.cal := (sendMsg_frame s f v).cal
@[simp] theorem sendMsg_otp (s : State) (f : LdId) (v : Nat) : (sendMsg s f v).otp = s.otp := (sendMsg_frame s f v).otp
@[simp] theorem sendMsg_ridge (s : State) (f : LdId) (v : Nat) : (sendMsg s f v).ridge = s.ridge := (sendMsg_frame s f v).ridge
@[simp] theorem sendMsg_keys (s : State) (f : LdId) (v : Nat) : (sendMsg s f v).keys = s.keys := (sendMsg_frame s f v).keys
@[simp] theorem sendMsg_eng (s : State) (f : LdId) (v : Nat) : (sendMsg s f v).eng = s.eng := (sendMsg_frame s f v).eng
@[simp] theorem sendMsg_mbs (s : State) (f : LdId) (v : Nat) : (sendMsg s f v).mbs = s.mbs := (sendMsg_frame s f v).mbs
@[simp] theorem sendMsg_responder (s : State) (f : LdId) (v : Nat) : (sendMsg s f v).responder = s.responder :=
    (sendMsg_frame s f v).responder
@[simp] theorem sendMsg_tiles (s : State) (f : LdId) (v : Nat) : (sendMsg s f v).tiles = s.tiles := (sendMsg_frame s f v).tiles
@[simp] theorem sendMsg_purlin (s : State) (f : LdId) (v : Nat) : (sendMsg s f v).purlin = s.purlin :=
    (sendMsg_frame s f v).purlin
@[simp] theorem sendMsg_memctl (s : State) (f : LdId) (v : Nat) : (sendMsg s f v).memctl = s.memctl :=
    (sendMsg_frame s f v).memctl
@[simp] theorem sendMsg_resp (s : State) (f : LdId) (v : Nat) : (sendMsg s f v).resp = s.resp := (sendMsg_frame s f v).resp
@[simp] theorem sendMsg_freeCtr (s : State) (f : LdId) (v : Nat) : (sendMsg s f v).freeCtr = s.freeCtr :=
    (sendMsg_frame s f v).freeCtr
@[simp] theorem sendMsg_tileAt (s : State) (f : LdId) (v : Nat) (x : TileId) : (sendMsg s f v).tile x = s.tile x :=
    (sendMsg_frame s f v).tile x
@[simp] theorem sendMsg_mbAt (s : State) (f : LdId) (v : Nat) (x : LdId) : (sendMsg s f v).mb x = s.mb x :=
    (sendMsg_frame s f v).mb x
@[simp] theorem sendMsg_regAt (s : State) (f : LdId) (v : Nat) (x : Fin 320) : (sendMsg s f v).reg x = s.reg x :=
    (sendMsg_frame s f v).reg x
@[simp] theorem sendMsg_slotAt (s : State) (f : LdId) (v : Nat) (x : Fin 256) : (sendMsg s f v).slot x = s.slot x :=
    (sendMsg_frame s f v).slot x
@[simp] theorem sendMsg_ldAt (s : State) (f : LdId) (v : Nat) (x : LdId) : (sendMsg s f v).ld x = s.ld x :=
    (sendMsg_frame s f v).ld x

end Sys2Proof.Machine
end

