-- ==== Sys2Proof/Laws/Memory.lean ====
section
/-! SUPPORT. Sparse arrays and memory areas: a read after a write, and the canonical form that every operation keeps. -/

namespace Sys2Proof.Machine

open Sys2Proof

/-- What an index reads after one index was set. -/
theorem Sparse.get_set {w : Nat} (d : BitVec w) (m : List (Nat × BitVec w)) (a b : Nat) (v : BitVec w) (lo : Nat)
    (h : Sparse.wfFrom d lo m = true) :
    Sparse.get d (Sparse.set d m a v) b = if b = a then v else Sparse.get d m b := by
  induction m generalizing lo with
  | nil =>
    simp only [Sparse.set]
    split <;> split <;> simp_all [Sparse.get]
  | cons c m ih =>
    obtain ⟨k, x⟩ := c
    simp only [Sparse.wfFrom, Bool.and_eq_true, decide_eq_true_eq] at h
    obtain ⟨⟨hlo, hx⟩, hm⟩ := h
    have below : ∀ (m : List (Nat × BitVec w)) (lo b : Nat), Sparse.wfFrom d lo m = true → b < lo → Sparse.get d m b = d := by
      intro m
      induction m with
      | nil => intros; rfl
      | cons c m ih =>
        intro lo b h hb
        obtain ⟨k, x⟩ := c
        simp only [Sparse.wfFrom, Bool.and_eq_true, decide_eq_true_eq] at h
        have : b ≠ k := by omega
        simp only [Sparse.get, if_neg this]
        exact ih (k + 1) b h.2 (by omega)
    simp only [Sparse.set]
    by_cases hak : a < k
    · rw [if_pos hak]
      by_cases hv : v = d
      · rw [if_pos hv]
        by_cases hb : b = a
        · have : b ≠ k := by omega
          simp only [Sparse.get, if_neg this, if_pos hb, hv]
          exact below m (k + 1) b hm (by omega)
        · rw [if_neg hb]
      · rw [if_neg hv]; simp only [Sparse.get]
    · rw [if_neg hak]
      by_cases hk : a = k
      · subst hk
        rw [if_pos rfl]
        by_cases hv : v = d
        · rw [if_pos hv]
          by_cases hb : b = a
          · rw [if_pos hb, hv]; exact below m (a + 1) b hm (by omega)
          · simp only [Sparse.get, if_neg hb]
        · rw [if_neg hv]
          by_cases hb : b = a <;> simp [Sparse.get, hb]
      · rw [if_neg hk]
        simp only [Sparse.get]
        by_cases hb : b = k
        · have : b ≠ a := by omega
          simp [hb, Ne.symm hk]
        · simp only [if_neg hb]
          exact ih (k + 1) hm

/-- Setting an index keeps the canonical form. -/
theorem Sparse.wfFrom_set {w : Nat} (d : BitVec w) (m : List (Nat × BitVec w)) (a lo : Nat) (v : BitVec w)
    (h : Sparse.wfFrom d lo m = true) (ha : lo ≤ a) : Sparse.wfFrom d lo (Sparse.set d m a v) = true := by
  induction m generalizing lo with
  | nil =>
    simp only [Sparse.set]
    split
    · rfl
    · simp [Sparse.wfFrom, *]
  | cons c m ih =>
    obtain ⟨k, x⟩ := c
    simp only [Sparse.wfFrom, Bool.and_eq_true, decide_eq_true_eq] at h
    obtain ⟨⟨hlo, hx⟩, hm⟩ := h
    simp only [Sparse.set]
    by_cases hak : a < k
    · rw [if_pos hak]
      by_cases hv : v = d
      · rw [if_pos hv]; simp [Sparse.wfFrom, hlo, hx, hm]
      · rw [if_neg hv]
        simp only [Sparse.wfFrom, Bool.and_eq_true, decide_eq_true_eq]
        exact ⟨⟨ha, hv⟩, ⟨by omega, hx⟩, hm⟩
    · rw [if_neg hak]
      by_cases hk : a = k
      · subst hk
        rw [if_pos rfl]
        by_cases hv : v = d
        · rw [if_pos hv]
          have mono : ∀ (m : List (Nat × BitVec w)) (i j : Nat), i ≤ j → Sparse.wfFrom d j m = true → Sparse.wfFrom d i m = true := by
            intro m i j hij hj
            cases m with
            | nil => rfl
            | cons c m =>
              obtain ⟨k, x⟩ := c
              simp only [Sparse.wfFrom, Bool.and_eq_true, decide_eq_true_eq] at hj ⊢
              exact ⟨⟨by omega, hj.1.2⟩, hj.2⟩
          exact mono m lo (a + 1) (by omega) hm
        · rw [if_neg hv]
          simp only [Sparse.wfFrom, Bool.and_eq_true, decide_eq_true_eq]
          exact ⟨⟨ha, hv⟩, hm⟩
      · rw [if_neg hk]
        simp only [Sparse.wfFrom, Bool.and_eq_true, decide_eq_true_eq]
        exact ⟨⟨hlo, hx⟩, ih (k + 1) hm (by omega)⟩

/-- Storing bytes keeps the canonical form. -/
theorem Memory.wf_write (d : Byte) (m : List Host.Cell) (a : Nat) (bs : List Byte) (h : Memory.wf d m = true) :
    Memory.wf d (Memory.write d m a bs) = true := by
  induction bs generalizing m a with
  | nil => exact h
  | cons b bs ih => exact ih _ _ (Sparse.wfFrom_set d m a 0 b h (Nat.zero_le _))

/-- Filling keeps the canonical form. -/
theorem Memory.wf_fill (d : Byte) (m : List Host.Cell) (a n : Nat) (v : Byte) (h : Memory.wf d m = true) :
    Memory.wf d (Memory.fill d m a n v) = true := Memory.wf_write d m a _ h

/-- Programming keeps the canonical form. -/
theorem Memory.wf_program (d : Byte) (m : List Host.Cell) (a : Nat) (bs : List Byte) (h : Memory.wf d m = true) :
    Memory.wf d (Memory.program d m a bs) = true := by
  induction bs generalizing m a with
  | nil => exact h
  | cons b bs ih => exact ih _ _ (Sparse.wfFrom_set d m a 0 _ h (Nat.zero_le _))

/-- Leaving entries out keeps the canonical form. -/
theorem Sparse.wfFrom_filter {w : Nat} (d : BitVec w) (m : List (Nat × BitVec w)) (lo : Nat) (p : Nat × BitVec w → Bool)
    (h : Sparse.wfFrom d lo m = true) : Sparse.wfFrom d lo (m.filter p) = true := by
  induction m generalizing lo with
  | nil => rfl
  | cons c m ih =>
    obtain ⟨k, x⟩ := c
    simp only [Sparse.wfFrom, Bool.and_eq_true, decide_eq_true_eq] at h
    obtain ⟨⟨hlo, hx⟩, hm⟩ := h
    have up : Sparse.wfFrom d lo (m.filter p) = true := by
      have := ih (k + 1) hm
      revert this
      cases m.filter p with
      | nil => intro; rfl
      | cons c r =>
        obtain ⟨k', x'⟩ := c
        simp only [Sparse.wfFrom, Bool.and_eq_true, decide_eq_true_eq]
        exact fun g => ⟨⟨by omega, g.1.2⟩, g.2⟩
    rw [List.filter_cons]
    split
    · simp only [Sparse.wfFrom, Bool.and_eq_true, decide_eq_true_eq]
      exact ⟨⟨hlo, hx⟩, ih (k + 1) hm⟩
    · exact up

/-- Erasing keeps the canonical form. -/
theorem Memory.wf_erase (d : Byte) (m : List Host.Cell) (a n : Nat) (h : Memory.wf d m = true) :
    Memory.wf d (Memory.erase m a n) = true := Sparse.wfFrom_filter d m 0 _ h

/-- What an address reads after bytes were stored. -/
theorem Memory.get_write (d : Byte) (m : List Host.Cell) (a b : Nat) (bs : List Byte) (h : Memory.wf d m = true) :
    Sparse.get d (Memory.write d m a bs) b =
      if a ≤ b ∧ b < a + bs.length then bs.getD (b - a) d else Sparse.get d m b := by
  induction bs generalizing m a with
  | nil =>
    have : ¬ (a ≤ b ∧ b < a) := by omega
    simp [Memory.write, this]
  | cons v bs ih =>
    simp only [Memory.write, List.length_cons]
    rw [ih _ _ (Sparse.wfFrom_set d m a 0 v h (Nat.zero_le _)), Sparse.get_set d m a b v 0 h]
    by_cases hb : b = a
    · subst hb
      have : ¬ (b + 1 ≤ b ∧ b < b + 1 + bs.length) := by omega
      simp [this]
    · by_cases h1 : a + 1 ≤ b ∧ b < a + 1 + bs.length
      · rw [if_pos h1, if_pos (by omega)]
        obtain ⟨k, rfl⟩ := Nat.exists_eq_add_of_le h1.1
        have e1 : a + 1 + k - (a + 1) = k := by omega
        have e2 : a + 1 + k - a = k + 1 := by omega
        rw [e1, e2]
        simp
      · rw [if_neg h1, if_neg hb, if_neg (by omega)]

/-- Reading bytes back, one at a time. -/
theorem Memory.read_eq (d : Byte) (m : List Host.Cell) (a n : Nat) :
    Memory.read d m a n = (List.range n).map fun i => Sparse.get d m (a + i) := by
  induction n generalizing a with
  | zero => rfl
  | succ n ih =>
    rw [Memory.read, ih, List.range_succ_eq_map, List.map_cons, List.map_map]
    congr 1
    apply List.map_congr_left
    intro i _
    show Sparse.get d m (a + 1 + i) = Sparse.get d m (a + (i + 1))
    congr 1
    omega

@[simp] theorem Memory.length_read (d : Byte) (m : List Host.Cell) (a n : Nat) : (Memory.read d m a n).length = n := by
  simp [Memory.read_eq]

/-- What an address reads after a range was erased. -/
theorem Memory.get_erase (d : Byte) (m : List Host.Cell) (a n b : Nat) :
    Sparse.get d (Memory.erase m a n) b = if a ≤ b ∧ b < a + n then d else Sparse.get d m b := by
  unfold Memory.erase
  induction m with
  | nil => simp [Sparse.get]
  | cons c m ih =>
    obtain ⟨k, x⟩ := c
    rw [List.filter_cons]
    by_cases hk : k < a ∨ a + n ≤ k
    · simp only [hk, decide_true, if_true, Sparse.get]
      by_cases hb : b = k
      · have : ¬ (a ≤ b ∧ b < a + n) := by omega
        simp only [hb, if_true]
        rw [if_neg (by omega)]
      · simp only [if_neg hb]; exact ih
    · simp only [hk, decide_false, Bool.false_eq_true, if_false, Sparse.get]
      by_cases hb : b = k
      · rw [ih, if_pos (by omega), if_pos (by omega)]
      · simp only [if_neg hb]; exact ih

end Sys2Proof.Machine
end

