-- ==== Sys2Proof/Laws/Mailbox.lean ====
section
/-! SUPPORT. The completion path: what completing a command, going on to the next, and running a mailbox command can do. -/

namespace Sys2Proof.Machine

open Sys2Proof

theorem MailFrame.refl (s : State) : MailFrame s s := by constructor <;> (try intro) <;> rfl

theorem MailFrame.trans {s t u : State} (a : MailFrame s t) (b : MailFrame t u) : MailFrame s u where
  pending := b.pending.trans a.pending
  gmode := b.gmode.trans a.gmode
  boot := b.boot.trans a.boot
  run := b.run.trans a.run
  pair := b.pair.trans a.pair
  taking := b.taking.trans a.taking
  fw := b.fw.trans a.fw
  attic := b.attic.trans a.attic
  cal := b.cal.trans a.cal
  otp := b.otp.trans a.otp
  ridge := b.ridge.trans a.ridge
  keys := b.keys.trans a.keys
  eng := b.eng.trans a.eng
  tiles := b.tiles.trans a.tiles
  purlin := b.purlin.trans a.purlin
  memctl := b.memctl.trans a.memctl
  resp := b.resp.trans a.resp
  freeCtr := b.freeCtr.trans a.freeCtr
  host := by rw [b.host, a.host]
  links k := (b.links k).trans (a.links k)
  gutter := by rw [b.gutter, a.gutter]

theorem MailFrame.tile {s t : State} (h : MailFrame s t) (x : TileId) : t.tile x = s.tile x := by
  simp [State.tile, h.tiles]
theorem MailFrame.reg {s t : State} (h : MailFrame s t) (x : Fin 320) : t.reg x = s.reg x := by simp [State.reg, h.ridge]
theorem MailFrame.slot {s t : State} (h : MailFrame s t) (x : Fin 256) : t.slot x = s.slot x := by
  simp [State.slot, h.keys]
theorem MailFrame.ld {s t : State} (h : MailFrame s t) (x : LdId) : t.ld x = s.ld x := by rw [State.ld, State.ld, h.host]

/-- The messages of one function leave the recorder alone. -/
theorem sendMsg_gutter (s : State) (f : LdId) (v : Nat) : (sendMsg s f v).gutter = s.gutter := by
  unfold sendMsg
  dsimp only
  split <;> rfl

theorem riseFn_gutter (s : State) (f : LdId) (k : Nat) : (riseFn s f k).gutter = s.gutter := by
  unfold riseFn
  dsimp only
  split
  · rfl
  · split
    · rfl
    · split
      · rfl
      · rw [sendMsg_gutter]; rfl

/-- The completion source touches the Loft's latch, one function and a credit (R461). -/
theorem setMbLatch_gutter (s : State) (h : LdId) :
    (setMbLatch s h).gutter = { s.gutter with loft := putBit s.gutter.loft (448 + h.val) true } := by
  unfold setMbLatch
  rw [riseFn_gutter]
  rfl

/-- The state of a completion before its source is raised. -/
def completeQuiet (s : State) (h : LdId) (st : Nat) (resp : List Byte) : State :=
  let m := s.mb h
  let resp := if st = stOk ∨ st = stStale then resp else []
  let gen := match namedTile s m with | some t => (s.tile t).ctl.gen | none => 0
  let s := s.modMb h fun m =>
    { m with
      payload := Memory.write 0 [] 0 resp, compStatus := BitVec.ofNat 8 st, compTag := m.tag
      compLen := BitVec.ofNat 32 resp.length, compGen := gen, fill := 0, go := false, busy := false, done := true }
  { s with
    responder := s.responder.filter (· ≠ h)
    loft := { s.loft with takeover := s.loft.takeover.map fun k =>
      { k with okCount := k.okCount + b01 (st = stOk), busyCount := k.busyCount + b01 (st = stBusy) } } }

theorem complete_eq (s : State) (h : LdId) (st : Nat) (resp : List Byte) :
    complete s h st resp =
      if bitOf (s.mb h).flags 0 then setMbLatch (completeQuiet s h st resp) h else completeQuiet s h st resp := rfl

/-- A completion leaves everything but the mail alone. -/
theorem complete_frame (s : State) (h : LdId) (st : Nat) (resp : List Byte) : MailFrame s (complete s h st resp) := by
  have q : MailFrame s (completeQuiet s h st resp) := by
    constructor <;> try first | rfl | exact fun _ => rfl
    show (Option.map _ s.loft.takeover).isSome = _
    cases s.loft.takeover <;> rfl
  rw [complete_eq]
  split
  · refine q.trans ?_
    have e := setMbLatch_frame (completeQuiet s h st resp) h
    constructor
    case run => rw [e.loft]
    case pair => rw [e.loft]
    case taking => rw [e.loft]
    case gutter => rw [setMbLatch_gutter]
    case pending => exact e.pending
    case gmode => exact e.gmode
    case boot => exact e.boot
    case fw => exact e.fw
    case attic => exact e.attic
    case cal => exact e.cal
    case otp => exact e.otp
    case ridge => exact e.ridge
    case keys => exact e.keys
    case eng => exact e.eng
    case tiles => exact e.tiles
    case purlin => exact e.purlin
    case memctl => exact e.memctl
    case resp => exact e.resp
    case freeCtr => exact e.freeCtr
    case host => exact e.host
    case links => exact e.links
  · exact q

theorem complete_mb_ne (s : State) (h k : LdId) (st : Nat) (resp : List Byte) (n : h ≠ k) :
    (complete s h st resp).mb k = s.mb k := by
  have hv : h.val ≠ k.val := fun e => n (Fin.ext e)
  have q : (completeQuiet s h st resp).mb k = s.mb k := by simp [completeQuiet, State.mb, State.modMb, hv]
  rw [complete_eq]
  split
  · rw [(setMbLatch_frame _ h).mb, q]
  · exact q

theorem complete_responder (s : State) (h : LdId) (st : Nat) (resp : List Byte) :
    (complete s h st resp).responder = s.responder.filter (· ≠ h) := by
  rw [complete_eq]
  split
  · exact (setMbLatch_frame _ h).responder
  · rfl

theorem complete_mb (s : State) (h : LdId) (st : Nat) (resp : List Byte) :
    (complete s h st resp).mb h = (completeQuiet s h st resp).mb h := by
  rw [complete_eq]
  split
  · exact (setMbLatch_frame _ h).mb h
  · rfl

theorem completeQuiet_mb (s : State) (h : LdId) (st : Nat) (resp : List Byte) :
    (completeQuiet s h st resp).mb h = { s.mb h with
      payload := Memory.write 0 [] 0 (if st = stOk ∨ st = stStale then resp else []), compStatus := BitVec.ofNat 8 st
      compTag := (s.mb h).tag
      compLen := BitVec.ofNat 32 (if st = stOk ∨ st = stStale then resp else []).length
      compGen := match namedTile s (s.mb h) with | some t => (s.tile t).ctl.gen | none => 0
      fill := 0, go := false, busy := false, done := true } := by
  simp [completeQuiet, State.mb, State.modMb]

/-- The completion of R417: the response where the status carries one (R420). -/
theorem complete_completed (s : State) (h : LdId) (st : Nat) (resp : List Byte) :
    Completed s (complete s h st resp) h st (if st = stOk ∨ st = stStale then resp else []) := by
  have m := (complete_mb s h st resp).trans (completeQuiet_mb s h st resp)
  constructor
  case done => rw [m]
  case busy => rw [m]
  case go => rw [m]
  case status => rw [m]
  case tag => rw [m]
  case length => rw [m]
  case fill => rw [m]
  case gone => rw [complete_responder]; simp
  case payload =>
    intro a
    rw [m]
    have := Memory.get_write 0 [] 0 a (if st = stOk ∨ st = stStale then resp else []) rfl
    refine this.trans ?_
    by_cases hl : a < (if st = stOk ∨ st = stStale then resp else []).length
    · rw [if_pos ⟨Nat.zero_le _, by omega⟩]; rfl
    · rw [if_neg (by omega), List.getD_eq_getElem?_getD, List.getElem?_eq_none (by omega)]; rfl

/-- Going on to the next command leaves everything but the mail alone. -/
theorem advance_frame (n : Nat) (s : State) : MailFrame s (advance n s) := by
  induction n generalizing s with
  | zero => exact .refl s
  | succ n ih =>
    unfold advance
    split
    · exact .refl s
    · dsimp only
      split
      · exact .refl s
      · split
        · exact (complete_frame s _ _ _).trans (ih _)
        · split
          · exact (complete_frame s _ _ _).trans (ih _)
          · exact .refl s
      · split
        · exact (complete_frame s _ _ _).trans (ih _)
        · split
          · exact (complete_frame s _ _ _).trans (ih _)
          · exact .refl s

/-- Going on does not touch a mailbox whose command does not wait at the responder. -/
theorem advance_mb (n : Nat) (s : State) (h : LdId) (a : h ∉ s.responder) :
    (advance n s).mb h = s.mb h ∧ h ∉ (advance n s).responder := by
  induction n generalizing s with
  | zero => exact ⟨rfl, a⟩
  | succ n ih =>
    have go : ∀ k rest st, s.responder = k :: rest → (advance n (complete s k st [])).mb h = s.mb h ∧
        h ∉ (advance n (complete s k st [])).responder := by
      intro k rest st e
      have hk : k ≠ h := by rintro rfl; exact a (by rw [e]; exact List.mem_cons_self)
      have r : h ∉ (complete s k st []).responder := by
        rw [complete_responder]; exact fun m => a (List.mem_filter.mp m).1
      have := ih (complete s k st []) r
      exact ⟨this.1.trans (complete_mb_ne s k h st [] hk), this.2⟩
    unfold advance
    split
    · exact ⟨rfl, a⟩
    · rename_i e
      dsimp only
      split
      · exact ⟨rfl, a⟩
      · split
        · exact go _ _ _ e
        · split
          · exact go _ _ _ e
          · exact ⟨rfl, a⟩
      · split
        · exact go _ _ _ e
        · split
          · exact go _ _ _ e
          · exact ⟨rfl, a⟩

/-- A finished command: everything but the mail is alone. -/
theorem finish_frame (s : State) (h : LdId) (st : Nat) (resp : List Byte) : MailFrame s (finish s h st resp) :=
  (complete_frame s h st resp).trans (advance_frame 16 _)

/-- A finished command: its completion stands in its mailbox (R417, R420). -/
theorem finish_completed (s : State) (h : LdId) (st : Nat) (resp : List Byte) :
    Completed s (finish s h st resp) h st (if st = stOk ∨ st = stStale then resp else []) := by
  have c := complete_completed s h st resp
  have m := advance_mb 16 (complete s h st resp) h c.gone
  unfold finish
  constructor
  case done => rw [m.1]; exact c.done
  case busy => rw [m.1]; exact c.busy
  case go => rw [m.1]; exact c.go
  case status => rw [m.1]; exact c.status
  case tag => rw [m.1]; exact c.tag
  case length => rw [m.1]; exact c.length
  case fill => rw [m.1]; exact c.fill
  case payload => intro a; rw [m.1]; exact c.payload a
  case gone => exact m.2

/-- M_COMP_GEN of a finished command: the generation of the tile it names, as the command leaves it (R422). -/
theorem finish_gen (s : State) (h : LdId) (st : Nat) (resp : List Byte) :
    ((finish s h st resp).mb h).compGen =
      match namedTile s (s.mb h) with | some t => (s.tile t).ctl.gen | none => 0 := by
  have c := complete_completed s h st resp
  unfold finish
  rw [(advance_mb 16 _ h c.gone).1, complete_mb, completeQuiet_mb]

/-- A command that is next and taken is run by its row: the outcome of its checks and meaning. -/
theorem runCmd_taken (s : State) (h : LdId) (c : Cmd) (body : State → Mailbox → TileId → Result) (t : Taken s h c.row)
    (p : portHeld s c = false) :
    runCmd s h c body = match takeCmd s h c body with
      | .done u st resp => .next (sortRaises s (finish u h st resp))
      | .wait u => .next (advance 16 { u with responder := u.responder.filter (· ≠ h) }) := by
  unfold runCmd
  simp [t.front, t.isRow, t.mode, p] <;> rfl

/-- A command that is not next, not of the row, held by the mode or by the Ridge port changes nothing. -/
theorem runCmd_not_taken (s : State) (h : LdId) (c : Cmd) (body : State → Mailbox → TileId → Result)
    (n : s.responder.head? ≠ some h ∨ rowOf (s.mb h) ≠ c.row ∨ answer s (s.mb h).opcode.toNat = .hold ∨ portHeld s c = true) :
    runCmd s h c body = .next s := by
  unfold runCmd
  exact if_pos n

/-- A taken command whose checks and meaning end in a completion is finished with it. -/
theorem runCmd_done (s t : State) (h : LdId) (c : Cmd) (st : Nat) (resp : List Byte)
    (body : State → Mailbox → TileId → Result) (k : Taken s h c.row) (p : portHeld s c = false)
    (d : takeCmd s h c body = .done t st resp) : runCmd s h c body = .next (sortRaises s (finish t h st resp)) := by
  rw [runCmd_taken s h c body k p, d]

/-- The state in which a command's checks are made: a command of the served modes is a wake trigger (R60). -/
def checkedIn (s : State) (c : Cmd) : State := if .doze ∉ c.modes ∧ .serve ∈ c.modes then wakeNow s else s

/-- Where no check of R421 fails, a command that names no tile is its own meaning. -/
theorem takeCmd_body (s : State) (h : LdId) (c : Cmd) (body : State → Mailbox → TileId → Result)
    (a : answer s (s.mb h).opcode.toNat = .take) (m : (checkedIn s c).gmode.mode ∈ c.modes) (pre : c.pre (checkedIn s c) h = 0)
    (len : c.len (checkedIn s c) (s.mb h) = 0) (role : c.role (checkedIn s c) h = true) (n : c.tile = false)
    (range : c.range (checkedIn s c) (s.mb h) = true) : takeCmd s h c body = body (checkedIn s c) (s.mb h) 0 := by
  unfold takeCmd
  unfold checkedIn at *
  simp [a, m, pre, len, role, n, range]

/-- The same for a command that names a tile. -/
theorem takeCmd_tile (s : State) (h : LdId) (x : TileId) (c : Cmd) (body : State → Mailbox → TileId → Result)
    (a : answer s (s.mb h).opcode.toNat = .take) (m : (checkedIn s c).gmode.mode ∈ c.modes) (pre : c.pre (checkedIn s c) h = 0)
    (len : c.len (checkedIn s c) (s.mb h) = 0) (role : c.role (checkedIn s c) h = true) (n : c.tile = true)
    (nm : (s.mb h).arg 0 4 = x.val) (f : fusedOff (checkedIn s c) x = false) (range : c.range (checkedIn s c) (s.mb h) = true)
    (gen : c.gen = true → (s.mb h).gen = ((checkedIn s c).tile x).ctl.gen) :
    takeCmd s h c body = body (checkedIn s c) (s.mb h) x := by
  have at' : argTile (s.mb h) = some x := by
    have hx : (s.mb h).arg 0 4 < 32 := by rw [nm]; exact x.isLt
    simp [argTile, nm]
  unfold takeCmd
  unfold checkedIn at *
  cases g : c.gen
  · simp [a, m, pre, len, role, n, range, at', f]
  · simp [a, m, pre, len, role, n, range, at', f, gen g]

end Sys2Proof.Machine
end

