-- ==== Sys2Proof/Laws/Tiles.lean ====
section
/-! SUPPORT. One change of a tile (R76, R77): what it does to the tile and what it leaves alone. -/

namespace Sys2Proof.Machine

open Sys2Proof

/-- One change of a tile leaves everything else alone but for the event it raises. -/
theorem changeTile_frame (s : State) (t : TileId) (dst : TileState) (cause : TileCause) (f : TileCtl → TileCtl) :
    EventFrame (s.modTile t fun x => x.change dst cause f) (changeTile s t dst cause f) := raiseT_frame _ t 0 _

/-- The tile after one change (R77). -/
@[simp] theorem changeTile_tile (s : State) (t : TileId) (dst : TileState) (cause : TileCause) (f : TileCtl → TileCtl) :
    (changeTile s t dst cause f).tile t = (s.tile t).change dst cause f := by
  rw [(changeTile_frame s t dst cause f).tile, State.tile_modTile]

/-- Every other tile is unchanged. -/
theorem changeTile_tile_ne (s : State) (t u : TileId) (dst : TileState) (cause : TileCause) (f : TileCtl → TileCtl)
    (n : t ≠ u) : (changeTile s t dst cause f).tile u = s.tile u := by
  rw [(changeTile_frame s t dst cause f).tile, State.tile_modTile_ne _ _ _ _ n]

@[simp] theorem Tile.change_state (x : Tile) (d : TileState) (c : TileCause) (f : TileCtl → TileCtl) :
    (x.change d c f).ctl.state = d := by simp only [Tile.change]; split <;> rfl
@[simp] theorem Tile.change_prev (x : Tile) (d : TileState) (c : TileCause) (f : TileCtl → TileCtl) :
    (x.change d c f).ctl.prev = x.ctl.state := by simp only [Tile.change]; split <;> rfl
@[simp] theorem Tile.change_cause (x : Tile) (d : TileState) (c : TileCause) (f : TileCtl → TileCtl) :
    (x.change d c f).ctl.cause = c := by simp only [Tile.change]; split <;> rfl
@[simp] theorem Tile.change_gen (x : Tile) (d : TileState) (c : TileCause) (f : TileCtl → TileCtl) :
    (x.change d c f).ctl.gen = x.ctl.gen + 1 := by simp only [Tile.change]; split <;> rfl
@[simp] theorem Tile.change_rstHeld (x : Tile) (d : TileState) (c : TileCause) (f : TileCtl → TileCtl) :
    (x.change d c f).ctl.rstHeld = !d.released := by simp only [Tile.change]; split <;> rfl
@[simp] theorem Tile.change_switchPending (x : Tile) (d : TileState) (c : TileCause) (f : TileCtl → TileCtl) :
    (x.change d c f).ctl.switchPending = (f x.ctl).switchPending := by simp only [Tile.change]; split <;> rfl
@[simp] theorem Tile.change_stage (x : Tile) (d : TileState) (c : TileCause) (f : TileCtl → TileCtl) :
    (x.change d c f).ctl.stage = (f x.ctl).stage := by simp only [Tile.change]; split <;> rfl
@[simp] theorem Tile.change_pwrEn (x : Tile) (d : TileState) (c : TileCause) (f : TileCtl → TileCtl) :
    (x.change d c f).ctl.pwrEn = (f x.ctl).pwrEn := by simp only [Tile.change]; split <;> rfl
@[simp] theorem Tile.change_mem (x : Tile) (d : TileState) (c : TileCause) (f : TileCtl → TileCtl) :
    (x.change d c f).mem = x.mem := by simp only [Tile.change]; split <;> rfl
@[simp] theorem Tile.change_active (x : Tile) (d : TileState) (c : TileCause) (f : TileCtl → TileCtl) :
    (x.change d c f).active = x.active := by simp only [Tile.change]; split <;> rfl
@[simp] theorem Tile.change_force (x : Tile) (d : TileState) (c : TileCause) (f : TileCtl → TileCtl) :
    (x.change d c f).force = x.force := by simp only [Tile.change]; split <;> rfl
@[simp] theorem Tile.change_verify (x : Tile) (d : TileState) (c : TileCause) (f : TileCtl → TileCtl) :
    (x.change d c f).verify = x.verify := by simp only [Tile.change]; split <;> rfl
@[simp] theorem Tile.change_filter (x : Tile) (d : TileState) (c : TileCause) (f : TileCtl → TileCtl) :
    (x.change d c f).filter = x.filter := by simp only [Tile.change]; split <;> rfl
@[simp] theorem Tile.change_restore (x : Tile) (d : TileState) (c : TileCause) (f : TileCtl → TileCtl) :
    (x.change d c f).restore = x.restore := by simp only [Tile.change]; split <;> rfl
@[simp] theorem Tile.change_side (x : Tile) (d : TileState) (c : TileCause) (f : TileCtl → TileCtl) :
    (x.change d c f).side = x.side := by simp only [Tile.change]; split <;> rfl
@[simp] theorem Tile.change_eave (x : Tile) (d : TileState) (c : TileCause) (f : TileCtl → TileCtl) :
    (x.change d c f).eave = x.eave := by simp only [Tile.change]; split <;> rfl
/-- A change to the same state touches the control fields alone. -/
theorem Tile.change_update_same (x : Tile) (d : TileState) (c : TileCause) (f : TileCtl → TileCtl) (h : x.ctl.state = d) :
    (x.change d c f).update = x.update := by simp [Tile.change, h]

/-! ### What the discards leave alone -/

@[simp] theorem Tile.abortEntries_ctl (x : Tile) (w : EaveWork → Bool) : (x.abortEntries w).ctl = x.ctl := by
  simp only [Tile.abortEntries]; split <;> rfl
@[simp] theorem Tile.abortEntries_power (x : Tile) (w : EaveWork → Bool) : (x.abortEntries w).power = x.power := by
  simp only [Tile.abortEntries]; split <;> rfl
@[simp] theorem Tile.abortEntries_mem (x : Tile) (w : EaveWork → Bool) : (x.abortEntries w).mem = x.mem := by
  simp only [Tile.abortEntries]; split <;> rfl
@[simp] theorem Tile.abortEntries_update (x : Tile) (w : EaveWork → Bool) : (x.abortEntries w).update = x.update := by
  simp only [Tile.abortEntries]; split <;> rfl
@[simp] theorem Tile.dropWrites_ctl (x : Tile) : x.dropWrites.ctl = x.ctl := Tile.abortEntries_ctl _ _
@[simp] theorem Tile.dropWrites_power (x : Tile) : x.dropWrites.power = x.power := Tile.abortEntries_power _ _
@[simp] theorem Tile.dropWrites_mem (x : Tile) : x.dropWrites.mem = x.mem := Tile.abortEntries_mem _ _
@[simp] theorem Tile.dropWrites_update (x : Tile) : x.dropWrites.update = x.update := Tile.abortEntries_update _ _
@[simp] theorem Tile.dropCopy_ctl (x : Tile) : x.dropCopy.ctl = x.ctl := rfl
@[simp] theorem Tile.dropUpdateWrites_ctl (x : Tile) : x.dropUpdateWrites.ctl = x.ctl := rfl
@[simp] theorem Tile.loadPower_ctl (x : Tile) : x.loadPower.ctl = x.ctl := rfl
@[simp] theorem Tile.resetVerify_ctl (x : Tile) (k : Nat) : (x.resetVerify k).ctl = x.ctl := rfl
@[simp] theorem Tile.clearSweep_ctl (x : Tile) : x.clearSweep.ctl = x.ctl := rfl
@[simp] theorem Tile.resetRegisters_ctl (x : Tile) : x.resetRegisters.ctl = x.ctl := rfl

/-! ### What stays within one tile -/

theorem GivenUp.refl (o : JobOwner) (s : State) : GivenUp o s s :=
  ⟨rfl, ⟨[], by simp⟩, fun _ => .inl rfl, rfl, fun _ => .inl rfl, fun _ => .inl rfl, rfl, rfl⟩

/-- Nothing given up: key store and engines as they were. -/
theorem GivenUp.same (o : JobOwner) {s t : State} (k : t.keys = s.keys) (e : t.eng = s.eng) : GivenUp o s t :=
  ⟨by rw [k], ⟨[], by simp [k]⟩, fun i => .inl (by rw [State.slot, State.slot, k]), by rw [e],
    fun i => .inl (by rw [e]), fun i => .inl (by rw [e]),
    by rw [e], by rw [e]⟩

theorem GivenUp.trans {o : JobOwner} {s t u : State} (a : GivenUp o s t) (b : GivenUp o t u) : GivenUp o s u where
  keys := by rw [b.keys, a.keys]
  held := by
    obtain ⟨l, e, h⟩ := a.held
    obtain ⟨m, d, g⟩ := b.held
    refine ⟨l ++ m, by simp [d, e], fun i n => ?_⟩
    rcases List.mem_append.mp n with n | n
    · exact h i n
    · exact g i n
  slots i := by
    rcases b.slots i with h | h
    · rcases a.slots i with g | g
      · exact .inl (h.trans g)
      · exact .inr ⟨g.1, g.2.1, h.trans g.2.2⟩
    · exact .inr h
  eng := by rw [b.eng, a.eng]
  hashes i := by
    rcases b.hashes i with h | h | h
    · rw [h]; exact a.hashes i
    · rw [h]
      rcases a.hashes i with g | g | g
      · rw [g]; exact .inr (.inl rfl)
      · rw [g]; exact .inr (.inl (by cases s.eng.thatch[i] <;> rfl))
      · rw [g.1]; exact .inr (.inr ⟨rfl, g.2⟩)
    · exact .inr (.inr h)
  ciphers i := by
    rcases b.ciphers i with h | h | h
    · rw [h]; exact a.ciphers i
    · rw [h]
      rcases a.ciphers i with g | g | g
      · rw [g]; exact .inr (.inl rfl)
      · rw [g]; exact .inr (.inl (by cases s.eng.spar[i] <;> rfl))
      · rw [g.1]; exact .inr (.inr ⟨rfl, g.2⟩)
    · exact .inr (.inr h)
  queues := ⟨b.queues.1.trans a.queues.1, b.queues.2.trans a.queues.2⟩

theorem OnlyTile.refl (x : TileId) (s : State) : OnlyTile x s s :=
  ⟨rfl, rfl, rfl, rfl, rfl, rfl, .refl _ s, rfl, rfl, rfl, rfl, fun _ _ => rfl, fun _ _ => rfl⟩

theorem OnlyTile.trans {x : TileId} {s t u : State} (a : OnlyTile x s t) (b : OnlyTile x t u) : OnlyTile x s u :=
  ⟨b.pending.trans a.pending, b.boot.trans a.boot, b.run.trans a.run, b.fw.trans a.fw, b.cal.trans a.cal,
    b.otp.trans a.otp, a.given.trans b.given, b.purlin.trans a.purlin, b.resp.trans a.resp,
    b.freeCtr.trans a.freeCtr, b.lds.trans a.lds, fun u n => (b.others u n).trans (a.others u n),
    fun r n => (b.regs r n).trans (a.regs r n)⟩

theorem EventFrame.onlyTile {s t : State} (h : EventFrame s t) (x : TileId) : OnlyTile x s t :=
  ⟨h.pending, h.boot, by rw [h.loft], h.fw, h.cal, h.otp, .same _ h.keys h.eng, h.purlin, h.resp, h.freeCtr, by rw [h.host],
    fun u _ => h.tile u, fun r _ => h.reg r⟩

theorem MailFrame.onlyTile {s t : State} (h : MailFrame s t) (x : TileId) : OnlyTile x s t :=
  ⟨h.pending, h.boot, h.run, h.fw, h.cal, h.otp, .same _ h.keys h.eng, h.purlin, h.resp, h.freeCtr, by rw [h.host],
    fun u _ => h.tile u, fun r _ => h.reg r⟩

theorem OnlyTile.ite {x : TileId} {s a b : State} (c : Prop) [Decidable c] (ha : OnlyTile x s a) (hb : OnlyTile x s b) :
    OnlyTile x s (if c then a else b) := by
  split
  · exact ha
  · exact hb

theorem modTile_only (s : State) (t : TileId) (f : Tile → Tile) : OnlyTile t s (s.modTile t f) :=
  ⟨rfl, rfl, rfl, rfl, rfl, rfl, .same _ rfl rfl, rfl, rfl, rfl, rfl, fun u n => State.tile_modTile_ne s f t u (Ne.symm n),
    fun _ _ => rfl⟩

theorem changeTile_only (s : State) (t : TileId) (d : TileState) (c : TileCause) (f : TileCtl → TileCtl) :
    OnlyTile t s (changeTile s t d c f) := (modTile_only s t _).trans ((changeTile_frame s t d c f).onlyTile t)

/-- A request to the Ridge domain, made at once or held, touches that domain and no other part. -/
theorem resetReg_eq (s : State) (r : Fin 320) : resetReg s r = { s with ridge := (resetReg s r).ridge } := by
  unfold resetReg
  split <;> rfl

theorem resetReg_tiles (s : State) (r : Fin 320) : (resetReg s r).tiles = s.tiles := by rw [resetReg_eq]

theorem resetReg_reg_ne (s : State) (r q : Fin 320) (n : r ≠ q) : (resetReg s r).reg q = s.reg q := by
  unfold resetReg
  split
  · rfl
  · exact State.reg_setReg_ne s _ r q n

/-- Contexts that loaded a slot are closed, and a slot of the Loft's range is EMPTY. -/
theorem destroySlot_given (o : JobOwner) (s : State) (i : Fin 256) (h : 16 ≤ i.val ∧ i.val < 128) :
    GivenUp o s (destroySlot s i) where
  keys := rfl
  held := ⟨[], by simp [destroySlot, closeSlotContexts, State.setSlot]⟩
  slots j := by
    by_cases e : i = j
    · subst e; exact .inr ⟨h.1, h.2, State.slot_setSlot _ _ _⟩
    · exact .inl (State.slot_setSlot_ne _ _ _ _ e)
  eng := rfl
  hashes j := by
    have e : (destroySlot s i).eng.thatch[j] = s.eng.thatch[j].map fun c =>
        if c.slot = some i.val then { c with closed := true } else c := by
      simp [destroySlot, closeSlotContexts, State.setSlot]
    rw [e]
    cases s.eng.thatch[j] with
    | none => exact .inl rfl
    | some c =>
      simp only [Option.map_some]
      split
      · exact .inr (.inl rfl)
      · exact .inl rfl
  ciphers j := by
    have e : (destroySlot s i).eng.spar[j] = s.eng.spar[j].map fun c =>
        if c.slot = i.val then { c with key := [], closed := true } else c := by
      simp [destroySlot, closeSlotContexts, State.setSlot]
    rw [e]
    cases s.eng.spar[j] with
    | none => exact .inl rfl
    | some c =>
      simp only [Option.map_some]
      split
      · exact .inr (.inl rfl)
      · exact .inl rfl
  queues := ⟨rfl, rfl⟩

/-- The same where the port may be held: the destruction is then made at its release (R20). -/
theorem dropSlot_given (o : JobOwner) (s : State) (i : Fin 256) (h : 16 ≤ i.val ∧ i.val < 128) : GivenUp o s (dropSlot s i) := by
  unfold dropSlot
  split
  · exact ⟨rfl, ⟨[i], rfl, by simpa using h⟩, fun _ => .inl rfl, rfl, fun _ => .inl rfl, fun _ => .inl rfl, rfl, rfl⟩
  · exact destroySlot_given o s i h

/-- A slot destroyed touches the key store and the engines. -/
theorem dropSlot_eq (s : State) (i : Fin 256) :
    dropSlot s i = { s with keys := (dropSlot s i).keys, eng := (dropSlot s i).eng } := by
  unfold dropSlot
  split <;> rfl

theorem dropSessionSlots_given (o : JobOwner) (s : State) (xs : List Session) : GivenUp o s (dropSessionSlots s xs) := by
  unfold dropSessionSlots
  induction xs generalizing s with
  | nil => exact .refl o s
  | cons x xs ih =>
    have r : ∀ i : LoftSlot, 16 ≤ (loftSlot i).val ∧ (loftSlot i).val < 128 := fun i => by simp only [loftSlot]; omega
    exact ((dropSlot_given o s _ (r x.reqSlot)).trans (dropSlot_given o _ _ (r x.rspSlot))).trans (ih _)

theorem dropSessionSlots_eq (s : State) (xs : List Session) :
    dropSessionSlots s xs = { s with keys := (dropSessionSlots s xs).keys, eng := (dropSessionSlots s xs).eng } := by
  unfold dropSessionSlots
  induction xs generalizing s with
  | nil => rfl
  | cons x xs ih => rw [List.foldl_cons, ih, dropSlot_eq (dropSlot s _), dropSlot_eq s]

/-- The release of a requester touches the engines alone. -/
theorem releaseOwner_eq (s : State) (o : JobOwner) :
    ∃ a b c d, releaseOwner s o = { s with eng := { s.eng with thatch := a, spar := b, sparQ := c, rafterQ := d } } := by
  unfold releaseOwner
  exact ⟨_, _, _, _, rfl⟩

/-- What a requester's release gives up is its own (R270). -/
theorem releaseOwner_given (s : State) (o : JobOwner) : GivenUp o s (releaseOwner s o) where
  keys := by obtain ⟨a, b, c, d, e⟩ := releaseOwner_eq s o; rw [e]
  held := by obtain ⟨a, b, c, d, e⟩ := releaseOwner_eq s o; rw [e]; exact ⟨[], by simp⟩
  slots _ := by obtain ⟨a, b, c, d, e⟩ := releaseOwner_eq s o; rw [e]; exact .inl rfl
  eng := by obtain ⟨a, b, c, d, e⟩ := releaseOwner_eq s o; rw [e]
  hashes i := by
    have e : (releaseOwner s o).eng.thatch[i] =
        if (thatchRange o).1 ≤ i.val ∧ i.val < (thatchRange o).1 + (thatchRange o).2 then none else s.eng.thatch[i] := by
      simp [releaseOwner]
    rw [e]
    split
    · rename_i h
      refine .inr (.inr ⟨rfl, i.val - (thatchRange o).1, ?_⟩)
      have := i.isLt
      simp only [thatchAt]
      rw [dif_pos (by omega)]
      exact congrArg some (Fin.ext (by simp; omega))
    · exact .inl rfl
  ciphers i := by
    have e : (releaseOwner s o).eng.spar[i] =
        if (sparRange o).1 ≤ i.val ∧ i.val < (sparRange o).1 + (sparRange o).2 then none else s.eng.spar[i] := by
      simp [releaseOwner]
    rw [e]
    split
    · rename_i h
      refine .inr (.inr ⟨rfl, i.val - (sparRange o).1, ?_⟩)
      have := i.isLt
      simp only [sparAt]
      rw [dif_pos (by omega)]
      exact congrArg some (Fin.ext (by simp; omega))
    · exact .inl rfl
  queues := by simp [releaseOwner]

theorem stopWalker_only (s : State) (t : TileId) : OnlyTile t s (stopWalker s t) :=
  have g := releaseOwner_given s (.inr (.gate t))
  have ⟨a, b, c, d, e⟩ := releaseOwner_eq s (.inr (.gate t))
  { given := g, pending := by rw [stopWalker, e], boot := by rw [stopWalker, e], run := by rw [stopWalker, e],
    fw := by rw [stopWalker, e], cal := by rw [stopWalker, e], otp := by rw [stopWalker, e], purlin := by rw [stopWalker, e],
    resp := by rw [stopWalker, e], freeCtr := by rw [stopWalker, e], lds := by rw [stopWalker, e],
    others := fun _ _ => by rw [stopWalker, e]; rfl, regs := fun _ _ => by rw [stopWalker, e]; rfl }

theorem dropSessionSlots_only (s : State) (t : TileId) (xs : List Session) : OnlyTile t s (dropSessionSlots s xs) := by
  have g := dropSessionSlots_given (.inr (.gate t)) s xs
  have e := dropSessionSlots_eq s xs
  refine ⟨?_, ?_, ?_, ?_, ?_, ?_, g, ?_, ?_, ?_, ?_, fun u _ => ?_, fun r _ => ?_⟩ <;> rw [e] <;> rfl

/-- The end of a sideband's session gives up its slots (R263). -/
theorem endSideSession_only (s : State) (t : TileId) : OnlyTile t s (endSideSession s t) :=
  (dropSessionSlots_only s t _).trans (modTile_only _ t _)

@[simp] theorem stopWalker_tile (s : State) (t x : TileId) : (stopWalker s t).tile x = s.tile x := by
  obtain ⟨a, b, c, d, e⟩ := releaseOwner_eq s (.inr (.gate t))
  rw [stopWalker, e]; rfl

@[simp] theorem dropSessionSlots_tile (s : State) (xs : List Session) (x : TileId) :
    (dropSessionSlots s xs).tile x = s.tile x := by rw [dropSessionSlots_eq]; rfl

@[simp] theorem endSideSession_tile (s : State) (t : TileId) : (endSideSession s t).tile t =
    { s.tile t with side := { (s.tile t).side with spdm := { (s.tile t).side.spdm with sessions := [] } } } := by
  rw [endSideSession, State.tile_modTile, dropSessionSlots_tile]

theorem tileReg_ne (t : TileId) (k : Fin 8) (r : Fin 320) (h : r.val < 64 + 8 * t.val ∨ 72 + 8 * t.val ≤ r.val) :
    tileReg t k ≠ r := by
  intro e
  have : (tileReg t k).val = r.val := congrArg Fin.val e
  simp [tileReg] at this
  omega

theorem resetReg_only (s : State) (t : TileId) (k : Fin 8) : OnlyTile t s (resetReg s (tileReg t k)) := by
  have regs := fun r n => resetReg_reg_ne s (tileReg t k) r (tileReg_ne t k r n)
  have e := resetReg_eq s (tileReg t k)
  refine ⟨?_, ?_, ?_, ?_, ?_, ?_, .same _ ?_ ?_, ?_, ?_, ?_, ?_, fun u _ => ?_, regs⟩ <;> rw [e] <;> rfl

theorem OnlyTile.foldl {α : Type} {x : TileId} (f : State → α → State) (h : ∀ s a, OnlyTile x s (f s a)) (l : List α)
    (s : State) : OnlyTile x s (l.foldl f s) := by
  induction l generalizing s with
  | nil => exact .refl x s
  | cons a l ih => exact (h s a).trans (ih (f s a))

theorem foldl_tiles {α : Type} (f : State → α → State) (h : ∀ s a, (f s a).tiles = s.tiles) (l : List α) (s : State) :
    (l.foldl f s).tiles = s.tiles := by
  induction l generalizing s with
  | nil => rfl
  | cons a l ih => exact (ih (f s a)).trans (h s a)

theorem resetImageRegs_only (s : State) (t : TileId) : OnlyTile t s (resetImageRegs s t) := by
  unfold resetImageRegs
  split
  · exact .refl t s
  · exact OnlyTile.foldl _ (fun s k => resetReg_only s t k) _ s

@[simp] theorem resetImageRegs_tile (s : State) (t x : TileId) : (resetImageRegs s t).tile x = s.tile x := by
  unfold resetImageRegs
  split
  · rfl
  · rw [State.tile, foldl_tiles _ (fun s k => resetReg_tiles s _)]; rfl

theorem resetPlatformRegs_only (s : State) (t : TileId) : OnlyTile t s (resetPlatformRegs s t) := by
  unfold resetPlatformRegs
  split
  · exact .refl t s
  · exact OnlyTile.foldl _ (fun s k => resetReg_only s t k) _ s

@[simp] theorem resetPlatformRegs_tile (s : State) (t x : TileId) : (resetPlatformRegs s t).tile x = s.tile x := by
  unfold resetPlatformRegs
  split
  · rfl
  · rw [State.tile, foldl_tiles _ (fun s k => resetReg_tiles s _)]; rfl

/-- An extend leaves the tiles alone (R241). -/
theorem extendReg_tiles (s : State) (r : Fin 320) (w k : BitVec 8) (g : Word) (d : Digest) :
    (extendReg s r w k g d).tiles = s.tiles := by
  unfold extendReg extendNow
  dsimp only
  split
  · rfl
  · split
    · exact (note_frame s _ _ _ _).tiles
    · split <;> rfl

/-- An extend changes one register, the log, what is held at the boundary and, where the register is saturated, the recorder
(R20, R241). -/
theorem extendReg_reg_ne (s : State) (r q : Fin 320) (w k : BitVec 8) (g : Word) (d : Digest) (n : r ≠ q) :
    (extendReg s r w k g d).reg q = s.reg q := by
  unfold extendReg extendNow
  dsimp only
  split
  · rfl
  · split
    · exact (note_frame s _ _ _ _).reg q
    · split <;> exact State.reg_setReg_ne s _ r q n

theorem extendReg_only (s : State) (t : TileId) (k : Fin 8) (w j : BitVec 8) (g : Word) (d : Digest) :
    OnlyTile t s (extendReg s (tileReg t k) w j g d) := by
  have regs := fun r n => extendReg_reg_ne s (tileReg t k) r w j g d (tileReg_ne t k r n)
  revert regs
  unfold extendReg extendNow
  dsimp only
  split
  · exact fun regs => ⟨rfl, rfl, rfl, rfl, rfl, rfl, .same _ rfl rfl, rfl, rfl, rfl, rfl, fun _ _ => rfl, regs⟩
  · split
    · exact fun _ => (note_frame s _ _ _ _).onlyTile t
    · split <;>
        exact fun regs => ⟨rfl, rfl, rfl, rfl, rfl, rfl, .same _ rfl rfl, rfl, rfl, rfl, rfl, fun _ _ => rfl, regs⟩

theorem extendTile_only (s : State) (t : TileId) (k : Fin 8) (kind : BitVec 8) (d : Digest) :
    OnlyTile t s (extendTile s t k kind d) := by
  unfold extendTile
  split
  · exact .refl t s
  · exact extendReg_only s t k _ _ _ _

@[simp] theorem extendTile_tile (s : State) (t x : TileId) (k : Fin 8) (kind : BitVec 8) (d : Digest) :
    (extendTile s t k kind d).tile x = s.tile x := by
  unfold extendTile
  split
  · rfl
  · simp [State.tile, extendReg_tiles]

end Sys2Proof.Machine
end

