-- ==== Sys2Proof/Laws/Modes.lean ====
section
/-! SUPPORT. One change of device mode (R35, R37, R102): what it does and what it leaves alone. -/

namespace Sys2Proof.Machine

open Sys2Proof

theorem ownerEvents_frame (before : Nat) (b : Bool) (s : State) : EventFrame s (ownerEvents before b s) := by
  refine EventFrame.foldl _ (fun s h => ?_) _ s
  dsimp only
  split
  · exact .refl s
  · exact raise_frame s _ _ _

theorem modeEvent_frame (s : State) : EventFrame s (modeEvent s) := raiseSev_frame s _ _ _ _

/-- The registers a change of mode writes before the tiles follow (R35, R453, R492). -/
def modeSet (s : State) (dst : DevMode) (cause : ModeCause) : State :=
  { s with
    gmode := { s.gmode with mode := dst, prev := s.gmode.mode, cause := cause }
    attic := { s.attic with sparStopped := false }, memctl := { s.memctl with selfRefresh := false } }

theorem modeTile_quiet (d : DevMode) (s : State) (t : TileId) (q : quietMode d = true) : modeTile d s t = s := by
  cases d <;> first | rfl | (simp [quietMode] at q)

theorem foldl_same {α : Type} (f : State → α → State) (h : ∀ s a, f s a = s) (l : List α) (s : State) : l.foldl f s = s := by
  induction l with
  | nil => rfl
  | cons a l ih => rw [List.foldl_cons, h, ih]

theorem changeMode_eq (s : State) (d : DevMode) (c : ModeCause) :
    changeMode s d c =
      let u := (List.finRange 32).foldl (modeTile d) (modeSet s d c)
      ownerEvents (ownerLds s) u.host.ownerDigest.isNone (modeEvent u) := rfl

/-- A change to a mode whose entry touches no tile: the mode's own registers and events. -/
theorem changeMode_quiet (s : State) (d : DevMode) (c : ModeCause) (q : quietMode d = true) :
    EventFrame (modeSet s d c) (changeMode s d c) := by
  rw [changeMode_eq, foldl_same (modeTile d) (fun s t => modeTile_quiet d s t q)]
  exact (modeEvent_frame _).trans (ownerEvents_frame _ _ _)

/-- The registers of the mode are no part of a tile. -/
theorem modeSet_only (s : State) (d : DevMode) (c : ModeCause) (x : TileId) : OnlyTile x s (modeSet s d c) :=
  ⟨rfl, rfl, rfl, rfl, rfl, rfl, .same _ rfl rfl, rfl, rfl, rfl, rfl, fun _ _ => rfl, fun _ _ => rfl⟩

@[simp] theorem wake_tiles (s : State) : (wake s).tiles = s.tiles := by
  unfold wake
  split
  · exact (changeMode_quiet s .serve .wake rfl).tiles
  · rfl

@[simp] theorem wake_tile (s : State) (x : TileId) : (wake s).tile x = s.tile x := by simp [State.tile]

/-- A wake leaves SERVE with cause WAKE where the device was in DOZE (R60). -/
theorem wake_gmode (s : State) : (wake s).gmode = wokenMode s := by
  unfold wake wokenMode
  split
  · rename_i h
    rw [(changeMode_quiet s .serve .wake rfl).gmode]
    simp [modeSet, h]
  · rfl

theorem wake_attic (s : State) : (wake s).attic.tick = s.attic.tick ∧ (wake s).attic.pwrTick = s.attic.pwrTick := by
  unfold wake
  split
  · rw [(changeMode_quiet s .serve .wake rfl).attic]; exact ⟨rfl, rfl⟩
  · exact ⟨rfl, rfl⟩

theorem wake_mbs (s : State) : (wake s).mbs = s.mbs ∧ (wake s).responder = s.responder := by
  unfold wake
  split
  · exact ⟨(changeMode_quiet s .serve .wake rfl).mbs, (changeMode_quiet s .serve .wake rfl).responder⟩
  · exact ⟨rfl, rfl⟩

theorem wake_only (s : State) (x : TileId) : OnlyTile x s (wake s) := by
  unfold wake
  split
  · exact (modeSet_only s _ _ x).trans ((changeMode_quiet s .serve .wake rfl).onlyTile x)
  · exact .refl x s

end Sys2Proof.Machine
end

