-- ==== Sys2Proof/Laws/Entries.lean ====
section
/-! SUPPORT. Entry to each tile state (R80, R83, R84, R88, R89): one lemma for what the entry does to its tile, and one for
what it leaves alone. -/

namespace Sys2Proof.Machine

open Sys2Proof

theorem foldl_keeps {α β : Type} (p : State → β) (f : State → α → State) (h : ∀ s a, p (f s a) = p s) (l : List α)
    (s : State) : p (l.foldl f s) = p s := by
  induction l generalizing s with
  | nil => rfl
  | cons a l ih => exact (ih (f s a)).trans (h s a)

theorem resetReg_mbs (s : State) (r : Fin 320) : (resetReg s r).mbs = s.mbs := by rw [resetReg_eq]
theorem resetReg_gmode (s : State) (r : Fin 320) : (resetReg s r).gmode = s.gmode := by rw [resetReg_eq]
theorem resetReg_attic (s : State) (r : Fin 320) : (resetReg s r).attic = s.attic := by rw [resetReg_eq]

/-- Resetting ridge registers leaves the mailboxes, the mode and the clocks alone (R240). -/
@[simp] theorem resetImageRegs_mbs (s : State) (t : TileId) : (resetImageRegs s t).mbs = s.mbs := by
  unfold resetImageRegs
  split
  · rfl
  · exact foldl_keeps State.mbs _ (fun s k => resetReg_mbs s _) _ s

@[simp] theorem resetImageRegs_gmode (s : State) (t : TileId) : (resetImageRegs s t).gmode = s.gmode := by
  unfold resetImageRegs
  split
  · rfl
  · exact foldl_keeps State.gmode _ (fun s k => resetReg_gmode s _) _ s

@[simp] theorem resetImageRegs_attic (s : State) (t : TileId) : (resetImageRegs s t).attic = s.attic := by
  unfold resetImageRegs
  split
  · rfl
  · exact foldl_keeps State.attic _ (fun s k => resetReg_attic s _) _ s

@[simp] theorem changeTile_mbs (s : State) (t : TileId) (d : TileState) (c : TileCause) (f : TileCtl → TileCtl) :
    (changeTile s t d c f).mbs = s.mbs := (changeTile_frame s t d c f).mbs
@[simp] theorem changeTile_gmode (s : State) (t : TileId) (d : TileState) (c : TileCause) (f : TileCtl → TileCtl) :
    (changeTile s t d c f).gmode = s.gmode := (changeTile_frame s t d c f).gmode
@[simp] theorem changeTile_attic (s : State) (t : TileId) (d : TileState) (c : TileCause) (f : TileCtl → TileCtl) :
    (changeTile s t d c f).attic = s.attic := (changeTile_frame s t d c f).attic

/-- What the end of a sideband's session and of a walker leave alone: mailboxes, the mode and the clocks. -/
@[simp] theorem endSideSession_mbs (s : State) (t : TileId) : (endSideSession s t).mbs = s.mbs := by
  rw [endSideSession, dropSessionSlots_eq]; rfl
@[simp] theorem endSideSession_gmode (s : State) (t : TileId) : (endSideSession s t).gmode = s.gmode := by
  rw [endSideSession, dropSessionSlots_eq]; rfl
@[simp] theorem endSideSession_attic (s : State) (t : TileId) : (endSideSession s t).attic = s.attic := by
  rw [endSideSession, dropSessionSlots_eq]; rfl
@[simp] theorem stopWalker_mbs (s : State) (t : TileId) : (stopWalker s t).mbs = s.mbs := by
  obtain ⟨a, b, c, d, e⟩ := releaseOwner_eq s (.inr (.gate t)); rw [stopWalker, e]
@[simp] theorem stopWalker_gmode (s : State) (t : TileId) : (stopWalker s t).gmode = s.gmode := by
  obtain ⟨a, b, c, d, e⟩ := releaseOwner_eq s (.inr (.gate t)); rw [stopWalker, e]
@[simp] theorem stopWalker_attic (s : State) (t : TileId) : (stopWalker s t).attic = s.attic := by
  obtain ⟨a, b, c, d, e⟩ := releaseOwner_eq s (.inr (.gate t)); rw [stopWalker, e]

/-- The tile with the session of its sideband ended (R263). -/
def Tile.unsessioned (x : Tile) : Tile := { x with side := { x.side with spdm := { x.side.spdm with sessions := [] } } }

/-- The tile as an entry to FETCH finds it (R83, R159, R205). -/
def Tile.toFetch (x : Tile) (tick : Nat) : Tile :=
  let y := ((x.unsessioned.dropWrites.dropCopy.resetVerify tick).clearSweep)
  { y with
    verify := { y.verify with phase := if y.power.flashPower && !y.power.flashReady then 0 else 1 }
    power := { y.power with resumed := false } }

theorem enterFetch_tile (s : State) (t : TileId) (c : TileCause) :
    (enterFetch s t c).tile t =
      ((s.tile t).toFetch s.attic.tick).change .fetch c fun c => { c with switchPending := false } := by
  unfold enterFetch
  dsimp only
  rw [resetImageRegs_tile, changeTile_tile, State.tile_modTile, endSideSession_tile, stopWalker_tile, wake_tile]
  rfl

theorem enterFetch_only (s : State) (t : TileId) (c : TileCause) : OnlyTile t s (enterFetch s t c) :=
  ((((wake_only s t).trans (stopWalker_only _ t)).trans (endSideSession_only _ t)).trans (modTile_only _ t _)).trans
    ((changeTile_only _ t _ _ _).trans (resetImageRegs_only _ t))

theorem Tile.toFetch_ctl (x : Tile) (tick : Nat) : (x.toFetch tick).ctl = x.ctl := by
  simp [Tile.toFetch, Tile.unsessioned]

theorem enterFetch_moved (s : State) (t : TileId) (c : TileCause) : Moved t s (enterFetch s t c) .fetch c := by
  constructor <;> simp [enterFetch_tile, Tile.toFetch_ctl]

@[simp] theorem enterFetch_mbs (s : State) (t : TileId) (c : TileCause) : (enterFetch s t c).mbs = s.mbs := by
  unfold enterFetch
  dsimp only
  rw [resetImageRegs_mbs, changeTile_mbs, State.modTile_mbs, endSideSession_mbs, stopWalker_mbs]
  exact (wake_mbs s).1

/-- A fetch wakes the device (R60). -/
theorem enterFetch_gmode (s : State) (t : TileId) (c : TileCause) : (enterFetch s t c).gmode = wokenMode s := by
  unfold enterFetch
  dsimp only
  rw [resetImageRegs_gmode, changeTile_gmode, State.modTile_gmode, endSideSession_gmode, stopWalker_gmode]
  exact wake_gmode s

theorem resumeFetch_only (s : State) (t : TileId) (c : TileCause) : OnlyTile t s (resumeFetch s t c) :=
  ((endSideSession_only s t).trans (modTile_only _ t _)).trans ((changeTile_only _ t _ _ _).trans (resetImageRegs_only _ t))

theorem resumeFetch_moved (s : State) (t : TileId) (c : TileCause) : Moved t s (resumeFetch s t c) .fetch c := by
  constructor <;> simp [resumeFetch]

/-- Entry to HELD with no switch pending is one change (R75). -/
theorem enterHeld_eq (s : State) (t : TileId) (c : TileCause) (h : (s.tile t).ctl.switchPending = false) :
    enterHeld s t c = changeTile (s.modTile t fun x =>
      { x with power := { x.power with afterReset := decide (x.ctl.state = .run) } }) t .held c := by
  unfold enterHeld
  dsimp only
  rw [if_neg]
  simp [h]

theorem enterHeld_only (s : State) (t : TileId) (c : TileCause) : OnlyTile t s (enterHeld s t c) := by
  have a := (modTile_only s t fun x => { x with power := { x.power with afterReset := decide (x.ctl.state = .run) } }).trans
    (changeTile_only _ t .held c id)
  unfold enterHeld
  dsimp only
  split
  · exact a.trans (enterFetch_only _ t _)
  · exact a

@[simp] theorem enterHeld_mbs (s : State) (t : TileId) (c : TileCause) : (enterHeld s t c).mbs = s.mbs := by
  unfold enterHeld
  dsimp only
  split
  · rw [enterFetch_mbs, changeTile_mbs]; rfl
  · rw [changeTile_mbs]; rfl

theorem enterOff_only (s : State) (t : TileId) (c : TileCause) : OnlyTile t s (enterOff s t c) :=
  (((stopWalker_only s t).trans (endSideSession_only _ t)).trans (modTile_only _ t _)).trans (changeTile_only _ t _ _ _)

theorem enterOff_moved (s : State) (t : TileId) (c : TileCause) : Moved t s (enterOff s t c) .off c := by
  constructor <;> simp [enterOff] <;> split <;> simp

@[simp] theorem enterOff_mbs (s : State) (t : TileId) (c : TileCause) : (enterOff s t c).mbs = s.mbs := by
  simp [enterOff]

@[simp] theorem enterOff_gmode (s : State) (t : TileId) (c : TileCause) : (enterOff s t c).gmode = s.gmode := by
  simp [enterOff]

theorem powerEntry_only (s : State) (t : TileId) (c : TileCause) : OnlyTile t s (powerEntry s t c) := by
  unfold powerEntry
  dsimp only
  split
  · exact enterFetch_only s t c
  · exact enterHeld_only s t c

@[simp] theorem powerEntry_mbs (s : State) (t : TileId) (c : TileCause) : (powerEntry s t c).mbs = s.mbs := by
  unfold powerEntry
  dsimp only
  split <;> simp

theorem assertPower_only (s : State) (t : TileId) : OnlyTile t s (assertPower s t) := by
  unfold assertPower
  dsimp only
  refine OnlyTile.trans ?_ (powerEntry_only _ t _)
  exact ⟨rfl, rfl, rfl, rfl, rfl, rfl, .same _ rfl rfl, rfl, rfl, rfl, rfl,
    fun u n => State.tile_modTile_ne _ _ t u (Ne.symm n), fun _ _ => rfl⟩

@[simp] theorem assertPower_mbs (s : State) (t : TileId) : (assertPower s t).mbs = s.mbs := by
  unfold assertPower
  dsimp only
  rw [powerEntry_mbs]
  rfl

theorem requestPower_only (s : State) (t : TileId) (c : TileCause) : OnlyTile t s (requestPower s t c) := by
  unfold requestPower
  dsimp only
  refine (modTile_only s t _).trans (.ite _ (powerEntry_only _ t c) (.ite _ (assertPower_only _ t) (modTile_only _ t _)))

@[simp] theorem requestPower_mbs (s : State) (t : TileId) (c : TileCause) : (requestPower s t c).mbs = s.mbs := by
  unfold requestPower
  dsimp only
  split
  · rw [powerEntry_mbs]; rfl
  · split
    · rw [assertPower_mbs]; rfl
    · rfl

end Sys2Proof.Machine
end

