-- ==== Sys2Proof/Laws/Only.lean ====
section
/-! SUPPORT. Frames by parts: `Only ps s t` is reflexive, transitive and monotone in its parts; a completion and an event
each have theirs. -/

namespace Sys2Proof.Machine

open Sys2Proof

theorem Only.refl (ps : List Part) (s : State) : Only ps s s := by
  constructor <;> intros <;> first | rfl | exact ⟨rfl, rfl, rfl⟩ | exact ⟨rfl, fun _ => rfl⟩ | exact ⟨rfl, rfl, fun _ => rfl⟩

theorem Only.mono {ps qs : List Part} {s t : State} (h : Only ps s t) (m : ps ⊆ qs) : Only qs s t where
  pending := h.pending
  gmode n := h.gmode fun k => n (m k)
  boot n := h.boot fun k => n (m k)
  loft n := h.loft fun k => n (m k)
  fw n := h.fw fun k => n (m k)
  attic n := h.attic fun k => n (m k)
  cal n := h.cal fun k => n (m k)
  otp n := h.otp fun k => n (m k)
  ridge n := h.ridge fun k => n (m k)
  keys n := h.keys fun k => n (m k)
  eng n := h.eng fun k => n (m k)
  tiles n := h.tiles fun k => n (m k)
  purlin n := h.purlin fun k => n (m k)
  memctl n := h.memctl fun k => n (m k)
  resp n := h.resp fun k => n (m k)
  freeCtr n := h.freeCtr fun k => n (m k)
  host n := h.host fun k => n (m k)
  mail n := have a := h.mail fun k => n (m k); ⟨a.1, a.2.1, fun l => a.2.2 fun k => l (m k)⟩
  gutter n := h.gutter fun k => n (m k)
  quiet n l := have a := h.quiet (fun k => n (m k)) (fun k => l (m k)); ⟨a.1, a.2.1, fun p => a.2.2 fun k => p (m k)⟩

theorem Only.trans {ps : List Part} {s t u : State} (a : Only ps s t) (b : Only ps t u) : Only ps s u where
  pending := b.pending.trans a.pending
  gmode n := (b.gmode n).trans (a.gmode n)
  boot n := (b.boot n).trans (a.boot n)
  loft n := ⟨(b.loft n).1.trans (a.loft n).1, (b.loft n).2.1.trans (a.loft n).2.1, (b.loft n).2.2.trans (a.loft n).2.2⟩
  fw n := (b.fw n).trans (a.fw n)
  attic n := (b.attic n).trans (a.attic n)
  cal n := (b.cal n).trans (a.cal n)
  otp n := (b.otp n).trans (a.otp n)
  ridge n := (b.ridge n).trans (a.ridge n)
  keys n := (b.keys n).trans (a.keys n)
  eng n := (b.eng n).trans (a.eng n)
  tiles n := (b.tiles n).trans (a.tiles n)
  purlin n := (b.purlin n).trans (a.purlin n)
  memctl n := (b.memctl n).trans (a.memctl n)
  resp n := (b.resp n).trans (a.resp n)
  freeCtr n := (b.freeCtr n).trans (a.freeCtr n)
  host n := ⟨by rw [(b.host n).1, (a.host n).1], fun k => ((b.host n).2 k).trans ((a.host n).2 k)⟩
  mail n := ⟨(b.mail n).1.trans (a.mail n).1, (b.mail n).2.1.trans (a.mail n).2.1,
    fun l => ((b.mail n).2.2 l).trans ((a.mail n).2.2 l)⟩
  gutter n := by rw [b.gutter n, a.gutter n]
  quiet n l := ⟨(b.quiet n l).1.trans (a.quiet n l).1, (b.quiet n l).2.1.trans (a.quiet n l).2.1,
    fun p => ((b.quiet n l).2.2 p).trans ((a.quiet n l).2.2 p)⟩

/-- A completion touches the mail. -/
theorem MailFrame.only {s t : State} (h : MailFrame s t) : Only [.mail] s t where
  pending := h.pending
  gmode _ := h.gmode
  boot _ := h.boot
  loft _ := ⟨h.run, h.pair, h.taking⟩
  fw _ := h.fw
  attic _ := h.attic
  cal _ := h.cal
  otp _ := h.otp
  ridge _ := h.ridge
  keys _ := h.keys
  eng _ := h.eng
  tiles _ := h.tiles
  purlin _ := h.purlin
  memctl _ := h.memctl
  resp _ := h.resp
  freeCtr _ := h.freeCtr
  host _ := ⟨h.host, h.links⟩
  mail n := absurd (List.mem_singleton.2 rfl) n
  gutter _ := h.gutter
  quiet _ n := absurd (List.mem_singleton.2 rfl) n

/-- Latches, messages and records are events. -/
theorem EventFrame.only {s t : State} (h : EventFrame s t) : Only [.events] s t where
  pending := h.pending
  gmode _ := h.gmode
  boot _ := h.boot
  loft _ := by rw [h.loft]; exact ⟨rfl, rfl, rfl⟩
  fw _ := h.fw
  attic _ := h.attic
  cal _ := h.cal
  otp _ := h.otp
  ridge _ := h.ridge
  keys _ := h.keys
  eng _ := h.eng
  tiles _ := h.tiles
  purlin _ := h.purlin
  memctl _ := h.memctl
  resp _ := h.resp
  freeCtr _ := h.freeCtr
  host _ := ⟨h.host, h.links⟩
  mail _ := ⟨h.mbs, h.responder, fun _ => h.loft⟩
  gutter n := absurd (List.mem_singleton.2 rfl) n
  quiet n _ := absurd (List.mem_singleton.2 rfl) n

end Sys2Proof.Machine
end

