-- ==== Sys2Proof/WellFormed.lean ====
section
/-! DEFINITION. Which commands are well formed: the ranges of operands that the interfaces of the block fix. -/

namespace Sys2Proof

/-- Lanes of the runs of one block or message: they exist (R268) and differ (R276, R278). -/
def lanesWf (runs : List LaneRun) : Bool := runs.all (·.lane < 32) && decide ((runs.map (·.lane)).Nodup)

/-- A digest job's lanes. -/
def CmpRuns.wf (r : CmpRuns) : Bool := lanesWf r.runs && lanesWf r.again && r.katFail.all (· < 32)

/-- A Rafter run names units that exist (R288). -/
def RafterRun.wf (r : RafterRun) : Bool :=
  r.wrong.all (· < 4) && r.katFail.all (· < 4)

/-- A word takes from 1 to 8 pulses (R327). -/
def Burn.wf (b : Burn) : Bool := decide (1 ≤ b.pulses ∧ b.pulses ≤ 8)

/-- An OTP read names a main row or a spare (R317). -/
def OtpRead.wf (r : OtpRead) : Bool := decide (r.row < 2112)

/-- A group read has at most 32 blocks of at most 4,096 bytes (R142). -/
def GroupRead.wf (g : GroupRead) : Bool :=
  decide (g.blocks.length ≤ 32) && g.blocks.all (fun b => decide (b.length ≤ 4096)) &&
    g.candRuns.wf && g.nodeRuns.wf && g.leafRuns.all CmpRuns.wf && g.otherRuns.wf && g.otherLeafRuns.all CmpRuns.wf

/-- A line fault names an owner, contents of R448 and a 4 KiB unit at most. -/
def LineFault.wf (f : LineFault) : Bool := decide (f.loc < 8 ∧ f.contents ≤ 16 ∧ f.data.length ≤ 4096) && f.runs.all CmpRuns.wf

/-- A node read's lanes. -/
def NodeRead.wf (n : NodeRead) : Bool := n.runs.1.wf && n.runs.2.1.wf && n.runs.2.2.wf

/-- Some word was late. -/
def Late.wf (l : Late) : Bool := decide (0 < l.words)

/-- A frame has the whole words its bits make (R371). -/
def Frame.wf (f : Frame) : Bool := decide (f.words.length = f.bits / 32)

/-- BAR0 is 32 MiB (R397); the model numbers the function's 4 KiB of configuration space after it. -/
def barWf (addr : Nat) : Bool := decide (addr < 0x2001000)

/-- Host physical addresses of CXL.mem. -/
def hpaWf (hpa : Nat) : Bool := decide (hpa < 2 ^ 52)

/-- Operands in range. -/
def Instr.wf : Instr → Bool
  | .sramInitDone k d => k.all (· < 32) && d.all OtpRead.wf
  | .resenseDone d => d.all OtpRead.wf
  | .fwManifest _ r | .signatureResult _ r | .keySign _ r | .keyVerify _ r | .keyEcdh _ r | .challenge _ r | .getMeasurements _ r
  | .keyExchange _ r | .chunkSend _ r | .getCsr _ r
  | .keyProve _ r | .measureQuote _ r | .rafterJobDone _ r _ _ => r.wf
  | .updateVerified _ r rs | .fwWindowVerified r rs | .imageRecover _ _ r rs | .restoreSourceDone _ _ r rs
  | .purlinFwLoadDone _ r rs => r.wf && rs.all CmpRuns.wf
  | .fwTree _ rs => rs.all CmpRuns.wf
  | .keyHashOpen _ _ rs | .keyHashFinalCompare _ rs | .keyHashHash _ _ rs | .keyHashUpdate _ rs | .keyHashFinal _ rs => rs.all CmpRuns.wf
  | .fwBlock _ r => r.wf
  | .fwSvnCommit _ b | .imageSvnCommit _ b | .otpProgram _ b | .otpUds _ b | .otpFinalise _ b | .otpLifecycle _ b
  | .otpRevoke _ b | .otpRepair _ b | .deviceDepot _ b => b.all Burn.wf
  | .groupLanded _ g r => decide (g < 2048) && r.wf
  | .sweepGroup _ g _ r c cs h => decide (g < 2048) && r.wf && c.wf && cs.all CmpRuns.wf && h.wf
  | .sweepAreaCompare _ _ _ _ _ _ _ rs | .refillDone _ _ _ _ rs => rs.all CmpRuns.wf
  | .treeNodeRead _ l _ n _ r o => decide (1 ≤ l ∧ l ≤ 4) && decide (n.length = 1536) && r.wf && o.wf
  | .rcRead _ a n | .barAccessOverrun _ a n => barWf a && decide (0 < n)
  | .registerWrite _ a b => barWf a && decide (0 < b.length)
  | .cxlMemRead _ a f => hpaWf a && f.all LineFault.wf
  | .cxlMemWrite _ a _ _ => hpaWf a
  | .patrolScrub _ f => f.all LineFault.wf
  | .sidebandBadFrame _ f | .sidebandNop _ f | .replay _ f | .sidebandRead _ f | .sidebandWrite _ f | .bootOk _ f
  | .resetReq _ f | .updateCommit _ f | .updateAbandon _ f | .openCommit _ f | .measureExtendSb _ f | .spdmSend _ f => f.wf
  | .readArray _ _ _ l f => l.all Late.wf && f.all LineFault.wf
  | .repairDone _ _ ns _ | .resyncDone _ _ _ ns _ => ns.all NodeRead.wf
  | .reloadCopyDone _ rs => rs.all CmpRuns.wf
  | _ => true

end Sys2Proof
end

