-- ==== Sys2Proof/Tests/Slice0.lean ====
section
/-! SUPPORT. Tests of the model by evaluation: ill-formed commands, and for each statement states and operands that meet its
hypotheses. -/

namespace Sys2Proof.Tests

set_option Elab.async false

open Sys2Proof Sys2Proof.Machine

/-! ### States the tests start from -/

/-- A device in SERVE with Imvon running, its loader host on mailbox 0, the Ridge domain powered and the Purlin port UP. -/
def served : State :=
  { State.reset with
    gmode := { GMode.reset with mode := .serve }
    boot := { Boot.reset with vddAon := true, suppliesOk := true, phase := .ended, underlayDone := true }
    loft := { Loft.reset with run := .imvon }
    otp := { Otp.reset with normal := [], strict := [] }
    ridge := { Ridge.reset with powered := true }
    eng := { Engines.reset with source := 1, inst0Ready := true, inst1Ready := true }
    purlin := { Purlin.reset with state := 1 }
    host := { HostPort.reset with loaderAlive := true }
    memctl := { MemCtl.reset with channelUp := 0xFF } }

/-- The same in another mode. -/
def inMode (m : DevMode) : State := { served with gmode := { served.gmode with mode := m } }

/-- A request of mailbox `h` of `n` bytes at the front of the responder, its first bytes given and the rest zero. -/
def asked (s : State) (h : LdId) (op : Nat) (data : List Nat) (n : Nat := data.length) : State :=
  { s with
    mbs := s.mbs.set h.val { Mailbox.reset with
      opcode := BitVec.ofNat 16 op, length := BitVec.ofNat 32 n, go := true, busy := true, fill := n
      payload := Memory.write 0 [] 0 (data.map (BitVec.ofNat 8)) } h.isLt
    responder := [h] }

/-- The state with a tile changed. -/
def tileIn (s : State) (x : TileId) (st : TileState) (f : Tile → Tile := id) : State :=
  s.modTile x fun y => f { y with ctl := { y.ctl with state := st, rstHeld := !st.released } }

/-- The eight request bytes of a tile number and a word. -/
def tileWordArg (x v : Nat) : List Nat := [x, 0, 0, 0, v, 0, 0, 0]

theorem canonical_served : Canonical served := by
  constructor <;> decide

/-- A tile changed elsewhere than in its areas, from SERVE. -/
theorem canonical_tileIn (x : TileId) (st : TileState) (f : Tile → Tile) (mem : ∀ y, (f y).mem = y.mem)
    (buffer : ∀ y, (f y).side.buffer = y.side.buffer) (port : ∀ y, (f y).eave.buffer = y.eave.buffer := by intro _; rfl) :
    Canonical (tileIn served x st f) :=
  canonical_served.modTile_keep x _ (mem _) (buffer _) (port _)

/-- A request of bytes leaves the areas in canonical form. -/
theorem canonical_asked {s : State} (c : Canonical s) (h : LdId) (op : Nat) (data : List Nat) (n : Nat)
    (w : Memory.wf 0 (Memory.write 0 [] 0 (data.map (BitVec.ofNat 8))) = true) : Canonical (asked s h op data n) :=
  let t := c.modMb h (fun _ => { Mailbox.reset with payload := Memory.write 0 [] 0 (data.map (BitVec.ofNat 8)) }) w
  { normal := c.normal, strict := c.strict, shadow := c.shadow, purlin := c.purlin, push := c.push, copy := c.copy
    opens := c.opens, staging := c.staging, buffer := c.buffer, port := c.port, own := c.own, routes := c.routes, message := c.message
    payload := fun u => by
      have e : ((asked s h op data n).mb u).payload = ((s.modMb h fun _ => { Mailbox.reset with
          payload := Memory.write 0 [] 0 (data.map (BitVec.ofNat 8)) }).mb u).payload := by
        by_cases k : h = u
        · subst k; simp [asked, State.mb, State.modMb]
        · have : h.val ≠ u.val := fun e => k (Fin.ext e)
          simp [asked, State.mb, State.modMb, this]
      rw [e]; exact t.payload u }

/-! ### Ill-formed commands -/

theorem test_wf_units : Instr.wf (.keySign (.mailbox 0) { eFirst := true, lFirst := true, wrong := [4], katFail := [] }) = false ∧
    Instr.wf (.keySign (.mailbox 0) { eFirst := true, lFirst := true, wrong := [3], katFail := [] }) = true ∧
    Instr.wf (.keySign (.mailbox 0) { eFirst := true, lFirst := true, wrong := [], katFail := [4] }) = false := by decide
theorem test_wf_lanes : Instr.wf (.keyHashFinal (.mailbox 0) [{ runs := [{ lane := 32, wrong := none }], again := [], katFail := [] }]) = false ∧
    Instr.wf (.fwTree 0 [{ runs := [], again := [{ lane := 32, wrong := none }], katFail := [] }]) = false ∧
    Instr.wf (.keyHashFinal (.mailbox 0) [{ runs := [{ lane := 31, wrong := none }], again := [], katFail := [] }]) = true := by decide
theorem test_wf_sram : Instr.wf (.sramInitDone [32] []) = false ∧
    Instr.wf (.resenseDone [{ row := 2112, normal := 0, strict := 0 }]) = false := by decide
theorem test_wf_burn : Instr.wf (.otpUds 0 [{ pulses := 9, normal := 0, strict := 0 }]) = false ∧
    Instr.wf (.otpUds 0 [{ pulses := 0, normal := 0, strict := 0 }]) = false := by decide
theorem test_wf_group : Instr.wf (.groupLanded 0 2048 {
      blocks := [], kept := [], node := [], nodeOther := none, others := [], candRuns := cleanRuns, nodeRuns := cleanRuns
      leafRuns := [], otherRuns := cleanRuns, otherLeafRuns := [] }) = false ∧
    Instr.wf (.groupLanded 0 0 {
      blocks := List.replicate 33 [], kept := [], node := [], nodeOther := none, others := [], candRuns := cleanRuns
      nodeRuns := cleanRuns, leafRuns := [], otherRuns := cleanRuns, otherLeafRuns := [] }) = false := by decide
theorem test_wf_node : Instr.wf (.treeNodeRead 0 5 0 [] none cleanRuns cleanRuns) = false := by decide
theorem test_wf_bar : Instr.wf (.rcRead 0 0x2001000 4) = false ∧ Instr.wf (.rcRead 0 0 0) = false ∧
    Instr.wf (.registerWrite (some 0) 0 []) = false := by decide
theorem test_wf_dpa : Instr.wf (.cxlMemWrite 0 (2 ^ 64) 0 []) = false := by decide
theorem test_wf_frame : Instr.wf (.sidebandNop 0 { bits := 64, words := [0], late := [] }) = false := by decide

/-! ### Witnesses: the queue, tiles -/

theorem test_witness_idle : served.pending = [] ∧ served.boot.vddAon = true ∧ State.reset.pending = [] ∧
    State.reset.boot.vddAon = false := by decide

theorem test_witness_trial_tick : let s := tileIn served 31 .run fun y => { y with update := { y.update with trial := some 0 } }
    (s.tile 31).ctl.state = .run ∧ (s.tile 31).update.trial ≠ none := by decide

theorem test_reset_lines : ResetLines served ∧ ResetLines (tileIn served 3 .run) ∧ ResetLines State.reset := by
  unfold ResetLines; decide

/-- A settled tile in FETCH with an image of no block verified whole. -/
def releasable : State := tileIn served 2 .fetch fun y => { y with
  power := { y.power with settled := true }, ctl := { y.ctl with pgood := true }
  verify := { y.verify with accepted := true, openDone := true, phase := 6 } }

theorem test_witness_release : ResetLines releasable ∧ settled releasable 2 = true ∧
    sealedDone (releasable.tile 2).verify = true ∧ releasable.gmode.mode ≠ .gate ∧ releasable.boot.ridgeHeld = false ∧
    fusedOff releasable 2 = false := by
  unfold ResetLines; decide

theorem test_witness_doorbell : let s := asked served 15 0x100 []
    (s.mb 15).busy = true ∧ s.responder.Nodup ∧ (∀ u ∈ s.responder, (s.mb u).busy = true) := by decide

theorem test_witness_tile_status : let s := asked served 3 0x200 [31, 0, 0, 0]
    Taken s 3 (0x200 * 256) ∧ (s.mb 3).arg 0 4 = 31 ∧ fusedOff s 31 = false ∧ lengthOf s 3 = 4 ∧
    s.gmode.mode ∈ servedModes ++ [.lockdown, .provision] := by
  repeat' (first | decide | constructor)

theorem test_witness_tile_enable : OwnerTile (asked (tileIn served 5 .absent) 0 0x201 [5, 0, 0, 0]) 0 5 (0x201 * 256) 4 ∧
    OwnerTile (asked served 0 0x201 [0, 0, 0, 0]) 0 0 (0x201 * 256) 4 ∧ (served.tile 0).ctl.state ≠ .absent := by
  repeat' (first | decide | constructor)

theorem test_witness_tile_disable : let s := asked served 0 0x202 [31, 0, 0, 0]
    OwnerTile s 0 31 (0x202 * 256) 4 ∧ (s.tile 31).ctl.state = .off ∧ (s.tile 31).ctl.stage = false ∧
    (s.tile 31).eave.format = none ∧ OwnerTile (asked (tileIn served 1 .run) 0 0x202 [1, 0, 0, 0]) 0 1 (0x202 * 256) 4 := by
  repeat' (first | decide | constructor)

theorem test_witness_tile_power_off : OwnerTile (asked (tileIn served 5 .held) 0 0x203 (tileWordArg 5 0)) 0 5 (0x203 * 256) 8 ∧
    OwnerTile (asked served 0 0x203 (tileWordArg 5 0)) 0 5 (0x203 * 256) 8 ∧ (served.tile 5).ctl.pwrPending = false := by
  repeat' (first | decide | constructor)

theorem test_witness_tile_fetch : OwnerTile (asked (tileIn served 5 .quarantine) 0 0x204 [5, 0, 0, 0]) 0 5 (0x204 * 256) 4 ∧
    OwnerTile (asked served 0 0x204 [5, 0, 0, 0]) 0 5 (0x204 * 256) 4 := by
  repeat' (first | decide | constructor)

theorem test_witness_tile_reset : OwnerTile (asked (tileIn served 5 .run) 0 0x205 [5, 0, 0, 0]) 0 5 (0x205 * 256) 4 ∧
    OwnerTile (asked (tileIn served 5 .early) 0 0x205 [5, 0, 0, 0]) 0 5 (0x205 * 256) 4 ∧
    ((tileIn served 5 .run).tile 5).ctl.switchPending = false ∧
    OwnerTile (asked served 0 0x205 [5, 0, 0, 0]) 0 5 (0x205 * 256) 4 := by
  repeat' (first | decide | constructor)

theorem test_witness_tile_restore : let s := asked (tileIn served 5 .held) 0 0x206 [5, 0, 0, 0]
    OwnerTile s 0 5 (0x206 * 256) 4 ∧ bitOf (s.tile 5).active.recover 3 = true ∧ (s.tile 5).active.pushWait ≠ 0 ∧
    OwnerTile (asked served 0 0x206 [5, 0, 0, 0]) 0 5 (0x206 * 256) 4 := by
  repeat' (first | decide | constructor)

/-- A tile in OFF that TILE_POWER on finds, its power switched by the board or not, its first policy word given. -/
def powerOn (board : Bool) (policy : Word) (until_ : Nat) : State :=
  asked (tileIn served 5 .off fun y => { y with
    power := { y.power with powerCtl := board, offUntil := until_ }, active := { y.active with policy := policy } })
    0 0x203 (tileWordArg 5 1)

theorem test_witness_power_on : (∀ p ∈ [(true, 1#32, 0), (false, 0#32, 0), (false, 1#32, 9)],
      ownerOnly (powerOn p.1 p.2.1 p.2.2) 0 = true) ∧
    OwnerTile (powerOn true 1 0) 0 5 (0x203 * 256 + 1) 8 ∧ OwnerTile (powerOn false 1 9) 0 5 (0x203 * 256 + 1) 8 ∧
    ((powerOn true 1 0).tile 5).active.autoFetch = true ∧ reusable ((powerOn true 1 0).tile 5) = false ∧
    ((powerOn false 0 0).tile 5).active.autoFetch = false ∧ offMinOk (powerOn false 0 0) 5 = true ∧
    spacingOk (powerOn false 0 0) = true ∧ sequenceRuns (powerOn false 0 0) 5 = false ∧
    ((powerOn false 1 9).tile 5).power.powerCtl = false ∧ offMinOk (powerOn false 1 9) 5 = false ∧
    ((powerOn false 1 9).mb 0).arg 4 4 = 1 := by
  repeat' (first | decide | constructor)

theorem test_witness_stale : let s := asked (tileIn served 5 .held fun y => { y with ctl := { y.ctl with gen := 1 } }) 0 0x202 [5, 0, 0, 0]
    Taken s 0 (0x202 * 256) ∧ (s.mb 0).arg 0 4 = 5 ∧ fusedOff s 5 = false ∧ ownerOnly s 0 = true ∧
    s.gmode.mode ∈ servedModes ∧ (s.mb 0).gen ≠ (s.tile 5).ctl.gen ∧ lengthOf s 0 = 4 := by
  repeat' (first | decide | constructor)

theorem test_witness_policy : let s := asked served 0 0x207 [5] 28
    OwnerTile s 0 5 (0x207 * 256) 28 ∧ (s.tile 5).switching = none ∧ policyWordsOk (s.mb 0) = true := by
  repeat' (first | decide | constructor)

set_option maxRecDepth 20000 in
theorem test_witness_filter : let s := asked served 0 0x208 [5] 0x40C
    OwnerTile s 0 5 (0x208 * 256) 0x40C ∧ (s.tile 5).switching = none ∧ filterWordsOk (s.mb 0) = true := by
  repeat' (first | decide | constructor)

theorem test_witness_power_sequence :
    (let s := tileIn served 5 .off fun y => { y with ctl := { y.ctl with pwrPending := true } }
     (s.tile 5).ctl.pwrPending = true ∧ (s.tile 5).power.pwrDropPending = false ∧ fusedOff s 5 = false ∧
       (s.tile 5).ctl.switchPending = false) ∧
    (let s := tileIn served 5 .off fun y => { y with power := { y.power with pwrDropPending := true } }
     (s.tile 5).power.pwrDropPending = true) ∧
    (let s := tileIn served 5 .held fun y => { y with ctl := { y.ctl with pgood := true } }
     (s.tile 5).ctl.pgood = true ∧ (s.tile 5).ctl.state ≠ .absent ∧ (s.tile 5).ctl.state ≠ .off) := by decide

/-- A tile in a state with its qualified inputs and conditions. -/
def conditions (st : TileState) (good alert : Bool) (cond : BitVec 2) : State :=
  tileIn served 5 st fun y => { y with
    ctl := { y.ctl with pgood := good, pwrEn := true, alertCond := cond }
    power := { y.power with pgoodQ := good, alertQ := alert } }

theorem test_witness_inputs : served.boot.vddAon = true ∧ fusedOff served 5 = false ∧
    ((conditions .held false false 0).tile 5).power.pgoodQ = false ∧
    ((conditions .run true false 0).tile 5).power.pgoodQ = true ∧ ((conditions .run true false 0).tile 5).ctl.pgood = true ∧
    ((conditions .run true false 0).tile 5).power.pgoodEdges.length < 64 ∧
    ((conditions .fetch false false 0).tile 5).active.pgoodTimeout ≠ 0 ∧ ((conditions .fetch false false 0).tile 5).ctl.pwrEn = true ∧
    ((conditions .run true false 0).tile 5).active.alertAction = 0 ∧ ((conditions .run true true 1).tile 5).ctl.alertCond = 1 ∧
    ((conditions .run true true 0).tile 5).power.alertQ = true ∧ ((conditions .run true true 2).tile 5).ctl.alertCond = 2 := by
  decide

/-! ### Witnesses: power, start-up, firmware -/

/-- A device whose COLD sequence stands at a phase. -/
def coldAt (p : ColdPhase) : State :=
  { State.reset with boot := { Boot.reset with vddAon := true, suppliesOk := true, phase := p } }

theorem test_witness_cold : State.reset.boot.vddAon = false ∧
    (let s := { coldAt .attic with boot := { (coldAt .attic).boot with suppliesOk := false } }
     s.boot.vddAon = true ∧ s.boot.suppliesOk = false ∧ s.boot.phase ≠ .supplyStop) ∧
    (let s := { coldAt .supplyStop with boot := { (coldAt .supplyStop).boot with suppliesOk := false } }
     s.boot.vddAon = true ∧ s.boot.suppliesOk = false ∧ s.boot.phase = .supplyStop) ∧
    (coldAt .por).otp.feature = 0 ∧ (coldAt .por).boot.phase = .por ∧ (coldAt .pll).boot.phase = .pll ∧
    served.boot.vddAon = true ∧ served.boot.suppliesOk = true := by decide

theorem test_witness_later_cold : (coldAt .sram).boot.phase = .sram ∧ (coldAt .sense).boot.phase = .sense ∧
    ((coldAt .sense).reg 0).saturated = false ∧ (coldAt .pll).boot.phase ∈ [ColdPhase.pll, .sram, .sense, .ridge] ∧
    (coldAt .pll).boot.underlayDone = false ∧ (coldAt .ridge).boot.phase = .ridge ∧
    (coldAt .ridge).boot.underlayDone = false := by decide

theorem test_witness_claim : Taken (asked (inMode .await) 7 0x800 []) 7 (0x800 * 256) ∧
    OwnerCommand (asked served 0 0x800 []) 0 (0x800 * 256) 0 ∧ Taken (asked (inMode .gate) 7 0x800 []) 7 (0x800 * 256) ∧
    Taken (asked (inMode .load) 7 0x800 []) 7 (0x800 * 256) ∧ (inMode .gate).boot.heldClaim = none := by
  repeat' (first | decide | constructor)

/-- A firmware manifest that names an image of `n` blocks. -/
def fwManifestOf (blocks : Nat) : List Byte := Memory.read 0
  (Memory.write 0 (Memory.write 0 [] 0x18 (leBytes 4 (4096 * blocks))) 0x14 (leBytes 4 1)) 0 256

/-- A load in progress with an image. -/
def loading (img : Option FwImage) (phase : FwPhase) : State :=
  let s := inMode .load
  { s with fw := { FwLoad.reset with phase := phase, image := img } }

theorem test_witness_manifest : let s := asked (loading none .claimed) 0 0x801 [0, 0, 0, 0, 0, 0, 0, 0, 0, 1] 256
    LoaderCommand s 0 (0x801 * 256) 256 ∧ s.fw.image = none ∧ s.fw.windowRun = none ∧ (s.mb 0).arg 8 4 = 256 := by
  repeat' (first | decide | constructor)

/-- An image of `n` blocks with nodes and blocks, under a manifest of its length alone. -/
def imageOf (n : Nat) (nodes : List (Nat × List Byte)) : FwImage where
  manifest := leBytes 0x18 0 ++ leBytes 4 (4096 * n)
  digest := 0
  nodes := nodes
  blocks := []

theorem test_witness_tree : let img := imageOf 1 []
    let s := asked (loading (some img) .manifest) 0 0x802 [1, 1] 1544
    LoaderCommand s 0 (0x802 * 256) (8 + 1536) ∧ s.fw.image = some img ∧ (s.mb 0).arg 1 1 = 1 ∧ (s.mb 0).arg 2 2 = 0 ∧
    (s.mb 0).arg 0 1 = treeDepth (blockCount img.manifest) ∧ (s.mb 0).arg 4 4 < nodesAt (blockCount img.manifest) 1 ∧
    parentEntry img.manifest img.nodes 1 0 = some 0 := by
  repeat' (first | decide | constructor)

theorem test_witness_block : let img := imageOf 2 [(nodeKey 1 0, [])]
    let s := asked (loading (some img) .blocks) 0 0x803 [1] (8 + 4096)
    LoaderCommand s 0 (0x803 * 256) (8 + 4096) ∧ s.fw.image = some img ∧ 8 + blockLen img.manifest 1 = 8 + 4096 ∧
    1 < blockCount img.manifest ∧ (s.mb 0).arg 0 4 = 1 ∧ leafEntry img.nodes 1 = some 0 ∧ assocGet img.blocks 1 = none ∧
    img.blocks.length + 1 < blockCount img.manifest ∧ s.fw.rejected < 15 := by
  repeat' (first | decide | constructor)

/-- MAINTAIN, entered from SERVE, with a firmware load. -/
def maintaining (f : FwLoad) : State := { inMode .maintain with fw := f }

theorem test_witness_firmware_commands :
    LoaderCommand (asked (loading none .claimed) 0 0x805 []) 0 (0x805 * 256) 0 ∧
    OwnerCommand (asked (maintaining .reset) 0 0x805 []) 0 (0x805 * 256) 0 ∧
    quietMode (maintaining .reset).boot.maintainFrom = true ∧
    OwnerCommand (asked (maintaining { FwLoad.reset with phase := .verified, slot0 := some (imageOf 1 []) }) 0 0x806 []) 0
      (0x806 * 256) 0 ∧
    OwnerCommand (asked (maintaining .reset) 0 0x807 [0, 0, 0, 0x20]) 0 (0x807 * 256) 4 ∧
    (let s := asked (maintaining .reset) 0 0x807 [0, 0, 0, 0x20, 0, 0, 0, 0]
     OwnerCommand s 0 (0x807 * 256) 8 ∧ (s.mb 0).arg 0 4 + (s.mb 0).arg 4 4 ≤ 0x20000000) ∧
    Taken (asked served 9 0x804 []) 9 (0x804 * 256) ∧
    (let s := asked { served with fw := { FwLoad.reset with slot0 := some (imageOf 1 []), running := some (imageOf 1 []) } } 0
       0x809 []
     OwnerCommand s 0 (0x809 * 256) 0 ∧ s.purlin.state = 1 ∧ s.fw.slot0 = some (imageOf 1 [])) ∧
    (let s := asked { served with fw := { FwLoad.reset with running := some (imageOf 1 []) } } 0 0x808 [0, 0, 0, 0]
     OwnerCommand s 0 (0x808 * 256) 4 ∧ s.otp.overrides = false ∧ s.fw.running = some (imageOf 1 []) ∧
       (s.mb 0).arg 0 4 ≤ svnCount s 32 ∧ (s.mb 0).arg 0 4 ≤ mfSvn (imageOf 1 []).manifest ∧ (s.mb 0).arg 0 4 ≤ 64) := by
  repeat' (first | decide | constructor)

theorem test_witness_firmware_events : (inMode .gate).boot.heldClaim = none ∧
    (let s := { inMode .await with boot := { served.boot with windowRunning := true } }
     s.gmode.mode = .await ∧ s.boot.windowRunning = true) ∧
    (let s := { loading none .claimed with loft := { Loft.reset with run := .bootRom } }
     s.gmode.mode = .load ∧ s.loft.run = .bootRom ∧ s.fw.fromPurlin = false ∧ s.boot.heldClaim = none ∧
       ({ s with fw := { s.fw with fromPurlin := true } } : State).fw.fromPurlin = true) ∧
    (let s := { inMode .load with loft := { Loft.reset with run := .released }, otp := { served.otp with lifecycle := .provisioned } }
     s.loft.run = .released ∧ s.gmode.mode = .load ∧ s.otp.lifecycle = .provisioned) ∧
    (let s := { maintaining { FwLoad.reset with image := some (imageOf 1 []), running := some (imageOf 1 [])
                                                slot1 := some (imageOf 1 []) } with loft := { Loft.reset with run := .reload } }
     s.loft.run = .reload ∧ s.fw.running.isSome = true ∧ s.fw.image.isSome = true ∧ s.gmode.mode = .maintain ∧
       quietMode s.boot.maintainFrom = true ∧ s.boot.heldLockdown = none ∧ (s.reg 4).saturated = false ∧
       ({ s with fw := { s.fw with running := none } } : State).fw.slot1 = some (imageOf 1 [])) ∧
    (let s := maintaining { FwLoad.reset with phase := .claimed, windowRun := some (0, 0) }
     s.fw.windowRun = some (0, 0) ∧ s.fw.phase = .claimed) := by decide

theorem test_witness_lockstep : served.loft.run = .imvon ∧ served.loft.onPairB = false ∧
    served.gmode.mode ∈ [DevMode.serve, .doze, .barren, .trial] ∧
    (let s := { served with loft := { served.loft with
       takeover := some { mode := .serve, okCount := 0, busyCount := 0, bootRom := false } } }
     s.loft.takeover.isSome = true) ∧
    ({ served with loft := { served.loft with onPairB := true } } : State).loft.onPairB = true := by decide

theorem test_witness_device_commands :
    Taken (asked (inMode .lockdown) 15 0x100 []) 15 (0x100 * 256) ∧
    OwnerCommand (asked served 0 0x101 [0x52, 0x53, 0x45, 0x54]) 0 (0x101 * 256) 4 ∧
    ((asked served 0 0x101 [0x52, 0x53, 0x45, 0x54]).mb 0).bytes 0 4 = ascii "RSET" ∧
    ((asked served 0 0x101 [0, 0, 0, 0]).mb 0).bytes 0 4 ≠ ascii "RSET" ∧
    OwnerCommand (asked served 0 0x105 [0x4C, 0x4F, 0x43, 0x4B]) 0 (0x105 * 256) 4 ∧
    ((asked served 0 0x105 [0x4C, 0x4F, 0x43, 0x4B]).mb 0).bytes 0 4 = ascii "LOCK" ∧
    OwnerCommand (asked served 0 0x106 [0x44, 0x50, 0x4F, 0x54]) 0 (0x106 * 256) 4 ∧
    ((asked served 0 0x106 [0x44, 0x50, 0x4F, 0x54]).mb 0).bytes 0 4 = ascii "DPOT" ∧
    (asked served 0 0x106 []).otp.busy = false := by
  repeat' (first | decide | constructor)

theorem test_witness_owner_cfg : let s := asked served 0 0x107 [] (0x50 + 208)
    OwnerCommand s 0 (0x107 * 256) (0x50 + 208) ∧ ownerCfgLen s (s.mb 0) = 0 ∧ s.purlin.state = 1 ∧
    s.gmode.mode ∈ [DevMode.serve, .doze, .barren] := by
  repeat' (first | decide | constructor)

theorem test_witness_doze :
    (let s := asked served 0 0x102 [1, 0, 0, 0, 10, 0, 0, 0]
     OwnerCommand s 0 (0x102 * 256) 8 ∧ (s.mb 0).arg 0 1 = 1 ∧ (s.mb 0).arg 1 3 = 0 ∧ (s.mb 0).arg 4 4 = 10) ∧
    (let s := asked served 0 0x102 [2, 0, 0, 0, 9, 0, 0, 0]
     OwnerCommand s 0 (0x102 * 256) 8 ∧ 1 < (s.mb 0).arg 0 1 ∧ (s.mb 0).arg 4 4 < 10) ∧
    OwnerCommand (asked (inMode .doze) 0 0x103 []) 0 (0x103 * 256) 0 ∧
    (∀ x ∈ served.tiles.toList, x.ctl.state ∉ [TileState.fetch, .early, .restore] ∧ x.ctl.stage = false) ∧
    ({ served with gmode := { served.gmode with dozeArmed := true } } : State).gmode.dozeArmed = true := by
  repeat' (first | decide | constructor)

set_option maxRecDepth 4000 in
theorem test_witness_trial : OwnerCommand (asked served 0 0x104 [] 0x370) 0 (0x104 * 256) 0x370 ∧
    overridesOk (asked served 0 0x104 [] 0x370) ((asked served 0 0x104 [] 0x370).mb 0) = true ∧
    overridesOk (asked served 0 0x104 [64] 0x370) ((asked served 0 0x104 [64] 0x370).mb 0) = false ∧
    (served.reg 6).saturated = false := by
  repeat' (first | decide | constructor)

theorem test_witness_clocks : served.ridge.powered = true ∧
    (let s := { served with boot := { served.boot with ridgeHeld := true } }
     s.boot.ridgeHeld = true ∧ s.gmode.mode ∉ [DevMode.cold, .lockdown, .depot] ∧ s.gmode.mode ≠ .maintain) ∧
    (let s := { served with attic := { served.attic with locked := 8#5, crystal := true } }
     s.attic.locked.getLsbD 3 = true ∧ s.attic.locked.getLsbD 0 = false ∧ s.attic.crystal = true) := by decide

theorem test_witness_sensors : LockableNow served ∧ served.boot.suppliesOk = true ∧
    (served.attic.sites[5]).crit = false ∧ (served.attic.sites[5]).warn = false ∧ served.attic.vmon[0] ≠ VmonLevel.warnLow ∧
    served.attic.vmon[2] ≠ VmonLevel.warnHigh ∧ served.attic.vmon[10] ≠ VmonLevel.critical := by
  unfold LockableNow; decide

/-! ### Witnesses: OTP -/

/-- A device in PROVISION with some rows burned alike in both reads. -/
def provisioning (rows : Rows) (f : Otp → Otp := id) : State :=
  let s := inMode .provision
  { s with otp := f { s.otp with normal := rows, strict := rows } }

theorem test_witness_otp_read : served.gmode.mode ∈ imvonModes ∧ Taken (asked served 8 0x600 []) 8 (0x600 * 256) ∧
    (let s := asked served 8 0x601 [0xFF, 7, 1, 0]
     Taken s 8 (0x601 * 256) ∧ (s.mb 8).arg 0 2 = 2047 ∧ (s.mb 8).arg 2 2 = 1) ∧
    (let s := asked served 8 0x601 [0xFF, 7, 2, 0]
     Taken s 8 (0x601 * 256) ∧ 2048 < (s.mb 8).arg 0 2 + (s.mb 8).arg 2 2) := by
  repeat' (first | decide | constructor)

theorem test_witness_otp_program :
    (let s := asked (provisioning []) 0 0x602 [16, 0, 1, 0, 1, 0, 0, 0]
     ProvisionCommand s 0 (0x602 * 256) 8 ∧ (s.mb 0).arg 0 2 = 16 ∧ (s.mb 0).arg 2 2 = 1 ∧
       BitVec.ofNat 32 ((s.mb 0).arg 4 4) = 1#32 ∧ programmable 16 = true ∧ OtpReady s 0 ∧ BurnReady s 16 1 ∧
       (∀ l, rowLock 16 = some l → regionStatus s l = .unfinalised)) ∧
    (let s := provisioning [(16, 2#32)]
     (∀ x ∈ redirections s, x.1 ≠ 16) ∧ otpNormal s 16 &&& ~~~1#32 ≠ 0 ∧ OtpReady s 0) ∧
    (let s := provisioning [] fun o => { o with status := Vector.replicate 5 .locked }
     OtpReady s 0 ∧ ∃ l : Fin 5, rowLock 16 = some l ∧ regionStatus s l ≠ .unfinalised) := by
  repeat' (first | decide | constructor)

theorem test_witness_otp_uds : let s := asked (provisioning []) 0 0x603 []
    ProvisionCommand s 0 (0x603 * 256) 0 ∧ OtpReady s 0 ∧ (∀ i, i < 8 → otpNormal s (8 + i) = 0 ∧ otpStrict s (8 + i) = 0) ∧
    s.otp.redirected = [] ∧ redirections s = [] ∧ s.eng.source = 1 ∧ s.eng.inst0Ready = true ∧
    (∃ i, i < 8 ∧ (effNormal (provisioning [(15, 1#32)]) (8 + i) ≠ 0)) := by
  repeat' (first | decide | exact ⟨7, by decide⟩ | constructor)

theorem test_witness_finalise : let s := asked (provisioning []) 0 0x604 [2, 0, 0, 0]
    ProvisionCommand s 0 (0x604 * 256) 4 ∧ (s.mb 0).arg 0 1 = 2 ∧ (s.mb 0).arg 1 3 = 0 ∧ regionStatus s 2 = .unfinalised ∧
    OtpReady s 0 ∧ (∀ x ∈ slotRows 2 0, otpNormal s x = 0 ∧ otpStrict s x = 0) ∧
    (let t := provisioning [] fun o => { o with status := (Vector.replicate 5 .locked).set 4 .fault }
     regionStatus t 2 = .locked ∧ regionStatus t 4 = .fault) := by
  repeat' (first | decide | constructor)

theorem test_witness_lifecycle :
    let s := asked (provisioning [] fun o => { o with
      lifecycle := .blank, status := Vector.replicate 5 .locked, shadow := [(0, BitVec.allOnes 32)] }) 0 0x605
        [0x50, 0x52, 0x4F, 0x56]
    ProvisionCommand s 0 (0x605 * 256) 4 ∧ (s.mb 0).bytes 0 4 = ascii "PROV" ∧ s.otp.lifecycle = .blank ∧
    regionStatus s 0 = .locked ∧ regionStatus s 1 = .locked ∧ regionStatus s 2 = .locked ∧ OtpReady s 0 ∧
    BurnReady s 1 (BitVec.allOnes 32) ∧ rowSet (shadowRow s 0) = 2 ∧ rowSet (shadowRow s 2) = 0 ∧
    rowSet (shadowRow s 3) = 0 ∧ (provisioning []).otp.lifecycle ≠ .blank := by
  repeat' (first | decide | constructor)

theorem test_witness_revoke : let s := asked served 0 0x606 [15, 0, 0, 0]
    OwnerCommand s 0 (0x606 * 256) 4 ∧ (s.mb 0).arg 0 1 = 15 ∧ (s.mb 0).arg 1 3 = 0 ∧ revoked s 15 = false ∧
    s.otp.busy = false ∧ BurnReady s 223 (BitVec.allOnes 32) ∧
    revoked { served with otp := { served.otp with shadow := [(223, BitVec.allOnes 32)] } } 15 = true := by
  repeat' (first | decide | constructor)

theorem test_witness_repair :
    (let s := asked { served with otp := { served.otp with normal := [(321, 1#32)], marginal := [321] } } 0 0x607 [0x41, 1, 0, 0]
     OwnerCommand s 0 (0x607 * 256) 4 ∧ (s.mb 0).arg 0 2 = 321 ∧ (s.mb 0).arg 2 2 = 0 ∧ 321 ∈ s.otp.marginal ∧
       BurnReady s 321 (otpNormal s 321) ∧ Canonical s) ∧
    (let s := asked { served with otp := { served.otp with marginal := [322, 362] } } 0 0x607 [0x42, 1, 0, 0]
     OwnerCommand s 0 (0x607 * 256) 4 ∧ (s.mb 0).arg 0 2 = 322 ∧ 322 ∈ s.otp.marginal ∧ 321 ∉ s.otp.marginal) := by
  repeat' (first | decide | constructor)

theorem test_witness_resense : OwnerCommand (asked served 0 0x608 []) 0 (0x608 * 256) 0 ∧ served.otp.busy = false ∧
    (let s := { served with attic := { served.attic with hours := 24 * 256 } }
     24 * 256 ≤ s.attic.hours - s.otp.senseHours) ∧
    (let s := { served with otp := { served.otp with busy := true, senser := some 0 } }
     s.otp.busy = true ∧ s.otp.senseWaiting = false ∧ s.otp.senser = some 0) := by
  repeat' (first | decide | constructor)

/-! ### Witnesses: key store and engines -/

/-- A key slot as a command writes it, with every use. -/
def keyOf (ty n usage : Nat) : KeySlot :=
  { KeySlot.reset with ty := BitVec.ofNat 4 ty, keyBytes := BitVec.ofNat 7 n, usage := BitVec.ofNat 10 usage, fresh := true }

theorem tagHolds_writeSlot (s : State) (i : Fin 256) (k : KeySlot) : TagHolds (writeSlot s i k) i := by
  simp [TagHolds, writeSlot, State.slot, State.setSlot, slotTag, KeySlot.attr]

theorem tagHolds_other (s : State) (i j : Fin 256) (k : KeySlot) (n : i ≠ j) (h : TagHolds s j) :
    TagHolds (writeSlot s i k) j := by
  have e : (writeSlot s i k).slot j = s.slot j := by
    have : i.val ≠ j.val := fun e => n (Fin.ext e)
    simp [writeSlot, State.slot, State.setSlot, this]
  simp only [TagHolds, e] at h ⊢
  exact h

/-- Slot 128, the first of mailbox 0, written with a key. -/
def keyed (ty n usage : Nat) : State := writeSlot served 128 (keyOf ty n usage)

theorem test_witness_key_generate : let s := asked served 0 0x400 [128, 1, 32, 1, 1, 0, 0, 0]
    KeyCommand s 0 (0x400 * 256) 8 ∧ slotArg (s.mb 0) 0 = 128 ∧ ownSlot (.mailbox 0) 128 = true ∧ attrOk 1 32 1 = true ∧
    (s.slot 128).state ≠ .valid ∧ DrbgReady s 0 ∧ ownSlot (.mailbox 1) 128 = false ∧ ((keyed 1 32 1).slot 128).state = .valid ∧
    (s.mb 0).arg 1 1 = 1 ∧ (s.mb 0).arg 2 1 = 32 ∧ (s.mb 0).arg 3 1 = 1 ∧ (s.mb 0).arg 4 2 = 1 ∧ (s.mb 0).arg 6 2 = 0 := by
  repeat' (first | decide | constructor)

theorem test_witness_key_generate_direct : let request := [16, 1, 32, 0, 1, 0, 0, 0]
    DirectRequest served .loft request (0x400 * 256) 8 ∧ slotArg (directArg (0x400 * 256) request) 0 = 16 ∧
    (directArg (0x400 * 256) request).arg 1 1 = 1 ∧ (directArg (0x400 * 256) request).arg 2 1 = 32 ∧
    (directArg (0x400 * 256) request).arg 4 2 = 1 ∧ (served.slot 16).state ≠ .valid := by
  repeat' (first | decide | constructor)

theorem test_witness_key_derive : let s := asked (keyed 5 48 0x80) 0 0x401 [129, 1, 32, 128, 1, 0, 0, 1, 0x41] 0x2A
    KeyCommand s 0 (0x401 * 256) 0x2A ∧ slotArg (s.mb 0) 0 = 129 ∧ slotArg (s.mb 0) 3 = 128 ∧ (s.mb 0).arg 7 1 = 1 ∧
    (s.mb 0).arg 9 31 = 0 ∧ (s.mb 0).arg 0x28 2 = 0 ∧ s.gmode.barren = false ∧ ownSlot (.mailbox 0) 129 = true ∧
    ((s.mb 0).bytes 8 1).take 7 ≠ ascii "SHAKAN-" ∧ (s.slot 129).state ≠ .valid ∧ Usable s 0 128 uDerive ∧
    (s.slot 128).layer.toNat < 15 ∧ DrbgReady s 0 := by
  repeat' (first | decide | exact tagHolds_writeSlot _ _ _ | constructor)

theorem test_witness_key_import : let s := asked served 0 0x402 [135, 0, 0, 0, 1, 32, 1, 0] 0x48
    KeyCommand s 0 (0x402 * 256) 0x48 ∧ slotArg (s.mb 0) 0 = 135 ∧ (s.mb 0).arg 4 1 = 1 ∧ (s.mb 0).arg 5 1 = 32 ∧
    ownSlot (.mailbox 0) 135 = true ∧ materialOk 1 32 1 ((s.mb 0).bytes 8 64) = true ∧ (s.slot 135).state ≠ .valid := by
  repeat' (first | decide | constructor)

theorem test_witness_key_export : let s := asked (writeSlot (keyed 1 32 0xC) 129 (keyOf 1 32 1)) 0 0x403 [129, 128]
    KeyCommand s 0 (0x403 * 256) 2 ∧ slotArg (s.mb 0) 1 = 128 ∧ ownSlot (.mailbox 0) 129 = true ∧ (s.slot 129).state = .valid ∧
    TagHolds s 129 ∧ (s.slot 128).state = .valid ∧ (s.slot 128).may uWrap = true ∧ (s.slot 129).exportable = false := by
  repeat' (first | decide | exact tagHolds_writeSlot _ _ _ | constructor)

theorem test_witness_key_usable : Usable (asked (keyed 1 32 0xC) 0 0x402 [129, 1, 128] 0x58) 0 128 uUnwrap ∧
    KeyCommand (asked (keyed 1 32 0xC) 0 0x402 [129, 1, 128] 0x58) 0 (0x402 * 256 + 1) 0x58 ∧
    KeyCommand (asked (keyed 1 32 0xC) 0 0x406 [128]) 0 (0x406 * 256) 1 := by
  repeat' (first | decide | exact tagHolds_writeSlot _ _ _ | constructor)

theorem test_witness_key_queries : let s := asked (keyed 3 48 0x20) 0 0x404 [128]
    KeyCommand s 0 (0x404 * 256) 1 ∧ ownSlot (.mailbox 0) 128 = true ∧ (s.slot 128).state = .valid ∧ TagHolds s 128 ∧
    (s.slot 128).ty = 3 ∧ (s.slot 128).origin = 0 ∧ (s.slot 128).exportable = false ∧ DrbgReady s 1 ∧
    KeyCommand (asked served 0 0x405 [255]) 0 (0x405 * 256) 1 ∧
    KeyCommand (asked served 0 0x408 [0, 0x10]) 0 (0x408 * 256) 2 ∧
    ((asked served 0 0x408 [0, 0x10]).mb 0).arg 0 2 = 4096 ∧
    KeyCommand (asked (keyed 3 48 0x20) 0 0x407 [128] 0x24) 0 (0x407 * 256) 0x24 ∧
    ((keyed 1 32 1).slot 128).ty ≠ 3 := by
  repeat' (first | decide | exact tagHolds_writeSlot _ _ _ | constructor)

/-- The system keys of slots 3 and 4 written, and a key of mailbox 0. -/
def attested : State := writeSlot (writeSlot (writeSlot served 3 (keyOf 3 48 0x20)) 4 (keyOf 4 32 0x20)) 128 (keyOf 4 32 0x20)

theorem test_witness_key_prove : (attested.slot 3).state = .valid ∧ (attested.slot 4).state = .valid ∧ TagHolds attested 3 ∧
    TagHolds attested 4 ∧ TagHolds attested 128 ∧ served.ridge.powered = true := by
  exact ⟨by decide, by decide,
    tagHolds_other _ _ _ _ (by decide) (tagHolds_other _ _ _ _ (by decide) (tagHolds_writeSlot _ _ _)),
    tagHolds_other _ _ _ _ (by decide) (tagHolds_writeSlot _ _ _), tagHolds_writeSlot _ _ _, by decide⟩

/-- A plain SHA-384 context with no message yet. -/
def plainCtx (bound : Option (Fin 320)) : HashCtx where
  alg := 1; slot := none; pads := none; bound := bound; dual := false; data := []
  forced := none; tested := 0; tainted := false; closed := false; failed := false

/-- A plain SHA-384 context in place `i`: 11 is number 11 of mailbox 0, 504 number 0 of the gate of tile 31. -/
def hashing (i : Fin 512) (bound : Option (Fin 320) := none) : State := served.setThatch i (some (plainCtx bound))

theorem test_witness_hash : KeyCommand (asked served 0 0x409 [0, 0, 2, 0xFF, 1] 0x48) 0 (0x409 * 256) 0x48 ∧
    ((asked served 0 0x409 [0, 0, 2, 0xFF, 1] 0x48).mb 0).arg 5 3 = 0 ∧
    KeyCommand (asked (hashing 11) 0 0x409 [1, 11] 0x48) 0 (0x409 * 256 + 1) 0x48 ∧
    KeyCommand (asked (hashing 11) 0 0x409 [1, 11] 0x2000) 0 (0x409 * 256 + 1) 0x2000 ∧
    KeyCommand (asked (hashing 11) 0 0x409 [2, 11] 0x48) 0 (0x409 * 256 + 2) 0x48 ∧
    KeyCommand (asked (hashing 11) 0 0x409 [3, 11] 0x48) 0 (0x409 * 256 + 3) 0x48 ∧
    KeyCommand (asked served 0 0x409 [4, 0, 1, 0xFF] 0x48) 0 (0x409 * 256 + 4) 0x48 ∧
    KeyCommand (asked (hashing 11) 0 0x409 [5, 11] 0x48) 0 (0x409 * 256 + 5) 0x48 ∧
    ((asked (hashing 11) 0 0x409 [5, 11] 0x48).mb 0).arg 1 1 = 11 ∧ thatchAt (.inl 0) 11 = some 11 ∧ (hashing 11).eng.thatch[(11 : Fin 512)] = some (plainCtx none) ∧
    thatchAt (.inl 0) 0 = some 0 ∧ (hashing 11).eng.thatch[(0 : Fin 512)] = none ∧ 2 ≤ lanesInService (hashing 11) := by
  repeat' (first | decide | constructor)

theorem test_witness_hash_expected : let m := (asked served 0 0x409 [4, 0, 1, 0xFF] 0x48).mb 0
    expectedOk m 1 = true ∧ m.arg 2 1 = 1 ∧ m.arg 3 1 = 0xFF ∧ m.arg 4 1 = 0 ∧ m.arg 5 3 = 0 := by decide

theorem test_witness_hash_full : ∃ s : State, ∀ b, b < 12 → ∀ j, thatchAt (.inl 0) b = some j → s.eng.thatch[j] ≠ none :=
  ⟨{ served with eng := { served.eng with thatch := Vector.replicate 512 (some (plainCtx none)) } }, by simp⟩

set_option maxRecDepth 4000 in
/-- Register 319 is the last of tile 31's. -/
theorem test_witness_hash_bound : domainUp served (.gate 31) = true ∧
    DirectRequest served (.gate 31) ([0, 0, 1, 0xFF] ++ List.replicate 68 0) (0x409 * 256) 0x48 ∧
    thatchAt (.inr (.gate 31)) 0 = some 504 ∧ served.eng.thatch[(504 : Fin 512)] = none ∧
    DirectRequest (hashing 504 (some 319)) (.gate 31) ([2] ++ List.replicate 72 0) (0x409 * 256 + 2) 0x49 ∧
    (hashing 504 (some 319)).eng.thatch[(504 : Fin 512)] = some (plainCtx (some 319)) ∧
    ((hashing 504 (some 319)).reg 319).saturated = false := by
  repeat' (first | decide | constructor)

theorem test_witness_cipher : let s := asked (keyed 1 32 3) 0 0x40A [0, 0, 0, 0, 128] 0x30
    KeyCommand s 0 (0x40A * 256) 0x30 ∧ slotArg (s.mb 0) 4 = 128 ∧ (s.mb 0).arg 2 1 = 0 ∧ (s.mb 0).arg 3 1 = 0 ∧
    (s.mb 0).arg 5 3 = 0 ∧ Usable s 0 128 uEncrypt ∧ Usable s 0 128 uDecrypt ∧ (s.slot 128).ty = 1 ∧ (s.slot 128).fresh = true ∧
    sparAt (.inl 0) 0 = some 0 ∧ s.eng.spar[(0 : Fin 128)] = none ∧ EntriesFree s 0 ∧ (s.slot 128).counter.toNat < 2 ^ 48 ∧
    KeyCommand (asked (keyed 1 32 3) 0 0x40A [4, 0, 0, 0, 128] 0x30) 0 (0x40A * 256 + 4) 0x30 ∧
    KeyCommand (asked (keyed 1 32 3) 0 0x40A [5, 0, 0, 1, 128] 0x30) 0 (0x40A * 256 + 5) 0x30 := by
  repeat' (first | decide | exact tagHolds_writeSlot _ _ _ | constructor)

theorem test_witness_cipher_exhausted : let s := writeSlot served 128 { keyOf 1 32 3 with counter := 0x1000000000000#64 }
    Usable s 0 128 uEncrypt ∧ 2 ^ 48 ≤ (s.slot 128).counter.toNat ∧ 128 ∉ s.eng.sparRefused := by
  repeat' (first | decide | exact tagHolds_writeSlot _ _ _ | constructor)

/-- A cipher context of mailbox 0 under number 5, its place 5. -/
def ciphering (mode : BitVec 2) (decrypt : Bool) : State := served.setSpar 5 (some {
  mode := mode, decrypt := decrypt, session := false, slot := 128, key := []
  iv := [], aad := [], text := [], textSeen := false, closed := false, failed := false })

theorem test_witness_cipher_context :
    KeyCommand (asked (ciphering 0 false) 0 0x40A [1, 5] 0x30) 0 (0x40A * 256 + 1) 0x30 ∧
    KeyCommand (asked (ciphering 1 false) 0 0x40A [2, 5] 0x2000) 0 (0x40A * 256 + 2) 0x2000 ∧
    KeyCommand (asked (ciphering 0 true) 0 0x40A [3, 5] 0x30) 0 (0x40A * 256 + 3) 0x30 ∧
    KeyCommand (asked (ciphering 2 false) 0 0x40A [6, 5] 0x40) 0 (0x40A * 256 + 6) 0x40 ∧
    KeyCommand (asked (ciphering 3 true) 0 0x40A [7, 5] 0x40) 0 (0x40A * 256 + 7) 0x40 ∧
    KeyCommand (asked (ciphering 0 false) 0 0x40A [8, 5] 0x30) 0 (0x40A * 256 + 8) 0x30 ∧
    wrapLenOk 2 0x10 = true ∧ wrapLenOk 3 0x10 = true ∧ sparAt (.inl 0) 5 = some 5 ∧
    (ciphering 0 false).eng.spar[(5 : Fin 128)] ≠ none ∧ EntriesFree (ciphering 0 false) 0 := by
  repeat' (first | decide | constructor)

set_option maxRecDepth 8000 in
theorem test_witness_rafter : let s := asked (keyed 3 48 0x60) 0 0x40B [128] 0x134
    KeyCommand s 0 (0x40B * 256) 0x134 ∧ (s.mb 0).arg 1 1 = 0 ∧ (s.mb 0).arg 3 1 = 0 ∧ ctxStringOk (s.mb 0) 2 4 = true ∧
    (s.slot 128).may uSign = true ∧ (s.slot 128).may uEcdh = true ∧ TagHolds s 128 ∧ (s.slot 128).ty = 3 ∧
    KeyCommand (asked (keyed 4 32 0x20) 0 0x40B [128, 1] 0x2000) 0 (0x40B * 256) 0x2000 ∧ offersMldsa served = true ∧
    KeyCommand (asked served 0 0x40C [] 0x1F9) 0 (0x40C * 256) 0x1F9 ∧
    ctxStringOk ((asked served 0 0x40C [] 0x1F9).mb 0) 1 8 = true ∧
    KeyCommand (asked (keyed 3 48 0x60) 0 0x40D [128] 0x65) 0 (0x40D * 256) 0x65 := by
  repeat' (first | decide | exact tagHolds_writeSlot _ _ _ | constructor)

set_option maxRecDepth 8000 in
theorem test_witness_rafter_direct : let s := writeSlot served 5 (keyOf 3 48 0x60)
    let request := [5] ++ List.replicate 307 0
    DirectRequest s .loft request (0x40B * 256) 0x134 ∧ entryFree s.eng.rafterQ (.inr .loft) 24 = true ∧
    EntriesFree s 0 ∧ slotArg (directArg (0x40B * 256) request) 0 = 5 ∧
    ctxStringOk (directArg (0x40B * 256) request) 2 4 = true ∧ (s.slot 5).state = .valid ∧ TagHolds s 5 ∧ (s.slot 5).ty = 3 ∧
    (s.slot 5).may uSign = true := by
  repeat' (first | decide | exact tagHolds_writeSlot _ _ _ | constructor)

theorem test_witness_idle_contexts : thatchAt (.inl 15) 11 = some 191 ∧ sparAt (.inl 15) 5 = some 95 := by decide

set_option maxRecDepth 4000 in
theorem test_witness_engines : served.eng.retired.getLsbD 31 = false ∧ 3 ≤ lanesInService served ∧
    lanesInService { served with eng := { served.eng with retired := 0x3FFFFFFF#32 } } ≤ 2 ∧ served.eng.ecRetired = 0 ∧
    served.boot.phase ≠ .attic ∧ served.boot.phase ≠ .por ∧ served.eng.source = 1 ∧
    ({ served with eng := { served.eng with source := 2 } } : State).eng.source ≠ 1 := by decide

/-! ### Witnesses: measurement, recorder, logs -/

theorem test_witness_extend : served.ridge.powered = true ∧ served.boot.ridgeHeld = false ∧ (served.reg 319).saturated = false ∧
    fusedOff served (Fin.ofNat 32 ((319 - 64) / 8)) = false ∧
    (let s := { served with ridge := { served.ridge with regs := served.ridge.regs.set 31 { RidgeReg.reset with saturated := true } } }
     (s.reg 31).saturated = true) := by decide

theorem test_witness_measure : (let s := asked served 4 0x500 [192, 0, 128, 0]
     Taken s 4 (0x500 * 256) ∧ (s.mb 4).arg 0 2 = 192 ∧ (s.mb 4).arg 2 2 = 128) ∧
    Taken (asked served 4 0x501 [0x3F, 1, 0, 0, 0, 0, 0, 0]) 4 (0x501 * 256) ∧
    Taken (asked served 4 0x504 [0, 0, 0, 0, 0, 0, 0, 0]) 4 (0x504 * 256) ∧ (served.ld 4).quote = none ∧
    (let s := served.modLd 4 fun d => { d with quote := some [(0, [])] }
     (s.ld 4).quote = some [(0, [])] ∧ assocGet [(0, ([] : List Byte))] 0 = some []) ∧
    (let s := asked served 0 0x502 [63] 0x34
     Taken s 0 (0x502 * 256) ∧ isOwner s 0 = true ∧ (s.mb 0).arg 0 2 = 63 ∧ (s.mb 0).arg 2 2 = 0) := by
  repeat' (first | decide | constructor)

theorem test_witness_quote : let s := asked attested 2 0x503 (List.replicate 0x24 0 ++ [0, 1]) 0x28
    Taken s 2 (0x503 * 256) ∧ quoteIndices (s.mb 2) ≠ [] ∧ (s.mb 2).arg 0x20 8 % 2 = 0 ∧ (s.mb 2).arg 0x20 8 < 2 ^ 41 ∧
    DrbgReady s 1 ∧ s.gmode.barren = false := by
  repeat' (first | decide | constructor)

/-- A raise that waits. -/
def waiting : Waiting where
  hours := 0; cycles := 0; tick := 0; source := 448; severity := 1; tile := 0xFF; code := 0; payload := 0

/-- A recorder that has started, with a record waiting. -/
def recording (f : Gutter → Gutter := id) : State :=
  { served with gutter := f { Gutter.reset with started := true, queue := [waiting], jState := 1 } }

theorem test_witness_record : recording.gutter.queue = [waiting] ∧ recording.gutter.started = true ∧
    ringRoom recording.gutter = true ∧ recording.gutter.episode = none := by decide

theorem test_witness_journal :
    (let s := recording fun g => { g with ring := [{ seq := 1, body := waiting, mac := 0 }], jPos := 1 }
     s.gutter.jState = 1 ∧ s.gutter.jUnit = false ∧ s.gutter.jPos % unitRecords s ≠ 0 ∧
       s.gutter.ring.find? (fun r => decide (s.gutter.jSeq < r.seq)) ≠ none) ∧
    Gutter.reset.started = false ∧ Gutter.reset.overwrite = false ∧ Gutter.reset.journal = [] ∧
    served.boot.underlayDone = true ∧ (recording fun g => { g with scanning := true }).gutter.scanning = true := by decide

theorem test_witness_log_read :
    (let s := asked served 6 0x700 [0, 127, 0, 0] 12
     Taken s 6 (0x700 * 256) ∧ (s.mb 6).arg 1 1 = 127 ∧ (s.mb 6).arg 2 2 = 0 ∧ (s.mb 6).arg 4 8 = 0) ∧
    (let s := asked recording 6 0x700 [1, 1, 0, 0] 12
     Taken s 6 (0x700 * 256 + 1) ∧ s.gutter.overwrite = false ∧ s.gutter.jState ≠ 0 ∧ s.purlin.state = 1) := by
  repeat' (first | decide | constructor)

theorem test_witness_routing :
    (let s := asked served 6 0x701 [0xFF, 1, 1, 0, 63]
     Taken s 6 (0x701 * 256) ∧ (s.mb 6).arg 0 2 + (s.mb 6).arg 2 2 = 512 ∧
       (∀ v ∈ (s.mb 6).bytes 4 1, v.toNat < 64 ∨ v = 0xFF)) ∧
    (let s := asked served 6 0x701 [0xFF, 1, 1, 0, 64]
     ∃ v ∈ (s.mb 6).bytes 4 1, 64 ≤ v.toNat ∧ v ≠ 0xFF) ∧
    Taken (asked served 6 0x900 []) 6 (0x900 * 256) ∧ OwnerCommand (asked served 0 0x901 [] 1024) 0 (0x901 * 256) 1024 := by
  repeat' (first | decide | constructor)

/-! ### Witnesses: fetches and releases -/

/-- Bytes given at offsets, zero elsewhere. -/
def laid (n : Nat) (fields : List (Nat × List Byte)) : List Byte :=
  Memory.read 0 (fields.foldl (fun m f => Memory.write 0 m f.1 f.2) []) 0 n

/-- A flash as discovery found it. -/
def found (result : Fin 5) : Discovery where
  result := result; profile := 0; sck := 0; dummy := 0; addr4 := false; flagPoll := false; suspend := false
  omitRead := false; density := 26; erases := [{ log2 := 12, typUs := 50000, maxUs := 400000 }]; progTypUs := 400
  progMaxUs := 3000; quadProg := false; clkMode := 0; page := 0; id := 0; inverted := false; regAddr := 0; regDummy := 0

/-- What a 64 MiB flash with the octal DDR profile answers, its signature given. -/
def answering (signature : Word) : FlashAnswer where
  signature := signature; revision := 0x106; dwords := 20; density := 26; fourByte := true; xspi := true; ddrSteps := true
  inverted := some true; maxMHz := 200; flagPoll := false; suspend := true
  modes := [{ code := 1, dummies := [(133, 8#5)], continuous := false, checks := true },
    { code := 7, dummies := [(166, 16#5), (200, 20#5)], continuous := false, checks := true }]
  erases := [{ log2 := 12, typUs := 50000, maxUs := 400000 }]; progTypUs := 400; progMaxUs := 3000; quadProg := false; page := 0; id := 0x2C5B
  regAddr := 1; regDummy := 8

/-- Tile 5 in FETCH, its walker in a phase. -/
def fetching (phase : BitVec 4) (f : TileVerify → TileVerify := id) : State :=
  tileIn served 5 .fetch fun y => { y with
    verify := f { TileVerify.reset with phase := phase }
    eave := { y.eave with main := some (found 0), twin := some (found 0), twinFitted := true } }

theorem fetching_is (phase : BitVec 4) (f : TileVerify → TileVerify)
    (h : (f { TileVerify.reset with phase := phase }).phase = phase) : Fetching (fetching phase f) 5 phase where
  state := rfl
  phase := h
  allowed := rfl
  inUse := (by decide : fusedOff served 5 = false)
  mode := fun e => by cases e

theorem test_witness_discovery : fusedOff (fetching 1) 5 = false ∧ Fetching (fetching 1) 5 1 ∧
    (discoverOn (fetching 1) 5 (some (found 0)) (answering 0x50444653)).result = 0 ∧
    (discoverOn (fetching 1) 5 (some (found 0)) (answering 0xFFFFFFFF)).result ≠ 0 ∧ (fetching 1).gmode.mode ∈ servedModes := by
  exact ⟨by decide, fetching_is _ _ rfl, by decide⟩

theorem test_witness_discovery_retry : let s := { fetching 1 with
      gmode := { served.gmode with mode := .await }
      otp := { served.otp with shadow := [(240, 0x51#32)], policyOverridden := true } }
    5 ∈ anchors s ∧ ((s.tile 5).ctl.state = .fetch ∧ (s.tile 5).verify.phase = 1 ∧ fetchAllowed s 5 = true ∧
      s.gmode.mode ∈ [DevMode.gate, .await, .load] ∧ (s.tile 5).power.flashReady = false) := by decide

theorem test_witness_flash_ready : let s := tileIn served 5 .fetch fun y => { y with ctl := { y.ctl with pgood := true } }
    (s.tile 5).ctl.pgood = true ∧ (s.tile 5).ctl.state = .fetch ∧ (s.tile 5).verify.phase = 0 ∧ fusedOff s 5 = false := by decide

theorem test_witness_select : Fetching (fetching 2) 5 2 ∧ ((fetching 2).tile 5).verify.mainFault = false ∧
    ((fetching 2).tile 5).verify.twinFault = false ∧
    (let s := fetching 2 fun v => { v with twinFault := true }
     Fetching s 5 2 ∧ (s.tile 5).verify.gone true = true ∧ (s.tile 5).verify.gone false = false ∧
       (s.tile 5).verify.readTwin = false) := by
  exact ⟨fetching_is _ _ rfl, by decide, by decide, ⟨fetching_is _ _ rfl, by decide⟩⟩

/-- A header with MAGIC, its size and fields that check 1 accepts, and one SEALED region of one block. -/
def header (more : List (Nat × List Byte) := []) : List Byte := laid 0x1F0 ([
  (0, leBytes 4 0x4E544142 ++ leBytes 2 1 ++ leBytes 2 0x100 ++ leBytes 4 0x1F0 ++ leBytes 4 0x120 ++ [1, 1, 0, 0, 12, 5, 2, 1]),
  (0x18, leBytes 4 4096), (0x28, leBytes 4 0x100000), (0x2C, leBytes 2 1 ++ leBytes 2 0x100),
  (0x80, leBytes 4 0x10000 ++ leBytes 4 0x10000), (0x100, leBytes 4 0 ++ leBytes 4 4096),
  (0x120, leBytes 4 0x47495342 ++ [1, 0, 0, 0] ++ leBytes 4 0xD0)] ++ more)

/-- An OPEN region of one page stands at its source_offset, and is missing without its range. -/
theorem test_witness_open_copy : let s := fetching 10 fun v => { v with manifest := header [(0x104, leBytes 4 2), (0x110, [2])] }
    Fetching s 5 10 ∧ openCopy (s.tile 5).verify.manifest [(0, [1, 2, 3])] = some [(0, 1), (1, 2)] ∧
    openCopy (s.tile 5).verify.manifest [(0, [1])] = none :=
  ⟨fetching_is _ _ rfl, by decide +kernel, by decide +kernel⟩

theorem test_witness_manifest_read : Fetching (fetching 3) 5 3 ∧
    checkManifest (fetching 3) (.tile 5 none) (List.replicate 256 0) none = 1 :=
  ⟨fetching_is _ _ rfl, by decide +kernel⟩

/-- A fetch that waits for its signature under the manifest of an image of `n` blocks. -/
def signing (n : Nat) (accepted : Bool) (nodes : List (Nat × List Byte)) (phase : BitVec 4 := 5) : State :=
  fetching phase fun v => { v with
    manifest := (imageOf n []).manifest, sigPending := !accepted, accepted := accepted, nodes := nodes }

theorem test_witness_signature : let s := signing 2 false []
    Fetching s 5 5 ∧ (s.tile 5).verify.sigPending = true ∧ (s.tile 5).verify.ahead = [] ∧ (s.tile 5).verify.aheadNodes = [] ∧
    (s.tile 5).verify.prefixLen < blockCount (s.tile 5).verify.manifest ∧ (s.tile 5).verify.checkCause = 0 :=
  ⟨fetching_is _ _ rfl, by decide⟩

theorem test_witness_nodes : (let s := signing 33 false []
      Fetching s 5 5 ∧ treeDepth (blockCount (s.tile 5).verify.manifest) = 2 ∧
      0 < nodesAt (blockCount (s.tile 5).verify.manifest) 2 ∧ (s.tile 5).verify.accepted = false) ∧
    (let s := signing 33 true []
     Fetching s 5 5 ∧ (s.tile 5).verify.accepted = true ∧
       parentEntry (s.tile 5).verify.manifest (s.tile 5).verify.nodes 2 0 = some 0) :=
  ⟨⟨fetching_is _ _ rfl, by decide⟩, ⟨fetching_is _ _ rfl, by decide⟩⟩

theorem test_witness_groups : Canonical (signing 33 true [(nodeKey 2 0, [])] 6) ∧
    (let s := signing 33 true [(nodeKey 2 0, [])] 6
     Fetching s 5 6 ∧ (s.tile 5).verify.accepted = true ∧
       parentEntry (s.tile 5).verify.manifest (s.tile 5).verify.nodes 1 1 = some 0 ∧
       groupBlocks (blockCount (s.tile 5).verify.manifest) 1 = [32] ∧
       32 ∉ (s.tile 5).verify.verified ∧ 32 ∉ (s.tile 5).verify.held) ∧
    (let s := signing 33 false [] 7
     Fetching s 5 7 ∧ groupBlocks (blockCount (s.tile 5).verify.manifest) 0 ≠ [] ∧ (s.tile 5).verify.accepted = false) :=
  ⟨by unfold signing fetching; exact canonical_tileIn _ _ _ (fun _ => rfl) (fun _ => rfl), ⟨fetching_is _ _ rfl, by decide⟩, ⟨fetching_is _ _ rfl, by decide⟩⟩

/-- Tile 2 settled, in a state. -/
def settledIn (st : TileState) (f : Tile → Tile) : State := tileIn served 2 st fun y => f { y with
  power := { y.power with settled := true }, ctl := { y.ctl with pgood := true } }

theorem test_witness_releases : (∀ p ∈ [settledIn .fetch id, settledIn .held id], fusedOff p 2 = false ∧
      p.gmode.mode ≠ .gate ∧ settled p 2 = true ∧ p.boot.ridgeHeld = false) ∧
    (let s := settledIn .fetch fun y => { y with
       verify := { y.verify with accepted := true, openDone := true, manifest := laid 0x1C [(0x13, [1]), (0x18, leBytes 4 4096)] }
       active := { y.active with policy := y.active.policy ||| 8#32 } }
     (s.tile 2).ctl.state = .fetch ∧ (s.tile 2).verify.accepted = true ∧ (s.tile 2).power.resumed = false ∧
       mfProfile (s.tile 2).verify.manifest = 1 ∧ (s.tile 2).active.earlyAllowed = true ∧ (s.tile 2).ctl.noEarly = false ∧
       (s.tile 2).verify.openDone = true ∧ (s.tile 2).verify.watermark ≤ (s.tile 2).verify.prefixLen ∧
       sealedDone (s.tile 2).verify = false) ∧
    (let s := settledIn .held fun y => { y with
       force := { y.force with copyValid := true }, verify := { y.verify with phase := 8 }
       power := { y.power with afterReset := true } }
     (s.tile 2).force.copyValid = true ∧ (s.tile 2).verify.phase = 8 ∧ (s.tile 2).power.afterReset = true ∧
       (s.tile 2).ctl.switchPending = false ∧ settled s 2 = true) ∧
    (let s := settledIn .restore fun y => { y with restore := { y.restore with ready := true } }
     (s.tile 2).ctl.state = .restore ∧ (s.tile 2).restore.ready = true ∧ settled s 2 = true) := by decide +kernel

/-! ### Witnesses: flash ports, sweep, memory -/

/-- A queue entry by its control word and length. -/
def entryWith (ctl len : Nat) : BitVec 128 :=
  BitVec.ofNat 128 ((ctl + len) * 2 ^ 64)

/-- Tile 5's port with one entry waiting. -/
def queued (e : BitVec 128) (work : EaveWork) (s : State := served) : State :=
  s.modTile 5 fun y => { y with eave := { y.eave with queue := [(e, work)] } }

theorem test_witness_entries : fusedOff served 5 = false ∧
    (EaveWork.ruled ∉ [EaveWork.walker, .sweep, .repair]) ∧ served.attic.clocksHeld.getLsbD 2 = false ∧
    (let v := ((queued (entryWith 0 1) .ruled).tile 5).eave
     entryServed v.chain v.queue (entryWith 0 1, .ruled) = true ∧ v.queue.length ≤ 30) ∧
    (let e := entryWith 0x100000 1 ||| 0x40000#128
     entryValid 5 e = true ∧ entryModifies e = true) ∧
    (let e := entryWith 0x1000000 1
     entryValid 5 e = true ∧ entryDqs e = true ∧ entryWrite e = false ∧ entryPoll e = false ∧ entryModifies e = false) ∧
    entryFlags (entryWith 0x2800000 1) = true ∧ entryValid 5 (entryWith 0x2800000 1) = true ∧
    entryValid 5 (entryWith 0 1) = true ∧ entryWrite (entryWith 0 1) = false ∧
    entryValid 5 (entryWith 0x800000 1) = true ∧ entryPoll (entryWith 0x800000 1) = true ∧
    entryValid 5 (entryWith 0x400000 1) = true ∧ entryCont (entryWith 0x400000 1) = true ∧
    entryPoll (entryWith 0x400000 1) = false ∧ entryWrite (entryWith 0x400000 1) = false ∧
    entryValid 5 (3#128 <<< 16) = false := by decide +kernel

theorem test_witness_read_failures : (5 : Fin 33).val = (5 : TileId).val ∧ entryValid 5 (entryWith 0x1000000 1) = true ∧
    entryWrite (entryWith 0x1000000 1) = false ∧ entryDqs (entryWith 0x1000000 1) = true ∧
    entryTwin (entryWith 0x1000000 1) = false ∧ entryTwin (entryWith 0x1200000 1) = true ∧
    (let s := queued (entryWith 0x1000000 1) .walker (fetching 6)
     entryServed (s.tile 5).eave.chain (s.tile 5).eave.queue (entryWith 0x1000000 1, .walker) = true ∧
       walking s 5 = true ∧ fetchAllowed s 5 = true ∧ s.attic.clocksHeld.getLsbD 2 = false ∧
       (s.tile 5).verify.gone false = false ∧ (s.tile 5).verify.readFails = []) ∧
    (let s := fetching 2 fun v => { v with readFails := [(true, 0)] }
     (entryTwin (entryWith 0x1200000 1), entryAddress (entryWith 0x1200000 1)) ∈ (s.tile 5).verify.readFails ∧ (s.tile 5).verify.phase = 2 ∧
       (s.tile 5).verify.readTwin ≠ entryTwin (entryWith 0x1200000 1)) ∧
    (let s := fetching 6
     (s.tile 5).verify.phase ≠ 0 ∧ (s.tile 5).verify.phase ≠ 8 ∧ (s.tile 5).verify.phase ≠ 9 ∧
       (s.tile 5).verify.gone false = false ∧ (s.tile 5).verify.readFails = []) ∧
    (let s := fetching 6 fun v => { v with readFails := [(false, 0)] }
     (entryTwin (entryWith 0x1000000 1), entryAddress (entryWith 0x1000000 1)) ∈ (s.tile 5).verify.readFails ∧ otherUsable (s.tile 5) = true ∧ (s.tile 5).verify.readTwin = entryTwin (entryWith 0x1000000 1) ∧
       (s.tile 5).ctl.state ≠ .restore) ∧
    (((tileIn served 5 .run).tile 5).ctl.state = .run ∧ ((tileIn served 5 .run).tile 5).sweep.mainDown = false) := by
  decide +kernel

theorem test_witness_purlin : served.purlin.state = 1 ∧ entryValid 32 (entryWith 0x1000000 1) = true ∧
    served.purlin.runErrors < 2 ∧ purlinTurn served.purlin 4 = true ∧
    (let s := { served with purlin := served.purlin.setQueue 3 [entryWith 0x1000000 1] }
     purlinTurn s.purlin 3 = true ∧ (s.purlin.queueOf 3).head? = some (entryWith 0x1000000 1)) ∧
    (discoverOn served 32 none (answering 0x50444653)).result = 0 ∧ (discoverOn served 32 none (answering 0)).result ≠ 0 ∧
    ({ served with purlin := { served.purlin with runErrors := 2 } } : State).purlin.runErrors = 2 ∧
    served.boot.underlayDone = true ∧ ({ served with purlin := { served.purlin with state := 2 } } : State).purlin.state ≠ 1 ∧
    bitOf served.purlin.cfg 0 = true ∧ served.purlin.busy = false ∧
    (let s := { served with purlin := { served.purlin with disc := some (found 0) } }
     0x3FFFFFF + 1 ≤ mapSize s ∧ mapSize s < 0x4000000 + 1) ∧
    (let s := { served with purlin := { served.purlin with busy := true } }
     s.purlin.busy = true ∧ 0xFFFFFFF / 64 ∉ s.purlin.lines) := by decide +kernel

/-- Tile 5 in RUN with an image of `n` blocks served. -/
def serving (n : Nat) (f : Tile → Tile := id) : State := tileIn served 5 .run fun y => f { y with
  verify := { y.verify with
    phase := 8, accepted := true, manifest := (imageOf n []).manifest
    nodes := [(nodeKey 1 0, [])], verified := List.range n }
  mem := { y.mem with tree := [(0, [])] }
  eave := { y.eave with main := some (found 0), twin := some (found 0), twinFitted := true } }

theorem test_witness_sweep : let s := serving 1
    sweepAllowed s 5 = true ∧
    fusedOff s 5 = false ∧ (s.tile 5).sweep.phase = 0 ∧ (s.tile 5).sweep.mainDown = false ∧ (s.tile 5).sweep.twinDown = false ∧
    (s.tile 5).active.sweepMain = true := by decide +kernel

theorem test_witness_sweep_compares : let s := serving 1 fun y => { y with
      active := { y.active with sweep := y.active.sweep &&& ~~~8#32 }, sweep := { y.sweep with phase := 1 } }
    sweepItem s 5 false 0 0 = true ∧
    (∀ p ∈ [(2, 1, 0), (3, 2, 0), (4, 3, 0)], let t := s.modTile 5 fun y => { y with sweep := { y.sweep with phase := BitVec.ofNat 4 p.1 } }
      sweepItem t 5 false p.2.1 p.2.2 = true) ∧
    (treePlaces (blockCount (s.tile 5).verify.manifest))[0]? = some (1, 0) ∧ heldNode (s.tile 5) 1 0 = some [] ∧
    unitPending (s.tile 5) 0 = false ∧ groupBlocks (blockCount (s.tile 5).verify.manifest) 0 = [0] ∧
    parentEntry (s.tile 5).verify.manifest (s.tile 5).verify.nodes 1 0 = some 0 := by decide +kernel

theorem test_witness_repairs :
    (∀ n ∈ [1, 2], let r : Repair := { twin := true, addr := 0x30000, tries := n, begun := true }
      let s := serving 1 fun y => { y with sweep := { y.sweep with repairs := [r] } }
      fetchAllowed s 5 = true ∧ fusedOff s 5 = false ∧ s.gmode.mode ≠ .gate ∧ (s.tile 5).ctl.state = .run ∧
        (s.tile 5).sweep.repairs.find? (fun q => decide (q.twin = r.twin)) = some r ∧ (s.tile 5).sweep.twinDown = false ∧
        repairAllowed s 5 = true ∧ portFree s 5 true .repair = true) ∧
    (let s := serving 1 fun y => { y with sweep := { y.sweep with phase := 5, target := true, twinDown := true } }
     (s.tile 5).sweep.phase = 5 ∧ (s.tile 5).sweep.target = true ∧ sweepAllowed s 5 = true ∧ portFree s 5 true .repair = true) := by decide +kernel

/-- A flash of three areas of 64 KiB: its manifest slot from the verified manifest, the others as the other flash returned them. -/
theorem test_witness_resync (d : List Byte) (h : d.length = 0x10000) :
    resyncBytes (served.tile 5) [(0x10000, d), (0x20000, d)] = some [unitBytes (served.tile 5) 0 0x10000, d, d] := by
  have a : flashAreas (mfLayout (served.tile 5).verify.manifest) = [(0, 0x10000), (0x10000, 0x10000), (0x20000, 0x10000)] := by
    decide +kernel
  have b0 : (verifiedByte (served.tile 5) 0).isSome = true := by decide +kernel
  have b1 : (verifiedByte (served.tile 5) 0x10000).isSome = false := by decide +kernel
  have b2 : (verifiedByte (served.tile 5) 0x20000).isSome = false := by decide +kernel
  simp only [resyncBytes, a, List.mapM_cons, List.mapM_nil, resyncArea, b0, b1, b2, if_true, assocGet]
  simp [h]

theorem test_witness_refill : let s := serving 1 fun y => { y with
      sweep := { y.sweep with suspect := [0] }, mem := { y.mem with tree := [(0, [])] } }
    Canonical s ∧ 0 ∈ (s.tile 5).sweep.suspect ∧ heldNode (s.tile 5) 1 (0 / 32) = some [] ∧
    parentEntry (s.tile 5).verify.manifest (s.tile 5).verify.nodes 1 (0 / 32) = some 0 ∧ fetchAllowed s 5 = true ∧
    (s.tile 5).ctl.state = .run ∧ mainUp (s.tile 5) = true :=
  ⟨by unfold serving tileIn; exact canonical_served.modTile _ _ (by decide) (by decide) (by decide) (by decide) (by decide), by decide +kernel⟩

theorem test_witness_scrub : served.boot.underlayDone = true ∧ served.memctl.selfRefresh = false ∧
    (∀ f ∈ [({ sram := false, loc := 0, contents := 3, line := 0, tile := 5, block := 0, symbols := 0, hard := false, mis := false, unit := 7
               data := [], other := [], runs := [] } : LineFault)], f.symbols = 0 ∧ f.sram = false ∧ f.contents = 3 ∧ f.tile = (5 : TileId).val) ∧
    (∀ f ∈ [({ sram := true, loc := 0, contents := 15, line := 0, tile := 32, block := 0, symbols := 0, hard := true, mis := false, unit := 319
               data := [], other := [], runs := [] } : LineFault)], f.sram = true ∧ f.contents = 15 ∧ f.tile = 32 ∧ f.hard = true ∧
                 f.unit = (319 : Fin 320).val) := by decide +kernel

theorem test_witness_channels : (let s := { served with memctl := { MemCtl.reset with
      channelUp := 0xFF, badLines := MemCtl.reset.badLines.set 7 (List.range 16), retrains := MemCtl.reset.retrains.set 7 2 } }
    16 ≤ s.memctl.badLines[(7 : Fin 8)].length ∧ s.memctl.channelUp.getLsbD (7 : Fin 8).val = true ∧
      2 ≤ s.memctl.retrains[(7 : Fin 8)]) ∧
    served.memctl.retrains[(7 : Fin 8)] < 2 ∧ served.boot.underlayDone = true ∧ MemCtl.reset.channelUp.getLsbD 7 = false ∧
    served.memctl.initDone = false ∧ (inMode .doze).gmode.mode = .doze ∧
    (∀ x ∈ (inMode .doze).tiles.toList, x.ctl.state.released = false) ∧ served.gmode.mode ≠ .doze := by decide +kernel

/-! ### Witnesses: platform selects -/

/-- A select of one operation, its second byte the inverse of the first. -/
def selOf (op : Byte) (addr : Nat := 0) : Sel := { op := op, op2 := ~~~op, addr := addr, edges := 16, sckNs := 20 }

/-- Tile 5 released under a manifest, WEL set, its flashes answering. -/
def released (m : List Byte) (f : Tile → Tile := id) : State := tileIn served 5 .run fun y => f { y with
  verify := { y.verify with phase := 8, accepted := true, manifest := m }
  force := { y.force with manifest := m }
  filter := { y.filter with wel := true }
  eave := { y.eave with main := some (found 0), twin := some (found 0), twinFitted := true } }

theorem select_of {s : State} {x : TileId} {sel : Sel} {a f : Nat}
    (h : fusedOff s x = false ∧ (s.tile x).ctl.state.released = true ∧ (octal (s.tile x) = true → sel.op2 = ~~~sel.op) ∧
      optProto (selEntry (s.tile x) sel) (s.tile x).filter.protocol.toNat = true ∧
      optAction (selEntry (s.tile x) sel) = a ∧ optFunc (selEntry (s.tile x) sel) = f ∧
      ((optWel (selEntry (s.tile x) sel) = true ∨ optWrites (selEntry (s.tile x) sel) = true) → (s.tile x).filter.wel = true) ∧
      selBusy (s.tile x) (selEntry (s.tile x) sel) = false) : Select s x sel a f :=
  ⟨h.1, h.2.1, h.2.2.1, h.2.2.2.1, h.2.2.2.2.1, h.2.2.2.2.2.1, h.2.2.2.2.2.2.1, h.2.2.2.2.2.2.2⟩

/-- The operations of the default table with their action and function (R191). -/
def operations : List (Byte × Nat × Nat) := [
  (0x06, 2, 4), (0x04, 2, 5), (0x50, 2, 3), (0x01, 2, 6), (0xB7, 2, 9), (0xE9, 2, 10), (0x66, 2, 11), (0x99, 2, 12),
  (0x75, 2, 13), (0x7A, 2, 14), (0xB9, 2, 15), (0x9F, 2, 0), (0x05, 2, 1), (0x70, 2, 2), (0x85, 2, 7), (0x81, 2, 8),
  (0x03, 1, 0), (0x5A, 1, 1), (0x02, 3, 0), (0x20, 4, 0), (0x52, 4, 1), (0xD8, 4, 2)]

theorem test_witness_operations : ∀ p ∈ operations, Select (released []) 5 (selOf p.1) p.2.1 p.2.2 := by
  have h : ∀ p ∈ operations, fusedOff (released []) 5 = false ∧ ((released []).tile 5).ctl.state.released = true ∧
      (octal ((released []).tile 5) = true → (selOf p.1).op2 = ~~~(selOf p.1).op) ∧
      optProto (selEntry ((released []).tile 5) (selOf p.1)) ((released []).tile 5).filter.protocol.toNat = true ∧
      optAction (selEntry ((released []).tile 5) (selOf p.1)) = p.2.1 ∧
      optFunc (selEntry ((released []).tile 5) (selOf p.1)) = p.2.2 ∧
      ((optWel (selEntry ((released []).tile 5) (selOf p.1)) = true ∨ optWrites (selEntry ((released []).tile 5) (selOf p.1)) = true) →
        ((released []).tile 5).filter.wel = true) ∧
      selBusy ((released []).tile 5) (selEntry ((released []).tile 5) (selOf p.1)) = false := by
    decide +kernel
  exact fun p m => select_of (h p m)

theorem test_witness_emulated : (∃ a b, configOk a b = true) ∧ (∃ a b, configOk a b = false) ∧
    ((released [] fun y => { y with filter := { y.filter with resetArmed := true } }).tile 5).filter.resetArmed = true ∧
    ((released []).tile 5).filter.resetArmed = false := by
  refine ⟨⟨0, 3, ?_⟩, ⟨0, 4, ?_⟩, ?_⟩ <;> decide +kernel

theorem test_witness_not_carried_out : (let s := { served with otp := { served.otp with feature := 2 } }
      ∃ x, fusedOff s x = true) ∧ fusedOff served 5 = false ∧ (served.tile 5).ctl.state.released = false ∧
    (let s := tileIn served 5 .held fun y => { y with power := { y.power with stateDenied := true } }
     (s.tile 5).power.stateDenied = true) ∧
    (served.tile 5).power.stateDenied = false ∧
    ((released []).tile 5).ctl.state.released = true ∧ ((released []).tile 5).filter.holdoffs = [] ∧
    optAction (selEntry ((released []).tile 5) (selOf 0)) = 0 ∧
    (let tx := (released [] fun y => { y with filter := { y.filter with wel := false, wip := true } }).tile 5
     optProto (selEntry tx (selOf 2)) tx.filter.protocol.toNat = true ∧ 0 < optAction (selEntry tx (selOf 2)) ∧
       optAction (selEntry tx (selOf 2)) ≤ 4 ∧ optWel (selEntry tx (selOf 2)) = true ∧ tx.filter.wel = false) ∧
    (let tx := (released [] fun y => { y with
       filter := { y.filter with wip := true }
       active := { y.active with optab := y.active.optab.set 2 (optEntry 3 0 1 0 0 0 3 0 0) } }).tile 5
     optProto (selEntry tx (selOf 2)) tx.filter.protocol.toNat = true ∧ optWel (selEntry tx (selOf 2)) = false ∧
       selBusy tx (selEntry tx (selOf 2)) = true ∧ tx.filter.wel = true) := by
  exact ⟨⟨31, by decide +kernel⟩, by decide +kernel⟩

/-- A manifest of one region of 64 KiB at 0 and its class and rule. -/
def oneRegion (cls rule : Nat) : List Byte := laid 0x120 [(0x18, leBytes 4 0x10000), (0x28, leBytes 4 0x100000),
  (0x2C, leBytes 2 1), (0x100, leBytes 4 0 ++ leBytes 4 0x10000), (0x110, leBytes 1 cls ++ leBytes 1 rule)]

theorem test_witness_memory_serves : MemoryServes { served with memctl := { served.memctl with channelUp := 0xFF } } where
  clock := by decide
  up := fun off => by
    have h : ∀ c : Fin 8, (0xFF#8).getLsbD c.val = true := by decide
    simp [channelDown, h (channelOf off)]
  still := fun off => by
    have h : ∀ c : Fin 8, (served.memctl.badLines[c]).length < 16 := by decide
    have k : ¬16 ≤ (served.memctl.badLines[channelOf off]).length := Nat.not_le.2 (h (channelOf off))
    show (_ && decide (16 ≤ (served.memctl.badLines[channelOf off]).length)) = false
    rw [decide_eq_false k, Bool.and_false]

/-- Verified bytes that no prefetch slot holds, and one that reads the hold pattern. -/
theorem test_witness_late : let s := released (oneRegion 0 0) fun y => { y with verify := { y.verify with verified := List.range 15 } }
    let tx := s.tile 5
    (let addrs := readAddrs tx (selEntry tx (selOf 3)) (selAddr tx (selEntry tx (selOf 3)) (selOf 3)) 4
     addrs.head? = some 0 ∧ underlayByte tx 0 = true ∧ buffered tx 0 = false ∧ tx.ctl.state = .run ∧
       tx.ctl.switchPending = false) ∧ missAt tx 0xF000 ≠ none ∧ optWel (selEntry tx (selOf 3)) = false := by decide +kernel

theorem test_witness_reads : ((released (oneRegion 0 0)).tile 5).sweep.suspect = [] ∧
    (let s := released (oneRegion 0 0) fun y => { y with
       verify := { y.verify with verified := List.range 16 }, active := { y.active with policy := 16 } }
     let tx := s.tile 5
     (∀ p ∈ readAddrs tx (selEntry tx (selOf 3)) (selAddr tx (selEntry tx (selOf 3)) (selOf 3)) 4, missAt tx p = none) ∧
       tx.active.underrunLog = true) ∧
    (let s := tileIn served 5 .early fun y => { y with
       verify := { y.verify with phase := 8, accepted := true, manifest := oneRegion 0 0 }
       force := { y.force with manifest := oneRegion 0 0 } }
     let tx := s.tile 5
     tx.active.missLog = false ∧ s.gmode.mode ≠ .lockdown ∧ tx.ctl.resetsCapped = false ∧ tx.serve.missed = [] ∧
       (readAddrs tx (selEntry tx (selOf 3)) (selAddr tx (selEntry tx (selOf 3)) (selOf 3)) 4).findSome? (missAt tx) =
         some (0, 0, 0)) := by decide +kernel

theorem test_witness_writes : Canonical (released (oneRegion 2 1)) ∧
    ((released (oneRegion 2 1)).tile 5).filter.protocol ≠ 3 ∧
    regionAt (oneRegion 2 1) 0 = some 0 ∧ regionAt (oneRegion 2 1) 0xFFFF = some 0 ∧ regionAt (oneRegion 2 1) 0x10000 = none ∧
    (mfRegion (oneRegion 0 0) 0).sealed = true ∧ (mfRegion (oneRegion 1 0) 0).watched = true ∧
    (mfRegion (oneRegion 2 1) 0).isOpen = true ∧ (mfRegion (oneRegion 3 0) 0).staging = true ∧
    ruleReason (released (oneRegion 2 1)) 5 0 (mfRegion (oneRegion 2 1) 0) false 0 1 = none ∧
    ruleReason (released (oneRegion 2 4)) 5 0 (mfRegion (oneRegion 2 4) 0) false 0 1 = none ∧
    ruleReason (released (oneRegion 2 0)) 5 0 (mfRegion (oneRegion 2 0) 0) false 0 1 = some 2 ∧
    mainUp ((released []).tile 5) = true ∧ mainUp (served.tile 5) = false ∧ twinUp (served.tile 5) = false ∧
    coverRegions (oneRegion 2 1) 0 0x10000 = some [(0, mfRegion (oneRegion 2 1) 0, 0, 0x10000)] ∧
    coverRegions (oneRegion 2 1) 0x10000 0x1000 = none ∧
    alignDenied ((released (oneRegion 2 1)).tile 5) (mfRegion (oneRegion 2 1) 0) 0 0x10000 = false := by
  exact ⟨by unfold released; exact canonical_tileIn _ _ _ (fun _ => rfl) (fun _ => rfl), by decide +kernel⟩

theorem test_witness_staging_write : let s := released (oneRegion 3 0) fun y => { y with
      ctl := { y.ctl with stage := true }, update := { y.update with owner := 1, phase := 1 }
      mem := { y.mem with granules := [0] } }
    let tx := s.tile 5
    tx.owned = true ∧ (served.tile 5).owned = false ∧ tx.update.owner = 1 ∧ tx.update.phase = 1 ∧ tx.active.stageMirror = false ∧
    ∀ g ∈ granulesOf 0 256, g ∈ tx.mem.granules := by decide +kernel

/-- A program that waits for the flashes. -/
def writing (main : Bool) (tries : Nat) : RuledWrite :=
  { size := 0, parts := [(0, 1)], data := [7], mainDone := main, tries := tries }

theorem test_witness_queued : (∀ w ∈ [writing false 0, writing false 2, writing true 0],
      let s := released (oneRegion 2 1) fun y => { y with filter := { y.filter with queue := [w] } }
      (s.tile 5).filter.queue = w :: [] ∧ (s.tile 5).ctl.state ≠ .restore ∧ mainUp (s.tile 5) = true ∧
        twinUp (s.tile 5) = true ∧ (s.tile 5).filter.committing = [] ∧ (s.tile 5).filter.holdoffs = [] ∧
        (s.tile 5).filter.going = none ∧ notTurn (s.tile 5) w.mainDone w.mainDone = false ∧
        waitsForRepair s 5 w.mainDone = false ∧ ruledRuns s 5 w.mainDone = true) ∧
    (let s := released [] fun y => { y with filter := { y.filter with going := some (writing false 0, true) } }
     (s.tile 5).filter.going.any (fun g => decide (g.2 = true)) = true) ∧
    (∀ main ∈ [false, true], let s := released [] fun y => { y with update := { y.update with mirror := [writing main 0] } }
     (s.tile 5).filter.queue = [] ∧ (s.tile 5).update.mirror = writing main 0 :: [] ∧ mainUp (s.tile 5) = true ∧
       twinUp (s.tile 5) = true ∧ writesRun s 5 = true ∧ portFree s 5 main .update = true) ∧
    (let s := released (oneRegion 2 4) fun y => { y with
       filter := { y.filter with changed := [15, 16] }, active := { y.active with filter := BitVec.allOnes 32 } }
     fetchAllowed s 5 = true ∧ (s.tile 5).active.stageQuiet ≠ 0 ∧ 0 < mfRegionCount (s.tile 5).force.manifest ∧
       (mfRegion (s.tile 5).force.manifest 0).isOpen = true ∧ (mfRegion (s.tile 5).force.manifest 0).rule = 4 ∧
       (s.tile 5).filter.changed.filter (regionUnits (mfRegion (s.tile 5).force.manifest 0)) = [15]) ∧
    (let s := released (oneRegion 2 4) fun y => { y with
       filter := { y.filter with committing := [{ unit := 1, bytes := [], mainDone := false, tries := 2, last := true }] }
       eave := { y.eave with twinFitted := false } }
     (∃ c ∈ (s.tile 5).filter.committing, c.last = true ∧ 2 ≤ c.tries ∧ notTurn (s.tile 5) false c.mainDone = false) ∧
       ruledRuns s 5 false = true ∧
       mainUp (s.tile 5) = true ∧ twinUp (s.tile 5) = false) := by
  decide +kernel

/-! ### Witnesses: sideband and SPDM -/

/-- A good frame of a command: header, the words given, trailer. -/
def frameOf (cmd addr : Nat) (data : List Word) : Frame :=
  let ws := BitVec.ofNat 32 (cmd * 0x1000000 + (data.length - 1) * 0x10000 + addr) :: data
  { bits := 32 * (ws.length + 1), words := ws ++ [(crc16Words ws).setWidth 32 <<< 16], late := [] }

/-- Tile 5 in a state, changed. -/
def side (st : TileState) (f : Tile → Tile := id) : State := tileIn served 5 st f

theorem test_witness_frames : Canonical (side .held) ∧
    (∀ a ∈ [(0x00, 0, 1), (0x01, 0, 1), (0x10, 0x3FF, 16), (0x11, 0x020, 16), (0x11, 0x100, 16), (0x11, 0x1F0, 16), (0x11, 0x010, 1),
        (0x11, 0x000, 16), (0x11, 0x00F, 1), (0x7F, 0, 1)],
      let f := frameOf a.1 a.2.1 (List.replicate a.2.2 1)
      sbAnswers (side .held) 5 f = true ∧ frameReason f = none ∧ sbCmd (sbHeader f) = a.1 ∧ sbAddr (sbHeader f) = a.2.1 ∧
        ((f.words.drop 1).dropLast).length = sbLen (sbHeader f) + 1 ∧ f.late = []) ∧
    sbKnown 0x7F = false ∧ ((side .held).tile 5).side.spdmBusy = false ∧
    ((side .held fun y => { y with side := { y.side with spdmBusy := true } }).tile 5).side.spdmBusy = true := by
  exact ⟨by unfold side; exact canonical_tileIn _ _ _ (fun _ => rfl) (fun _ => rfl), by decide +kernel⟩

theorem test_witness_bad_frames : (∀ f ∈ [({ bits := 33, words := [0], late := [] } : Frame),
      { bits := 32, words := [0], late := [] }, { bits := 96, words := [0, 0, 0], late := [] },
      { frameOf 0 0 [0] with words := (frameOf 0 0 [0]).words.dropLast ++ [(frameOf 0 0 [0]).words.getLastD 0 + 1] }],
      sbAnswers (side .held) 5 f = true ∧ frameReason f ≠ none ∧ f.late = []) ∧
    ((side .held).tile 5).filter.holdoffs = [] := by decide +kernel

/-- A tile that owns an update area, staging. -/
def staging (owner : BitVec 2) (y : Tile) : Tile :=
  { y with
    ctl := { y.ctl with stage := true }, update := { y.update with owner := owner, phase := 1 }
    active := { y.active with recover := y.active.recover ||| 0x20000#32 } }

theorem test_witness_messages :
    (∀ a ∈ [(0x20, 0#32), (0x21, 0x52535452#32), (0x22, 4096#32), (0x23, 0#32), (0x24, 0xFFFFFFFF#32), (0x24, 0#32), (0x26, 0#32),
        (0x26, 1024#32), (0x26, 1025#32)],
      let f := frameOf a.1 0 [a.2]
      sbAnswers (side .held) 5 f = true ∧ frameReason f = none ∧ sbCmd (sbHeader f) = a.1 ∧ sbAddr (sbHeader f) = 0 ∧
        sbLen (sbHeader f) = 0 ∧ ((f.words.drop 1).dropLast).headD 0 = a.2) ∧
    bitOf 1024#32 31 = false ∧ fieldOf 1025#32 10 0 = 1025 ∧ ((side .held).tile 5).ctl.state.released = false ∧
    ((side .run).tile 5).ctl.state = .run ∧ ((side .run).tile 5).ctl.switchPending = false ∧
    ((side .run).tile 5).update.trial = none ∧ ((side .early).tile 5).ctl.state = .early ∧
    ((side .run fun y => { y with update := { y.update with trial := some 0 } }).tile 5).update.trial = some 0 ∧
    served.gmode.mode ≠ .lockdown := by decide +kernel

theorem test_witness_update_messages :
    (let s := side .held (staging 1)
     updateState (s.tile 5).ctl.state = true ∧ (s.tile 5).active.platformUpdate = true ∧ (s.tile 5).owned = true ∧
       (s.tile 5).update.owner = 1 ∧ (s.tile 5).update.phase = 1 ∧ commitBlocked s 5 = false ∧ (s.tile 5).update.trial = none) ∧
    (let s := side .held fun y => { staging 1 y with mem := { y.mem with staging := (header.take 256).zipIdx.map fun c => (c.2, c.1) } }
     (stagingPush (stageSnapshot s 5) 5).headerOk = true ∧ commitBlocked s 5 = false ∧
       granulesFor (0x10000 + mfTreeSize (stagingPush (stageSnapshot s 5) 5).manifest +
         mfImageLen (stagingPush (stageSnapshot s 5) 5).manifest) ≤ poolFree s) ∧
    (let s := side .held fun y => { staging 1 y with ctl := { y.ctl with switchPending := true } }
     commitBlocked s 5 = true) ∧
    (let s := side .held fun y => { y with ctl := { y.ctl with switchPending := true }, update := { y.update with owner := 1, phase := 7 } }
     (s.tile 5).owned = false ∧ (s.tile 5).update.owner = 1 ∧ (s.tile 5).ctl.switchPending = true ∧
       (s.tile 5).update.trial = none) := by decide +kernel

theorem test_witness_open_commit : ((released (oneRegion 2 4)).tile 5).ctl.state.released = true ∧
    mainUp ((released (oneRegion 2 4)).tile 5) = true ∧
    stageRegions (oneRegion 2 4) 0xFFFFFFFF = some [mfRegion (oneRegion 2 4) 0] ∧
    stageRegions (oneRegion 2 4) 0 = some [mfRegion (oneRegion 2 4) 0] ∧ stageRegions (oneRegion 2 4) 1 = none := by decide +kernel

theorem test_witness_extend_message : ∀ k : Fin 8, 4 ≤ k.val → let f := frameOf 0x25 0 (BitVec.ofNat 32 k.val :: List.replicate 12 0)
    sbAnswers (side .run) 5 f = true ∧ frameReason f = none ∧ sbLen (sbHeader f) = 12 ∧ sbAddr (sbHeader f) = 0 ∧
    (((f.words.drop 1).dropLast).headD 0).toNat = k.val ∧ ((side .run).tile 5).ctl.state.released = true ∧
    ((side .run).reg (tileReg 5 k)).saturated = false := by decide +kernel

theorem test_witness_sideband_response : let s := side .held fun y => { y with
      side := { y.side with spdm := { y.side.spdm with response := some (List.replicate 1024 0, true) } } }
    Canonical s ∧ (s.tile 5).side.spdm.response = some (List.replicate 1024 0, true) ∧
    (List.replicate 1024 (0 : Byte)).length ≤ 1024 :=
  ⟨by unfold side; exact canonical_tileIn _ _ _ (fun _ => rfl) (fun _ => rfl), rfl, by decide +kernel⟩

/-- A connection with the steps done that most requests need. -/
def connected : Spdm := { Spdm.reset with versioned := true, capable := true, negotiated := true }

/-- A request at the DOE responder of function 3 or at the sideband of tile 5. -/
def requests (p : Spdm) (m : List Byte) (base : State := served) : State :=
  (base.modLd 3 fun l => { l with spdm := { p with request := some m } }).modTile 5 fun y =>
    { y with side := { y.side with spdm := { p with request := some m } } }

/-- A request of a code with two parameters and a body of `n` bytes. -/
def msg (code p1 p2 : Nat) (body : List Byte) (n : Nat := body.length) : List Byte :=
  spdmRsp code p1 p2 (padTo n 0 body)

theorem asks_of {s : State} {via : SpdmVia} {code : Nat} {m : List Byte}
    (h : (spdmOf s via).request = some m ∧ (spdmOf s via).inSession = none ∧ (spdmOf s via).locked = false ∧ s.boot.ridgeHeld = false ∧
      spdmServed s = true ∧ leAt 1 1 m = code ∧ leAt 0 1 m = 0x13 ∧ 4 ≤ m.length) : Asks s via code m where
  request := h.1
  clear := h.2.1
  opened := h.2.2.1
  ridge := fun r => absurd r (by simp [h.2.2.2.1])
  served := h.2.2.2.2.1
  code := h.2.2.2.2.2.1
  version := h.2.2.2.2.2.2.1
  whole := h.2.2.2.2.2.2.2

/-- A chain in slot 2, its key valid. -/
def chained : State :=
  let s := writeSlot served 7 (keyOf 3 48 0x20)
  { s with keys := { s.keys with slot2Chain := [1, 2, 3] } }

theorem test_witness_spdm_connect : ∀ via ∈ [SpdmVia.doe 3, .sb 5],
    (let m : List Byte := [0x10, 0x84, 0, 0]
     let s := requests .reset m
     (spdmOf s via).request = some m ∧ (spdmOf s via).inSession = none ∧ spdmServed s = true ∧ leAt 1 1 m = 0x84 ∧
       leAt 0 1 m = 0x10 ∧ 4 ≤ m.length) ∧
    Asks (requests connected (msg 0xE1 0 0 [])) via 0xE1 (msg 0xE1 0 0 []) ∧
    Asks (requests .reset (msg 0xE1 0 0 [])) via 0xE1 (msg 0xE1 0 0 []) ∧
    (let m := msg 0xE3 8 0 [0, 0, 0, 0, 0x80, 0, 0, 0, 2] 16
     Asks (requests connected m) via 0xE3 m ∧ leAt 2 1 m ≤ 8 ∧ leAt 8 4 m / 0x80 % 2 = 1 ∧ leAt 12 4 m / 2 % 2 = 1) ∧
    (let m := msg 0x81 0 0 []
     Asks (requests connected m) via 0x81 m ∧ (spdmOf (requests connected m) via).negotiated = true) ∧
    (∀ off ∈ [2, 3], let m := msg 0x82 2 0 [BitVec.ofNat 8 off, 0, 0xFF, 0xFF]
      Asks (requests connected m chained) via 0x82 m ∧ leAt 2 1 m % 16 = 2 ∧ leAt 4 2 m = off) ∧
    Asks (requests connected (msg 0x55 0 0 [])) via 0x55 (msg 0x55 0 0 []) ∧ rowCode 0 (msg 0x55 0 0 []) = true := by
  intro via h
  rcases List.mem_cons.1 h with rfl | h
  · refine ⟨by decide +kernel, asks_of (by decide +kernel), asks_of (by decide +kernel), ⟨asks_of (by decide +kernel), by decide +kernel⟩,
      ⟨asks_of (by decide +kernel), by decide +kernel⟩, ?_, asks_of (by decide +kernel), by decide +kernel⟩
    intro off o
    rcases List.mem_cons.1 o with rfl | o
    · exact ⟨asks_of (by decide +kernel), by decide +kernel⟩
    · rcases List.mem_singleton.1 o with rfl
      exact ⟨asks_of (by decide +kernel), by decide +kernel⟩
  · rcases List.mem_singleton.1 h with rfl
    refine ⟨by decide +kernel, asks_of (by decide +kernel), asks_of (by decide +kernel), ⟨asks_of (by decide +kernel), by decide +kernel⟩,
      ⟨asks_of (by decide +kernel), by decide +kernel⟩, ?_, asks_of (by decide +kernel), by decide +kernel⟩
    intro off o
    rcases List.mem_cons.1 o with rfl | o
    · exact ⟨asks_of (by decide +kernel), by decide +kernel⟩
    · rcases List.mem_singleton.1 o with rfl
      exact ⟨asks_of (by decide +kernel), by decide +kernel⟩

theorem test_witness_spdm_evidence :
    (let m := msg 0x83 2 1 [] 40
     let s := requests connected m chained
     Asks s (.doe 3) 0x83 m ∧ leAt 2 1 m = 2 ∧ slotChain s 2 ≠ [] ∧ 44 ≤ m.length ∧ leAt 3 1 m ∈ [0, 1, 0xFF] ∧
       (s.slot (certKey 2)).state = .valid ∧ TagHolds s (certKey 2) ∧ DrbgReady s 0 ∧ DrbgReady s 1) ∧
    (∀ op ∈ [0, 1, 9, 10], let m := msg 0xE0 0 op [] 8
      Asks (requests connected m) (.sb 5) 0xE0 m ∧ leAt 2 1 m % 2 = 0 ∧ leAt 3 1 m = op ∧ DrbgReady (requests connected m) 0) ∧
    indexBlock (.sb 5) 1 = some 0 ∧ indexBlock (.sb 5) 9 = some 13 ∧ indexBlock (.sb 5) 10 = none ∧
    indexBlock (.doe 3) 40 = some 39 ∧ indexBlock (.doe 3) 41 = none := by
  refine ⟨⟨asks_of (by decide +kernel), by decide +kernel, by decide +kernel, by decide +kernel, by decide +kernel, by decide +kernel,
    tagHolds_writeSlot _ _ _, ⟨by decide, by decide⟩, ⟨by decide, by decide⟩⟩, ?_, by decide +kernel⟩
  have h : ∀ op ∈ [0, 1, 9, 10], let m := msg 0xE0 0 op [] 8
      let s := requests connected m
      ((spdmOf s (.sb 5)).request = some m ∧ (spdmOf s (.sb 5)).inSession = none ∧ (spdmOf s (.sb 5)).locked = false ∧
        s.boot.ridgeHeld = false ∧ spdmServed s = true ∧ leAt 1 1 m = 0xE0 ∧
        leAt 0 1 m = 0x13 ∧ 4 ≤ m.length) ∧ leAt 2 1 m % 2 = 0 ∧ leAt 3 1 m = op := by decide +kernel
  exact fun op o => ⟨asks_of (h op o).1, (h op o).2.1, (h op o).2.2, ⟨rfl, rfl⟩⟩

/-- Sessions of a connection. -/
def session (id : Nat) (done mutual_ : Bool) (encap : Nat) : Session where
  id := id; slot := 2; mutualAuth := mutual_; encap := encap; peerChain := []; peer := 0; done := done; secret := []; th := []
  reqSlot := 110; rspSlot := 111

/-- A connection asking within its session. -/
def within (x : Session) : Spdm := { connected with sessions := [x], inSession := some x.id }

/-- A device whose last two slots of the Loft hold a session's keys. -/
def keyedFor (base : State := served) : State := writeSlot (writeSlot base 126 (keyOf 1 32 0x202)) 127 (keyOf 1 32 0x201)

theorem asksIn_of {base : State} {p : Spdm} {via : SpdmVia} {code : Nat} {m : List Byte} {x : Session}
    (h : let s := requests p m (keyedFor base)
      (spdmOf s via).request = some m ∧ (spdmOf s via).inSession = some x.id ∧ (spdmOf s via).locked = false ∧
      s.boot.ridgeHeld = false ∧ x.reqSlot = 110 ∧ x.rspSlot = 111 ∧ sessionBy s via x.id = some x ∧
      spdmServed s = true ∧ leAt 1 1 m = code ∧ leAt 0 1 m = 0x13 ∧ 4 ≤ m.length ∧ ((s.slot 127).state = .valid ∧ (s.slot 127).ty = 1 ∧
        (s.slot 127).may uSession = true ∧ (s.slot 127).may (b01 false) = true) ∧
      (s.slot 126).counter.toNat < 2 ^ 48 ∧ (s.slot 127).counter.toNat + 1 < 2 ^ 48 ∧ s.attic.clocksHeld.getLsbD 3 = false) :
    AsksIn (requests p m (keyedFor base)) via code m x where
  request := h.1
  within := h.2.1
  opened := h.2.2.1
  ridge := h.2.2.2.1
  slots := by rw [h.2.2.2.2.1, h.2.2.2.2.2.1]; decide
  clock := h.2.2.2.2.2.2.2.2.2.2.2.2.2.2
  key := by
    have k := h.2.2.2.2.2.2.2.2.2.2.2.1
    rw [h.2.2.2.2.2.1]
    exact ⟨k.1, tagHolds_writeSlot _ _ _, k.2.1, k.2.2⟩
  room := by
    rw [h.2.2.2.2.1, h.2.2.2.2.2.1]
    exact ⟨h.2.2.2.2.2.2.2.2.2.2.2.2.1, h.2.2.2.2.2.2.2.2.2.2.2.2.2.1⟩
  session := h.2.2.2.2.2.2.1
  served := h.2.2.2.2.2.2.2.1
  code := h.2.2.2.2.2.2.2.2.1
  version := h.2.2.2.2.2.2.2.2.2.1
  whole := h.2.2.2.2.2.2.2.2.2.2.1

theorem test_witness_sessions :
    (let m := msg 0xE4 1 2 [7, 0] 134
     let s := requests connected m chained
     Asks s (.doe 3) 0xE4 m ∧ leAt 3 1 m = 2 ∧ slotChain s 2 ≠ [] ∧ 138 ≤ m.length ∧ leAt 2 1 m ∈ [0, 1, 0xFF] ∧
       (s.slot (certKey 2)).state = .valid ∧ TagHolds s (certKey 2) ∧ (spdmOf s (.doe 3)).sessions = [] ∧ (freeLoftSlots s).isSome = true) ∧
    AsksIn (requests (within (session 9 false false 0)) (msg 0xE5 0 0 [] 48) (keyedFor)) (.sb 5) 0xE5 (msg 0xE5 0 0 [] 48) (session 9 false false 0) ∧
    AsksIn (requests (within (session 9 true false 0)) (msg 0xEC 0 0 []) (keyedFor)) (.sb 5) 0xEC (msg 0xEC 0 0 []) (session 9 true false 0) ∧
    AsksIn (requests (within (session 9 true false 0)) (msg 0xE8 0 0 []) (keyedFor)) (.sb 5) 0xE8 (msg 0xE8 0 0 []) (session 9 true false 0) ∧
    AsksIn (requests (within (session 9 true false 0)) (msg 0xE9 1 0 []) (keyedFor)) (.sb 5) 0xE9 (msg 0xE9 1 0 []) (session 9 true false 0) ∧
    AsksIn (requests (within (session 9 false true 1)) (msg 0xEA 0 0 []) (keyedFor)) (.doe 3) 0xEA (msg 0xEA 0 0 []) (session 9 false true 1) ∧
    (let m := msg 0xEB 0 0 [0x13, 0x02, 0, 0, 2, 0, 0, 0, 5, 6]
     AsksIn (requests (within (session 9 false true 1)) m (keyedFor)) (.doe 3) 0xEB m (session 9 false true 1) ∧ leAt 5 1 m = 0x02 ∧
       leAt 6 1 m % 16 = 0 ∧ leAt 8 2 m = 2 ∧ 12 + 2 ≤ m.length ∧ leAt 10 2 m = 0) ∧
    AsksIn (requests (within (session 9 true true 2)) (msg 0xEE 2 0 []) (keyedFor)) (.doe 3) 0xEE (msg 0xEE 2 0 []) (session 9 true true 2) ∧
    (session 9 true true 2).owner (some 0) = true := by
  exact ⟨⟨asks_of (by decide +kernel), by decide +kernel, by decide +kernel, by decide +kernel, by decide +kernel, by decide +kernel,
    tagHolds_writeSlot _ _ _, by decide +kernel, by decide +kernel⟩, asksIn_of (by decide +kernel), asksIn_of (by decide +kernel),
    asksIn_of (by decide +kernel), asksIn_of (by decide +kernel), asksIn_of (by decide +kernel),
    ⟨asksIn_of (by decide +kernel), by decide +kernel⟩, asksIn_of (by decide +kernel), by decide +kernel⟩

theorem test_witness_key_update : SessionKey (requests (within (session 9 true false 0)) (msg 0xE9 1 0 []) (keyedFor)) 110 true where
  valid := by decide +kernel
  tag := tagHolds_other _ _ _ _ (by decide) (tagHolds_writeSlot _ _ _)
  ty := by decide +kernel
  use := by decide +kernel

theorem test_witness_csr : let s := requests (within (session 9 true true 2)) (msg 0xED 0 0 []) (keyedFor { chained with
      host := { served.host with ownerDigest := some 0 } })
    AsksIn s (.doe 3) 0xED (msg 0xED 0 0 []) (session 9 true true 2) ∧ (session 9 true true 2).owner s.host.ownerDigest = true ∧
    s.gmode.barren = false ∧ (s.slot 7).state = .valid ∧ TagHolds s 7 ∧ DrbgReady s 1 := by
  exact ⟨asksIn_of (by decide +kernel), by decide +kernel, by decide +kernel, by decide +kernel,
    tagHolds_other _ _ _ _ (by decide) (tagHolds_other _ _ _ _ (by decide) (tagHolds_writeSlot _ _ _)), ⟨by decide, by decide⟩⟩

theorem test_witness_chunks :
    (let m := msg 0x85 0 7 (leBytes 2 0 ++ [0, 0] ++ leBytes 4 4 ++ leBytes 4 0x60000 ++ [1, 2, 3, 4])
     let p := spdmOf (requests connected m) (.doe 3)
     p.request = some m ∧ p.inSession = none ∧ leAt 1 1 m = 0x85 ∧ leAt 0 1 m = 0x13 ∧ leAt 2 1 m % 2 = 0 ∧ leAt 4 2 m = 0 ∧
       slice 16 (leAt 8 4 m) m = [1, 2, 3, 4] ∧ leAt 8 4 m = 4 ∧ leAt 12 4 m = 0x60000) ∧
    (let m := msg 0x86 0 7 (leBytes 2 1)
     let s := requests { connected with large := [1], largeSeq := 1, handle := 7 } m
     Asks s (.doe 3) 0x86 m ∧ asksRidge connected (msg 0x83 2 1 [] 40) = true ∧ asksRidge connected (msg 0x81 0 0 []) = false ∧ (spdmOf s (.doe 3)).large ≠ [] ∧ leAt 4 2 m = (spdmOf s (.doe 3)).largeSeq ∧
       leAt 3 1 m = (spdmOf s (.doe 3)).handle.toNat ∧ 0 < (spdmOf s (.doe 3)).largeSeq) :=
  ⟨by decide +kernel, asks_of (by decide +kernel), by decide +kernel⟩

/-! ### Witnesses: updates, recovery, golden copies -/

/-- A mailbox command of the owner for tile 5, the tile in a state. -/
def tileAsk (st : TileState) (op : Nat) (data : List Nat) (n : Nat) (f : Tile → Tile := id) : State :=
  asked (tileIn served 5 st f) 0 op (5 :: data) n

theorem canonical_ask (st : TileState) (op : Nat) (data : List Nat) (n : Nat) (f : Tile → Tile) (mem : ∀ y, (f y).mem = y.mem)
    (buffer : ∀ y, (f y).side.buffer = y.side.buffer)
    (w : Memory.wf 0 (Memory.write 0 [] 0 ((5 :: data).map (BitVec.ofNat 8))) = true)
    (port : ∀ y, (f y).eave.buffer = y.eave.buffer := by intro _; rfl) : Canonical (tileAsk st op data n f) :=
  canonical_asked (canonical_tileIn 5 st f mem buffer port) 0 op (5 :: data) n w

theorem test_witness_staging :
    OwnerTile (tileAsk .run 0x300 [] 4 fun y => { y with force := { y.force with layout := some (0, 0, 0, 0) } }) 0 5 (0x300 * 256) 4 ∧
    (let s := tileAsk .run 0x300 [] 4 fun y => { y with force := { y.force with layout := some (0, 0, 0, 0) } }
     (s.tile 5).owned = false ∧ (s.tile 5).ctl.state ∉ [TileState.fetch, .restore, .absent] ∧ (tileLayout (s.tile 5)).isSome = true) ∧
    OwnerTile (tileAsk .fetch 0x300 [] 4) 0 5 (0x300 * 256) 4 ∧
    (let s := tileAsk .run 0x301 [0, 0, 0, 0, 0, 0, 0, 0xFF, 0xFF, 0xFF, 0x1F, 9] 13 (staging 2)
     Taken s 0 (0x301 * 256) ∧ (s.mb 0).arg 0 4 = 5 ∧ lengthOf s 0 = 13 ∧ (s.mb 0).zero 5 3 = true ∧
       (s.mb 0).arg 8 4 = 0x1FFFFFFF ∧ (s.mb 0).arg 4 1 = 0 ∧ (s.tile 5).owned = true ∧ (s.tile 5).update.owner = 2 ∧
       ((granulesOf 0x1FFFFFFF 1).filter (· ∉ (s.tile 5).mem.granules)).length ≤ poolFree s) ∧
    (let s := (tileAsk .run 0x301 [] 0x2000 (staging 2)).modTile 6 fun y => { y with mem := { y.mem with goldGranules := 2480 } }
     Taken s 0 (0x301 * 256) ∧ lengthOf s 0 = 0x2000 ∧ poolFree s < ((granulesOf 0 8180).filter (· ∉ (s.tile 5).mem.granules)).length) ∧
    (let s := tileAsk .run 0x301 [0, 0, 0, 1, 0, 0, 0, 0, 0, 0, 0, 7] 13
     Taken s 0 (0x301 * 256) ∧ (s.mb 0).arg 4 1 = 1 ∧ (s.tile 5).owned = false) := by
  repeat' (first | decide +kernel | exact canonical_ask _ _ _ _ _ (fun _ => rfl) (fun _ => rfl) (by decide) | exact canonical_tileIn _ _ _ (fun _ => rfl) (fun _ => rfl) | constructor)

theorem test_witness_host_staging : Canonical (tileAsk .run 0x301 [0, 0, 0, 0, 0, 0, 0, 0xFF, 0xFF, 0xFF, 0x1F, 9] 13 (staging 2)) ∧
    OwnerTile (tileAsk .run 0x302 [] 8 (staging 2)) 0 5 (0x302 * 256) 8 ∧
    (let s := tileAsk .run 0x302 [] 8 (staging 2)
     (s.tile 5).owned = true ∧ (s.tile 5).update.owner = 2 ∧ (s.tile 5).update.phase = 1 ∧ commitBlocked s 5 = false ∧
       (stagingPush (stageSnapshot s 5) 5).headerOk = false) ∧
    (let s := tileAsk .run 0x302 [] 8 fun y => { staging 2 y with update := { (staging 2 y).update with phase := 2 } }
     (s.tile 5).owned = true ∧ (s.tile 5).update.phase ≠ 1) ∧
    OwnerTile (tileAsk .run 0x303 [] 4 (staging 2)) 0 5 (0x303 * 256) 4 ∧
    ((tileAsk .run 0x303 [] 4 (staging 2)).tile 5).update.trial = none ∧
    OwnerTile (tileAsk .run 0x304 [] 4 fun y => { y with update := { y.update with trial := some 0 } }) 0 5 (0x304 * 256) 4 ∧
    ((tileAsk .run 0x304 [] 4 fun y => { y with update := { y.update with trial := some 0 } }).tile 5).ctl.state.released = true ∧
    (let s := { tileAsk .run 0x304 [] 4 (fun y => { y with update := { y.update with trial := some 0 } }) with
       gmode := { served.gmode with mode := .lockdown } }
     Taken s 0 (0x304 * 256) ∧ Names s 0 5 ∧ lengthOf s 0 = 4 ∧ ownerOnly s 0 = true ∧ (s.tile 5).update.trial.isSome = true) ∧
    ownerLds { tileIn served 5 .run (staging 2) with host := HostPort.reset } = 0 ∧ ownerLds served ≠ 0 := by
  repeat' (first | decide +kernel | exact canonical_ask _ _ _ _ _ (fun _ => rfl) (fun _ => rfl) (by decide) | exact canonical_tileIn _ _ _ (fun _ => rfl) (fun _ => rfl) | constructor)

/-- Tile 5 in a state with an update. -/
def updating (st : TileState) (f : TileUpdate → TileUpdate) : State := tileIn served 5 st fun y => { y with
  update := f { y.update with owner := 2, mainOk := true, twinOk := true }
  eave := { y.eave with main := some (found 0), twin := some (found 0), twinFitted := true } }

theorem test_witness_updates :
    (let s := updating .run fun u => { u with phase := 2 }
     (s.tile 5).update.phase = 2 ∧ (s.tile 5).update.owner ≠ 0 ∧ fetchAllowed s 5 = true ∧ (stagingPush s 5).headerOk = false) ∧
    (∀ p ∈ [((4 : BitVec 4), 0), (4, 1), (5, 2), (5, 3), (6, 4)],
      let s := updating .run fun u => { u with phase := p.1, step := p.2 }
      writesRun s 5 = true ∧ portFree s 5 false .update = true ∧ portFree s 5 true .update = true ∧ (s.tile 5).update.mainOk = true ∧ (s.tile 5).update.twinOk = true ∧ (s.tile 5).update.phase = p.1 ∧
        (s.tile 5).update.step = p.2 ∧ s.gmode.mode ∈ servedModes) ∧
    (let s := updating .run fun u => { u with phase := 4, twinOk := false }
     writesRun s 5 = true ∧ (s.tile 5).update.mainOk = true ∧ (s.tile 5).update.twinOk = false) ∧
    (∀ st ∈ [TileState.early, .held, .quarantine], writesRun (updating st fun u => { u with phase := 6 }) 5 = true) ∧
    (let s := updating .run fun u => { u with switches := [{ partition := true, state := 1, digest := 0 }] }
     (s.tile 5).update.switches = { partition := true, state := 1, digest := 0 } :: [] ∧ writesRun s 5 = true ∧ mainUp (s.tile 5) = true) ∧
    (let s := updating .run fun u => { u with trial := some 0 }
     (s.tile 5).update.trial = some 0 ∧ (s.tile 5).ctl.state = .run ∧ s.gmode.mode ≠ .lockdown ∧ s.gmode.mode ≠ .gate ∧
       mfBootOkTimeout (s.tile 5).force.manifest ≤ (s.tile 5).update.runMs) := by
  decide +kernel

/-- Tile 5 in RESTORE at a source. -/
def restoringAt (source : BitVec 3) (f : TileRestore → TileRestore := id) : State := tileIn served 5 .restore fun y => { y with
  restore := f { y.restore with source := source }
  eave := { y.eave with main := some (found 0), twin := some (found 0), twinFitted := true } }

theorem test_witness_recovery :
    (∀ k ∈ [(1 : BitVec 3), 2, 3, 4], restoring (restoringAt k) 5 = true ∧ ((restoringAt k).tile 5).restore.source = k) ∧
    served.gmode.mode ≠ .gate ∧ fusedOff served 5 = false ∧ served.memctl.channelUp = BitVec.allOnes 8 ∧
    (goldenPush (restoringAt 3) 5).headerOk = false ∧
    (goldenPush (restoringAt 3 fun r => { r with golden := header }) 5).headerOk = true ∧
    mainUp ((restoringAt 3).tile 5) = true ∧
    ((restoringAt 4 fun r => { r with waiting := true }).tile 5).restore.waiting = true ∧
    restoring (restoringAt 4 fun r => { r with waiting := true }) 5 = true := by decide +kernel

/-- IMAGE_RECOVER for tile 5 in RESTORE at source 4. -/
def recovering (base : Nat) (f : TileRestore → TileRestore := id) : State :=
  asked (restoringAt 4 f) 0 0x305 ([5, 0, 0, 0] ++ (leBytes 4 base).map BitVec.toNat) 12

theorem test_witness_recover_command : OwnerTile (recovering 0) 0 5 (0x305 * 256) 12 ∧
    ((recovering 0).tile 5).restore.waiting = false ∧
    (∀ base ∈ [0x1FFFF000, 0x1001], ((recovering base).mb 0).arg 4 4 = base ∧
      ((recovering base fun r => { r with waiting := true }).tile 5).restore.waiting = true) ∧ 0x1FFFF000 < pushSize ∧
    (windowPush (recovering 0x1FFFF000 fun r => { r with waiting := true }) 0x1FFFF000).headerOk = false := by
  repeat' (first | decide +kernel | exact canonical_ask _ _ _ _ _ (fun _ => rfl) (fun _ => rfl) (by decide) | exact canonical_tileIn _ _ _ (fun _ => rfl) (fun _ => rfl) | constructor)

theorem test_witness_restore_write : let s := tileIn served 5 .run fun y => { y with
      restore := { y.restore with writing := some (true, 3) }, eave := { y.eave with main := some (found 0) } }
    (s.tile 5).restore.writing = some (true, 3) ∧ writesRun s 5 = true ∧ mainUp (s.tile 5) = true ∧
    portFree s 5 false .update = true ∧ portFree s 5 true .update = true := by decide +kernel

theorem test_witness_golden :
    (let s := tileAsk .run 0x306 [0, 0, 0, 1] 12 fun y => { y with verify := { y.verify with phase := 8 } }
     OwnerTile s 0 5 (0x306 * 256) 12 ∧ (s.tile 5).ctl.state = .run ∧ (s.tile 5).verify.phase = 8 ∧ (s.tile 5).update.trial = none ∧
       (s.mb 0).arg 4 4 = 1 ∧ granulesFor (pushLen (s.tile 5).force.manifest) ≤ poolFree s + (s.tile 5).mem.goldGranules) ∧
    (let s := { tileAsk .run 0x306 [0, 0, 0, 2, 0, 0, 0, 0, 0, 2, 2] 12 (fun y => { y with verify := { y.verify with phase := 8 } }) with
       purlin := { served.purlin with disc := some (found 0) } }
     OwnerTile s 0 5 (0x306 * 256) 12 ∧ (s.mb 0).arg 4 4 = 2 ∧ (s.tile 5).restore.goldenBusy = false ∧ (s.mb 0).arg 8 4 = 0x2020000 ∧
       goldenBaseOk s 5 0x2020000 (pushLen (s.tile 5).force.manifest) = true ∧ s.purlin.state = 1) ∧
    OwnerTile (tileAsk .held 0x306 [0, 0, 0, 1] 12) 0 5 (0x306 * 256) 12 ∧
    OwnerTile (tileAsk .held 0x306 [0, 0, 0, 4] 12) 0 5 (0x306 * 256) 12 ∧ ((tileAsk .held 0x306 [0, 0, 0, 4] 12).mb 0).arg 4 4 = 4 ∧
    (let s := tileIn served 5 .run fun y => { y with restore := { y.restore with goldenBusy := true, goldenBase := 0x2020000 } }
     (s.tile 5).restore.goldenBusy = true ∧ Canonical s ∧ s.purlin.state = 1 ∧
       goldenSector 5 + 0x1000 ≤ (s.tile 5).restore.goldenBase) := by
  repeat' (first | decide +kernel | exact canonical_ask _ _ _ _ _ (fun _ => rfl) (fun _ => rfl) (by decide) | exact canonical_tileIn _ _ _ (fun _ => rfl) (fun _ => rfl) | constructor)

/-- Tile 5 under a manifest of a security version. -/
def versioned (svn : Nat) (y : Tile) : Tile := { y with force := { y.force with manifest := laid 0x20 [(0x1C, leBytes 4 svn)] } }

theorem test_witness_svn : (let s := tileAsk .run 0x307 [0, 0, 0, 1] 8 (versioned 1)
     OwnerTile s 0 5 (0x307 * 256) 8 ∧ s.gmode.mode ≠ .trial ∧ s.otp.overrides = false ∧ svnCount s 5 = 0 ∧
       (s.tile 5).force.manifest ≠ [] ∧ (s.tile 5).ctl.switchPending = false ∧ (s.tile 5).update.trial = none ∧
       (s.mb 0).arg 4 4 = 0 + 1 ∧ 0 + 1 ≤ mfSvn (s.tile 5).force.manifest ∧ s.otp.busy = false ∧
       otpNormal s 266 = shadowRow s 266 ∧ BurnReady s 266 (otpNormal s 266 ||| (1#32 <<< 0)) ∧ Canonical s) ∧
    ((tileAsk .run 0x307 [] 8 (versioned 1)).mb 0).arg 4 4 ≤ mfSvn ((tileAsk .run 0x307 [] 8 (versioned 1)).tile 5).force.manifest ∧
    mfSvn ((tileAsk .run 0x307 [0, 0, 0, 2] 8 (versioned 1)).tile 5).force.manifest <
      ((tileAsk .run 0x307 [0, 0, 0, 2] 8 (versioned 1)).mb 0).arg 4 4 := by
  repeat' (first | decide +kernel | exact canonical_ask _ _ _ _ _ (fun _ => rfl) (fun _ => rfl) (by decide) | exact canonical_tileIn _ _ _ (fun _ => rfl) (fun _ => rfl) | constructor)

set_option maxRecDepth 4000 in
theorem test_witness_format : OwnerTile (tileAsk .run 0x308 [] 12) 0 5 (0x308 * 256) 12 ∧
    (let s := { tileAsk .off 0x308 [0, 0, 0, 0, 0, 0, 0, 0, 0, 7] 12 with memctl := { served.memctl with
        push := (header.take 256).zipIdx.map fun c => (c.2, c.1) } }
     OwnerTile s 0 5 (0x308 * 256) 12 ∧ (s.tile 5).ctl.stage = false ∧ (s.mb 0).arg 4 4 = 0 ∧ (s.tile 5).eave.format = none ∧
       poisonIn s 32 0 256 = false ∧ headerOk (Memory.read 0xFF s.memctl.push 0 256) = true ∧
       flashEnd (mfLayout (Memory.read 0xFF s.memctl.push 0 256)) = 0x70000 ∧ (s.mb 0).arg 8 4 = 0x70000 ∧
       fitsFlash (s.tile 5) 0x70000 = true ∧ 0 + 0x70000 ≤ pushSize) := by
  repeat' (first | decide +kernel | exact canonical_ask _ _ _ _ _ (fun _ => rfl) (fun _ => rfl) (by decide) | exact canonical_tileIn _ _ _ (fun _ => rfl) (fun _ => rfl) | constructor)

theorem test_witness_open_erase : (let s := asked (released (oneRegion 2 1)) 0 0x309 [5, 0, 0, 0, 0, 0, 0, 0, 0, 0xF0, 0, 0, 0, 0x10] 16
     OwnerTile s 0 5 (0x309 * 256) 16 ∧ (s.mb 0).zero 5 3 = true ∧ (s.mb 0).arg 4 1 = 0 ∧ (s.mb 0).arg 8 4 = 0xF000 ∧
       (s.mb 0).arg 12 4 = 0x1000 ∧ (s.tile 5).ctl.state.released = true ∧ 0 < mfRegionCount (s.tile 5).force.manifest ∧
       (mfRegion (s.tile 5).force.manifest 0).isOpen = true ∧ mainUp (s.tile 5) = true ∧
       alignDenied (s.tile 5) (mfRegion (s.tile 5).force.manifest 0) 0xF000 0x1000 = false ∧ (s.tile 5).filter.queue.length < 64) ∧
    (let s := asked (released (oneRegion 0 0)) 0 0x309 [5] 16
     OwnerTile s 0 5 (0x309 * 256) 16 ∧ (mfRegion (s.tile 5).force.manifest 0).isOpen = false) := by
  repeat' (first | decide +kernel | exact canonical_ask _ _ _ _ _ (fun _ => rfl) (fun _ => rfl) (by decide) | exact canonical_tileIn _ _ _ (fun _ => rfl) (fun _ => rfl) | constructor)

/-! ### Witnesses: registers, the host port -/

/-- Mailbox 2 with a command written and its doorbell not rung. -/
def written (op length fill : Nat) : State := { served with
  mbs := served.mbs.set 2 { Mailbox.reset with opcode := BitVec.ofNat 16 op, length := BitVec.ofNat 32 length, fill := fill } }

theorem test_witness_ring : ((written 0x100 0 0).mb 2).busy = false ∧ answer (written 0x100 0 0) 0x100 = .take ∧
    answer { written 0x100 0 0 with attic := { served.attic with clocksHeld := 2 } } 0x100 = .hold ∧
    headerStatus ((written 0x100 0 0).mb 2) = 0 ∧ knownOpcode 0x100 = true ∧ (written 0x100 0 0).responder = [] ∧
    (∀ p ∈ [(0x2001, 0x2001), (4, 3), (4, 5)], headerStatus ((written 0x100 p.1 p.2).mb 2) ≠ 0) ∧
    ((asked served 2 0x100 []).mb 2).busy = true := by decide +kernel

theorem test_witness_latches :
    (let s := { served with fns := served.fns.set 2 { FnEvents.reset with vecMask := BitVec.allOnes 64, pending := 1#64 <<< 63, msixOn := true } }
     ((s.fn 2).pending.getLsbD 63 && !(s.fn 2).msixHeld) = true ∧ ((s.fn 2).pending.getLsbD 0 && !(s.fn 2).msixHeld) = false ∧
       (s.host.heads[headOf s 2]).credit = false ∧
       63 ∉ (s.fn 2).waiting) ∧
    (let s := { served with host := { served.host with heads := Vector.replicate 4 { Head.reset with posted := some 1 } } }
     (s.host.heads[headOf s 2]).credit = true) := by decide +kernel

theorem test_witness_bar : fusedOff served 31 = false ∧ blockAt 0 0x120000 = none ∧ blockAt 0 0x204000 = none ∧
    blockAt 1 0x204000 = some (.mailbox, 0x204000, 0x4000) ∧ blockAt 15 0x1FFFFFF = none ∧
    blockAt 3 0x504FFC = some (.ridge, 0x500000, 0x5000) ∧ 0x500000 + 0x5000 < 0x504FFC + 8 ∧
    blockAt 0 0x201FFC = some (.mailbox, 0x200000, 0x4000) ∧ 0x9F + 1 ≤ 0xA0 ∧
    0x1FFF + 1 ≤ 0x2000 ∧ (served.mb 2).busy = false ∧ ((asked served 2 0x100 []).mb 2).busy = true ∧ Canonical served ∧
    (1 : Byte).getLsbD 0 = true := by
  repeat' (first | decide +kernel | exact canonical_served | constructor)

/-- Head 3 up in one-head-each operation, function 3 enabled. -/
def linked (posted : Option Nat) (waiting : List Nat := []) : State := { served with
  host := { served.host with
    bifur := 2, widths := Vector.replicate 4 4
    heads := served.host.heads.set 3 { Head.reset with up := true, ioPipe := [{ sub := 0, slot := 128, key := some 1 }], posted := posted }
    lds := served.host.lds.set 3 { Ld.reset with enabled := true } }
  fns := served.fns.set 3 { FnEvents.reset with waiting := waiting } }

/-- Logical devices 0 and 1 with the whole address space behind one decoder. -/
def mapped (f : HostPort → HostPort := id) : State :=
  let ld := { Ld.reset with decoders := Ld.reset.decoders.set 2 (some { base := 0x10000000000, size := 0x800000000, dpa := 0, lock := true }) }
  { served with host := f { served.host with lds := (served.host.lds.set 0 ld).set 1 ld } }

/-- A head with the S2M credits given and responses that wait. -/
def crediting (drs ndr : Option Nat) (held : List S2m) (h : HostPort) : HostPort :=
  { h with heads := h.heads.set 0 { Head.reset with up := true, drs := drs, ndr := ndr, drsHeld := held, ndrHeld := held } }

theorem test_witness_heads : ((linked none).host.heads[(2 : HeadId)]).up = false ∧ linkOk (linked none) 2 5 4 true = true ∧
    linkOk (linked none) 2 5 8 true = false ∧ linkOk (linked none) 2 5 4 false = false ∧ linkOk (linked none) 2 4 4 false = true ∧
    linkOk (linked none) 2 1 4 false = false ∧ ((linked none).host.heads[(3 : HeadId)]).drsHeld = [] ∧
    (let s := { mapped (crediting (some 0) none []) with fns := served.fns }
     (s.host.heads[(0 : HeadId)]).drs = some 0 ∧ (s.host.heads[(0 : HeadId)]).ndrHeld = []) ∧
    (linked none).gmode.mode = .serve ∧ (∀ x : TileId, ((linked none).tile x).switching = none) ∧
    ((linked none).host.heads[(3 : HeadId)]).up = true ∧ ideActive (linked none) 3 = true ∧ ((linked none).ld 3).enabled = true ∧
    headOf (linked none) 3 = 3 ∧ (∀ f, headOf (linked none) f = 3 → ((linked none).fn f).waiting = []) ∧
    ((linked (some 0) [7]).host.heads[headOf (linked (some 0) [7]) 3]).posted = some 0 ∧ ((linked (some 0) [7]).fn 3).waiting = [7] ∧
    (∀ g : LdId, g ≠ 3 → ((linked (some 0) [7]).fn g).waiting = []) := by decide +kernel

theorem test_witness_cxl_mem : offersMem (mapped) = true ∧ decodeHpa mapped 1 0 = none ∧
    (∀ d ∈ [0, 0x21FFFFFFF, 0x400000000, 0x7FFFFFFFF], decodeHpa mapped 1 (0x10000000000 + d) = some d) ∧
    (let s := mapped (crediting none (some 1) [])
     s2mFull s (headOf s 0) true = false ∧ s.host.heads[headOf s 0].drsHeld = [] ∧ s.host.heads[headOf s 0].drs ≠ some 0 ∧
       s.host.heads[headOf s 0].ndr ≠ some 0 ∧ s.host.heads[headOf s 0].ndrHeld = []) ∧
    (let s := mapped (crediting (some 0) (some 0) (List.replicate 256 { data := [], code := 0 }))
     s2mFull s (headOf s 0) true = true ∧ s2mFull s (headOf s 0) false = true ∧ s.host.heads[headOf s 0].drs = some 0) ∧
    s2mFull (mapped (crediting (some 0) (some 0) (List.replicate 255 { data := [], code := 0 }))) 0 true = false ∧
    (let s := { mapped with memctl := { served.memctl with poisoned := [(32, 0x7FFFFF)] } }
     windowPoison s 0x21FFFFFC0 = true ∧ memPlace s 0 0x21FFFFFC0 ≠ none ∧ memWaits s 0 0x21FFFFFC0 = false ∧
       memDown s 0 0x21FFFFFC0 = none) ∧ windowPoison mapped 0 = false ∧
    (let s := mapped.modTile 31 fun y => { y with verify := { y.verify with
        manifest := laid 0x120 [(0x18, leBytes 4 0x10000000)], verified := [0xFFFF] } }
     memPlace s 0 (0x10000000 * 31 + 0xFFFFFC0) ≠ none ∧ memWaits s 0 (0x10000000 * 31 + 0xFFFFFC0) = false ∧
       memPlace s 0 (0x10000000 * 31) = none) ∧
    (∀ l ∈ [({ sram := false, loc := 0, contents := 11, line := 0, tile := 32, block := 0, symbols := 0, hard := false, mis := false, unit := 0
               data := [], other := [], runs := [] } : LineFault)], l.symbols = 0 ∧ l.sram = false ∧ l.contents = 11 ∧ l.tile = 32) ∧
    (memDown { mapped with memctl := MemCtl.reset } 0 0x200000000).isSome = true ∧
    memWaits { mapped with memctl := { served.memctl with badLines := Vector.replicate 8 (List.range 16) } } 0 0x21FFFFFC0 = true ∧
    windowRange (dpaRange 0x21FFFFFFF) = true ∧ windowRange (dpaRange 0x400000000) = true ∧ 64 ≤ windowTokens mapped 0 ∧
    windowTokens (mapped fun h => { h with tokens := 0 }) 2 < 49 ∧
    mapped.host.poison = [] ∧ isOwner mapped 0 = true ∧ isOwner mapped 1 = false ∧ (mapped.ld 1).denyTick = none ∧
    (let s := mapped.modTile 31 fun y => { staging 2 y with ctl := { y.ctl with state := .run } }
     hostOwned (s.tile 31) = true ∧ 0x1FFFFFFF + 1 ≤ stagingSize ∧
       ((granulesOf 0x1FFFFFFF 1).filter (· ∉ (s.tile 31).mem.granules)).length ≤ poolFree s) ∧
    (∀ j : Fin 4, ((served.ld 1).decoders[j]) = none) ∧ 0x100000000 % 0x10000000 = 0 ∧
    0 + 0 + 0x800000000 ≤ 0x800000000 ∧ 0x800000000 < 0x10000000 + 0 + 0x800000000 := by decide +kernel

theorem test_witness_canonical_mapped : Canonical mapped := { canonical_served with }

/-- One nanosecond adds 24 bytes (24,000 MB/s), up to the bucket's 64 KiB (R485). -/
theorem test_bucket : windowTokens (mapped fun h => { h with tokens := 0 }) 1 = 24 ∧ windowTokens mapped 1 = 65536 := by decide +kernel

theorem test_witness_canonical_staging : Canonical (tileIn served 31 .run (staging 2)) :=
  canonical_tileIn _ _ _ (fun _ => rfl) (fun _ => rfl)

/-- Multi-logical-device operation with `k` logical devices. -/
def multi (k : Nat) : State := { served with host := { served.host with
  mld := true, ldCount := k, lds := Vector.ofFn fun i : Fin 16 => { Ld.reset with enabled := decide (i.val < k) } } }

theorem test_witness_fabric : (served.ld 15).doeBusy = false ∧ served.host.mld = false ∧ (multi 16).host.mld = true ∧
    (∀ f : LdId, ((multi 2).ld f).enabled = true → f.val < 2) ∧ (multi 16).gmode.mode = .serve ∧
    ((multi 16).ld 15).enabled = true ∧ (∀ x : TileId, ((multi 16).tile x).switching = none) ∧
    ({ multi 2 with host := { (multi 2).host with lds := Vector.replicate 16 { Ld.reset with doeBusy := true } } } : State).host.lds[15].doeBusy
      = true := by decide +kernel

theorem test_witness_memory_device : (let s := served.modLd 1 fun l => { l with timestamp := some (2 ^ 64 - 1, 0) }
     (s.ld 1).timestamp = some (2 ^ 64 - 1, s.attic.tick) ∧ 2 ^ 64 - 1 < 2 ^ 64) ∧
    (celEntries.any fun e => decide (e.1 = (0xFFFF#16).toNat)) = false ∧ 0 + celBytes.length ≤ celBytes.length ∧
    celBytes.length < 1 + celBytes.length := by decide +kernel

/-! ### The spec's worked examples -/

/-- What a command leads to. -/
def after (c : Instr) (s : State) (p : State → Bool) : Bool := match exec c s with | .next t => p t | _ => false

/-- T_STATE and T_EAVE_MAIN of tile 12 (the worked example of 21_register_reference.md). -/
theorem test_state_word : tState { TileCtl.reset with
      state := .run, pgood := true, pwrEn := true, rstHeld := false, cause := .release, prev := .fetch } = 0x030A1045 ∧
    discWord (some { result := 0, profile := 7, sck := 4, dummy := 20, addr4 := true, flagPoll := false, suspend := true
                     omitRead := false, density := 26, erases := [{ log2 := 12, typUs := 0, maxUs := 0 }, { log2 := 16, typUs := 0, maxUs := 0 }]
                     progTypUs := 0, progMaxUs := 0, quadProg := false, clkMode := 0, page := 0, id := 0, inverted := false, regAddr := 0, regDummy := 0 }) = 0x015A5A4F := by decide

/-- Registers of tiles 12 and 19 (the worked examples of 00_scope.md and 21_register_reference.md). -/
theorem test_tile_registers : (tileReg 12 0).val = 160 ∧ (tileReg 19 0).val = 216 ∧ (tileReg 19 7).val = 223 := by decide

/-- The manifest fields of tile 12 that its image and flash areas follow from (the worked example of 04_batten_manifests.md). -/
def tile12 : List Byte := laid 0x90 [(0x18, leBytes 4 0x7FF400),
  (0x80, leBytes 4 0x800000 ++ leBytes 4 0x20000 ++ leBytes 4 0x40000 ++ leBytes 4 0x1000000)]

theorem test_tile12_tree : blockCount tile12 = 2048 ∧ blockLen tile12 2046 = 4096 ∧ blockLen tile12 2047 = 1024 ∧
    treeDepth 2048 = 3 ∧ [nodesAt 2048 1, nodesAt 2048 2, nodesAt 2048 3] = [64, 2, 1] ∧
    nodeOffset 2048 2 1 = 0xC00 ∧ nodeOffset 2048 1 31 = 0xCC00 ∧ nodeOffset 2048 1 63 + 0x600 = 102912 ∧
    0x1A0 + sigLen 3 = 0x1EA4 := by decide +kernel

theorem test_tile12_areas : flashTreeA (mfLayout tile12) = 0x830000 ∧ flashPartB (mfLayout tile12) = 0x850000 ∧
    flashTreeB (mfLayout tile12) = 0x1050000 ∧ flashOpen (mfLayout tile12) = 0x1070000 ∧
    flashStaging (mfLayout tile12) = 0x10B0000 ∧ flashEnd (mfLayout tile12) = 0x20B0000 ∧
    blockAddr tile12 false 1000 = 0x418000 := by decide +kernel

/-- Granules of two push formats (the worked example of 17_underlay_memory.md). -/
theorem test_granules : granulesFor (66432 * 1024) = 33 ∧ granulesFor (265408 * 1024) = 130 := by decide

/-- The IV of salt 0x5EA1_0C07 and counter 41 (R282). -/
theorem test_iv : slotIv { KeySlot.reset with salt := 0x5EA10C07, counter := 41 } false =
    [0x5E, 0xA1, 0x0C, 0x07, 0, 0, 0, 0, 0, 0, 0, 0x29] := by decide

/-- Headers of READ and BOOT_OK (the worked example of 14_soffit_ports.md). -/
theorem test_headers : sbCmd 0x10500008 = 0x10 ∧ sbAlive 0x10500008 = 5 ∧ sbLen 0x10500008 = 0 ∧ sbAddr 0x10500008 = 8 ∧
    sbCmd 0x20600000 = 0x20 ∧ sbAlive 0x20600000 = 6 ∧ sbAddr 0x20600000 = 0 := by decide

/-- TILE_POWER on of tile 7 by mailbox 5 after mailbox 2 won (the worked example of 16_mailboxes_and_commands.md): a stale generation. -/
theorem test_stale_power : after (.tilePowerOn 5)
    (let s := tileIn served 7 .fetch fun y => { y with ctl := { y.ctl with gen := 5, cause := .powerOn, prev := .off } }
     let s := asked s 5 0x203 [7, 0, 0, 0, 1, 0, 0, 0]
     { s with
       gmode := { s.gmode with loaderMb := 5 }
       mbs := s.mbs.set 5 { s.mb 5 with gen := 4, tag := 0x51 } })
    (fun t => decide ((t.mb 5).compStatus = 2 ∧ (t.mb 5).compTag = 0x51 ∧ (t.mb 5).compLen = 8 ∧
      Memory.read 0 (t.mb 5).payload 4 4 = [5, 0, 0, 0] ∧ (t.mb 5).done = true ∧ (t.tile 7).ctl.gen = 5)) = true := by
  decide +kernel

/-- WRITE_ENABLE sets WEL, and a status read then drives 0x02 (R192, R193). -/
theorem test_write_enable : after (.writeEnable 5 (selOf 6)) (tileIn served 5 .run)
    (fun t => (t.tile 5).filter.wel && after (.readStatus 5 (selOf 5) 2) t fun u => decide (u.resp.data = [2, 2])) = true := by
  decide +kernel

/-- A program ANDs: 0x3F over 0x3C leaves 0x3C (the worked example of 07_filtering_and_writes.md). -/
theorem test_program_ands : after (.program 5 (selOf 2 0x10) [0x3C])
    (released (oneRegion 2 1) fun y => { y with mem := { y.mem with opens := [(0x10, 0x3F)] } })
    (fun t => decide (Sparse.get 0xFF (t.tile 5).mem.opens 0x10 = 0x3C ∧ (t.tile 5).filter.wip = true ∧
      (t.tile 5).filter.wel = false)) = true := by decide +kernel

/-- A frame of 97 bits is bad, and its command is not carried out (the worked example of 14_soffit_ports.md, step 3). -/
theorem test_partial_word : after (.sidebandBadFrame 5 { frameOf 0x20 0 [0] with bits := 97 })
    (tileIn served 5 .run fun y => { y with update := { y.update with trial := some 0 } })
    (fun t => decide ((t.tile 5).side.bad = 1 ∧ (t.tile 5).update.trial = some 0 ∧
      bitOf (t.tile 5).side.reply.status 15 = true)) = true := by decide +kernel

/-- The step takes the command at the front of the queue. -/
theorem test_step_takes_front : (match step { tileIn served 5 .run with
      pending := [.writeEnable 5 (selOf 6), .writeDisable 5 (selOf 4)] } with
    | .next t => decide (t.pending = [.writeDisable 5 (selOf 4)]) && (t.tile 5).filter.wel
    | _ => false) = true := by decide +kernel

/-! ### Further witnesses: a boundary of each clause -/

theorem test_witness_lockdown_commands : let s := asked { tileIn served 5 .run with gmode := { served.gmode with mode := .lockdown } } 0 0x203 (tileWordArg 5 0)
    Taken s 0 (0x203 * 256) ∧ Names s 0 5 ∧ lengthOf s 0 = 8 ∧ ownerOnly s 0 = true ∧ s.gmode.mode = .lockdown := by
  repeat' (first | decide | constructor)

theorem test_witness_external_power : (let s := tileIn served 5 .off fun y => { y with power := { y.power with powerCtl := true } }
      (s.tile 5).power.pgoodQ = false ∧ (s.tile 5).ctl.pgoodCond = 0 ∧ (s.tile 5).ctl.state = .off ∧ (s.tile 5).power.powerCtl = true ∧
        fetchAllowed s 5 = true ∧ (s.tile 5).ctl.switchPending = false) ∧
    (let s := tileIn served 5 .run fun y => { y with active := { y.active with policy := 0x100#32 } }
     (s.tile 5).active.alertAction = 1 ∧ (s.tile 5).ctl.alertCond = 0 ∧ (s.tile 5).power.alertEdges.length < 63 ∧
       s.gmode.mode ≠ .lockdown) := by decide

theorem test_witness_held_claims : (let s := { inMode .gate with boot := { served.boot with heldClaim := some 7, ridgeHeld := true }
                                                                 loft := { Loft.reset with run := .bootRom } }
      s.gmode.mode = .gate ∧ s.boot.heldClaim = some 7 ∧ s.boot.ridgeHeld = true ∧ s.loft.run = .bootRom) ∧
    (let s := { inMode .await with boot := { served.boot with windowRunning := true } }
     s.gmode.mode = .await ∧ s.boot.windowRunning = true) ∧
    (let s := { loading none .claimed with loft := { Loft.reset with run := .bootRom }, fw := { FwLoad.reset with fromPurlin := true } }
     s.gmode.mode = .load ∧ s.fw.fromPurlin = true ∧ s.loft.run = .bootRom ∧ s.purlin.state = 1 ∧ s.boot.ridgeHeld = false ∧
       (s.reg 4).saturated = false ∧ s.boot.heldClaim = none) ∧
    (let s := { loading none .verified with loft := { Loft.reset with run := .released } }
     s.loft.run = .released ∧ s.gmode.mode = .load ∧ s.boot.heldClaim = none) ∧
    (let s := { coldAt .ridge with loft := { Loft.reset with run := .bootRom, onPairB := true } }
     s.loft.run = .bootRom ∧ s.loft.onPairB = true ∧ s.gmode.mode = .cold) := by decide

theorem test_witness_fw_svn_burn : let img := { imageOf 1 [] with manifest := laid 0x20 [(0x1C, leBytes 4 64)] }
    let s := asked { served with fw := { FwLoad.reset with running := some img } } 0 0x808 [1, 0, 0, 0]
    OwnerCommand s 0 (0x808 * 256) 4 ∧ s.gmode.mode ∈ [DevMode.serve, .doze, .barren] ∧ s.otp.overrides = false ∧ svnCount s 32 = 0 ∧
    s.fw.running = some img ∧ s.otp.busy = false ∧ (s.mb 0).arg 0 4 = 0 + 1 ∧ 0 + 1 ≤ mfSvn img.manifest ∧
    BurnReady s 320 (otpNormal s 320 ||| 1#32 <<< (0 % 32)) ∧ otpNormal s 320 = shadowRow s 320 := by
  repeat' (first | decide +kernel | constructor)

theorem test_witness_reload_copy : let s := maintaining { FwLoad.reset with image := some (imageOf 1 []), slot1 := some (imageOf 1 []) }
    let r := { s with loft := { Loft.reset with run := .reload } }
    r.loft.run = .reload ∧ r.fw.running = none ∧ r.fw.image.isSome = true ∧ r.fw.slot1 = some (imageOf 1 []) ∧
    r.boot.heldLockdown = none ∧ r.boot.ridgeHeld = false ∧ (r.reg 4).saturated = false ∧ thatchAt (.inr .loft) 31 = some 223 := by
  decide

theorem test_witness_doze_entry : let s := { served with gmode := { served.gmode with dozeArmed := true } }
    s.gmode.mode = .serve ∧ s.gmode.dozeArmed = true ∧ s.boot.wakeTick ≠ some s.attic.tick ∧
    (∀ x ∈ s.tiles.toList, x.ctl.state ∉ [TileState.fetch, .early, .restore] ∧ x.ctl.stage = false ∧ thatchQuiet x = true ∧
      sweepDueIn s x (msTicks s.boot.dozeHold) = false) ∧
    (let t := { s with boot := { s.boot with wakeTick := some s.attic.tick } }
     t.boot.wakeTick = some t.attic.tick) := by decide +kernel

theorem test_witness_plls : (let s := { served with attic := { served.attic with locked := 0x1F } }
      s.attic.locked.getLsbD 3 = true ∧ s.boot.vddAon = true ∧ s.boot.suppliesOk = true) ∧
    (let s := { served with attic := { served.attic with locked := 0x17 } }
     s.attic.locked.getLsbD 3 = false) := by decide

/-- The OTP programming supply in PROVISION, a supply and a monitor of another kind, each at a level it crosses to. -/
theorem test_witness_monitors : (let s := inMode .provision
      s.attic.vmon[(11 : Fin 12)] ≠ vmonLevel (vmonNominal s 11) (vmonLimits 11).1 (vmonLimits 11).2 0 s.attic.vmon[(11 : Fin 12)]) ∧
    served.gmode.mode ≠ .provision ∧ supplyMonitor 0 = true ∧
    vmonLevel (vmonNominal served 0) (vmonLimits 0).1 (vmonLimits 0).2 0 .ok = .warnLow ∧
    vmonLevel (vmonNominal served 0) (vmonLimits 0).1 (vmonLimits 0).2 811 .ok = .critical ∧
    vmonLevel (vmonNominal served 0) (vmonLimits 0).1 (vmonLimits 0).2 (vmonNominal served 0) .critical = .ok := by decide +kernel

theorem test_witness_closed_port : (let s := { served with boot := { served.boot with ridgeHeld := true } }
      ¬(s.ridge.powered = true ∧ s.boot.ridgeHeld = false)) ∧ (319 : Fin 320).val ≥ 64 ∧ (31 : Fin 320).val < 32 := by decide

theorem test_witness_journal_heads : (recording fun g => { g with started := false, journal := [(0, { seq := 9, body := waiting, mac := 0 })]
                                                                  }).gutter.journal ≠ [] ∧
    (recording fun g => { g with started := false }).gutter.overwrite = false ∧ served.purlin.state = 1 := by decide

/-! ### Witnesses: clauses on what waits, is held or fails -/

theorem test_witness_bank_states :
    (let s := asked (tileIn served 5 .run) 0 0x207 [5] 28
     OwnerTile s 0 5 (0x207 * 256) 28 ∧ (s.tile 5).switching = none ∧ (s.tile 5).ctl.state.released = true ∧
       policyWordsOk (s.mb 0) = true) ∧ (served.tile 5).ctl.state.released = false := by
  repeat' (first | decide | constructor)

set_option maxRecDepth 20000 in
theorem test_witness_filter_bank : let s := asked (tileIn served 5 .early) 0 0x208 [5] 0x40C
    OwnerTile s 0 5 (0x208 * 256) 0x40C ∧ (s.tile 5).switching = none ∧ (s.tile 5).ctl.state.released = true ∧
      filterWordsOk (s.mb 0) = true := by
  repeat' (first | decide | constructor)

/-- The OTP controller closed to mailbox 0: by a re-sense, by a burn of a command it waited behind, and by L1 burned. -/
theorem test_witness_otp_closed :
    (∀ o ∈ [{ served.otp with busy := true }, { served.otp with behind := [0] }, { served.otp with lcBurned := true }],
      otpClosed { served with otp := o } 0 ≠ 0) ∧
    (∀ p ∈ [(0x603, []), (0x604, [4, 0, 0, 0]), (0x605, [0x50, 0x52, 0x4F, 0x56])],
      let s := asked (provisioning [] fun o => { o with busy := true }) 0 p.1 p.2
      rowOf (s.mb 0) = p.1 * 256 ∧ otpClosed s 0 = 1) ∧
    (∀ p ∈ [(0x606, [15, 0, 0, 0]), (0x607, [0x41, 1, 0, 0]), (0x608, [])],
      let s := asked { served with otp := { served.otp with behind := [0] } } 0 p.1 p.2
      rowOf (s.mb 0) = p.1 * 256 ∧ ownerOnly s 0 = true ∧ otpBusy s 0 = true ∧ otpClosed s 0 = 1) := by decide +kernel

theorem test_witness_held_keys :
    (∀ q ∈ [KeyReq.destroy 255, .advance 128],
      let s := { served with boot := { served.boot with ridgeHeld := true }, keys := { served.keys with held := [q] } }
      s.boot.ridgeHeld = true ∧ s.keys.held = [q] ∧ s.ridge.held = []) ∧
    (let s := asked { served with boot := { served.boot with ridgeHeld := true } } 0 0x106 [0x44, 0x50, 0x4F, 0x54]
     rowOf (s.mb 0) = 0x106 * 256 ∧ lengthOf s 0 = 4 ∧ isOwner s 0 = true ∧ answer s 0x106 = .take ∧
       (s.mb 0).bytes 0 4 = ascii "DPOT" ∧ otpBusy s 0 = false ∧ s.boot.ridgeHeld = true) := by decide +kernel

/-- The reload of an image one of whose blocks does not match its leaf: whichever digest the block has, one of two leaves differs from
it. -/
theorem test_witness_reload_block (d : List Byte) : ∃ nodes l, leafEntry nodes 0 = some l ∧ 0 < blockCount (imageOf 1 nodes).manifest ∧
    Config.sha384 (d.take (blockLen (imageOf 1 nodes).manifest 0)) ≠ l := by
  have m : ∀ nodes, (imageOf 1 nodes).manifest = (imageOf 1 []).manifest := fun _ => rfl
  have a : leafEntry [(nodeKey 1 0, [0])] 0 = some 0 := by decide +kernel
  have b : leafEntry [(nodeKey 1 0, [1])] 0 = some 1 := by decide +kernel
  have n : 0 < blockCount (imageOf 1 []).manifest := by decide +kernel
  by_cases h : Config.sha384 (d.take (blockLen (imageOf 1 []).manifest 0)) = 0
  · exact ⟨_, 1, b, m _ ▸ n, by rw [m, h]; decide⟩
  · exact ⟨_, 0, a, m _ ▸ n, by rw [m]; exact h⟩

/-- A poll that reads ready where bit 0 of the byte is 0. -/
def pollWith (ctl : Nat) : BitVec 128 := entryWith (0x800000 + ctl) 1 ||| (1#128 <<< 96)

theorem test_witness_port_polls : entryValid 5 (pollWith 0) = true ∧ entryPoll (pollWith 0) = true ∧ entryCont (pollWith 0) = false ∧
    ((([0] : List Byte).headD 0).toNat &&& entryField (pollWith 0) 3 7 0 = entryField (pollWith 0) 3 15 8) ∧
    ((([1] : List Byte).headD 0).toNat &&& entryField (pollWith 0) 3 7 0 ≠ entryField (pollWith 0) 3 15 8) ∧
    entryFlags (pollWith 0x2000000) = true ∧ entryValid 5 (pollWith 0x2000000) = true ∧
    (let e := entryWith 0x400000 1
     let v := ((queued e .ruled).modTile 5 fun y => { y with eave := { y.eave with queue := y.eave.queue ++ [(entryWith 0 1, .ruled)] } }).tile 5
     entryCont e = true ∧ (∃ q ∈ v.eave.queue.erase (e, .ruled), entryTwin q.1 = entryTwin e)) := by decide +kernel

/-- A program that the gate queues, before the queued entries of a lower kind and after those of its own; an entry in another form. -/
theorem test_witness_port_order : let q : QueuedEntry := { words := entryWith 0x100000 1 ||| 0x40000#128, work := .ruled, who := 0, data := [7] }
    let s := served.modTile 5 fun y => { y with eave := { y.eave with queue := [(entryWith 0 1, .ruled), (entryWith 0 1, .sweep)] } }
    let v := (s.tile 5).eave
    entryModifies q.words = true ∧ entryPoll q.words = false ∧ v.queue.length ≤ 30 ∧
    formOk (flashDisc (s.tile 5) (entryTwin q.words)) q.words q.work = true ∧
    (v.queue.drop v.settled).head? = some (entryWith 0 1, .sweep) ∧ workRank q.work < workRank .sweep ∧
    (∀ p ∈ (v.queue.take v.settled).getLast?, entryBound (some p) (entryWith 0 1, .sweep) = false) ∧
    (let w := ((queued (entryWith 0 1) .ruled).tile 5).eave
     ∀ p ∈ w.queue, workRank p.2 ≤ workRank q.work) ∧
    formOk (flashDisc (s.tile 5) false) (entryWith 0x1000000 1) .walker = false := by decide +kernel

theorem test_witness_purlin_waits :
    (let s := { served with purlin := { served.purlin with disc := some (found 0), busy := true, cfg := 0xB } }
     s.purlin.miss = none ∧ 0xFFFF00 + 64 ≤ mapSize s ∧ s.purlin.busy = true ∧ bitOf s.purlin.cfg 2 = false) ∧
    (let s := { served with purlin := { (served.purlin.setQueue 2 [pollWith 0]) with
        disc := some (found 0), busy := true, miss := some (0xFFFF00, 64), ranges := [(2, 0, 1)] } }
     s.purlin.miss = some (0xFFFF00, 64) ∧ 0xFFFF00 + 64 ≤ mapSize s ∧ s.purlin.busy = true ∧
       (∀ k, k < 4 → s.purlin.queueOf k = if k = 2 then [pollWith 0] else []) ∧ s.purlin.chain = none ∧
       (∀ r ∈ s.purlin.ranges, r.1 = 2) ∧ entryValid 32 (pollWith 0) = true ∧ s.attic.clocksHeld.getLsbD 2 = false) ∧
    (let s := { served with purlin := (served.purlin.setQueue 0 [entryWith 0x400000 1, entryWith 0 1]) }
     1 < (s.purlin.queueOf 0).length ∧ entryCont (entryWith 0x400000 1) = true) := by decide +kernel

/-- A unit in repair whose one level-1 node does not match its parent: whichever digest it has, one of two parents differs from it. -/
theorem test_witness_repair_nodes (nd : List Byte) : ∃ p : Digest, Config.sha384 nd ≠ p := by
  by_cases h : Config.sha384 nd = 0
  · exact ⟨1, by rw [h]; decide⟩
  · exact ⟨0, h⟩

theorem test_witness_repair_unit : let r : Repair := { twin := true, addr := 0x30000, tries := 2, begun := true }
    let s := { (serving 1 fun y => { y with sweep := { y.sweep with repairs := [r] } }) with memctl := { served.memctl with channelUp := 0xFF } }
    s.memctl.channelUp = BitVec.allOnes 8 ∧
      unitVerified (s.tile 5) 0 (eraseUnitOf (flashDisc (s.tile 5) true)) = true ∧
      unitNodes (s.tile 5) 0 (eraseUnitOf (flashDisc (s.tile 5) true)) = [] ∧ anyWaits s = false := by decide +kernel

theorem test_witness_scrub_faults :
    (let f : LineFault := { sram := false, loc := 0, contents := 0, line := 9, tile := 5, block := 0, symbols := 4, hard := false, mis := true
                            unit := 63, data := List.replicate 64 0, other := [], runs := [] }
     f.mis = true ∧ f.contents = 0 ∧ f.unit < 64 ∧ fusedOff served 5 = false) ∧
    (let f : LineFault := { sram := true, loc := 0, contents := 12, line := 9, tile := 32, block := 0, symbols := 2, hard := true, mis := false
                            unit := 0, data := [], other := [], runs := [] }
     f.mis = false ∧ f.sram = true ∧ f.symbols = 2) ∧
    (let s := fetching 8 fun v => { v with manifest := (imageOf 1 []).manifest, verified := [0] }
     0 < blockCount (s.tile 5).verify.manifest ∧ (s.tile 5).ctl.state = .fetch ∧ (s.tile 5).verify.phase = 8 ∧
       0 ∈ (s.tile 5).verify.verified) ∧
    (let s := { inMode .doze with attic := { served.attic with tick := 40 }, memctl := { served.memctl with memTick := some 20 } }
     ∃ k, s.memctl.memTick = some k ∧ since s k < msTicks 1) ∧
    (let s := { inMode .doze with attic := { served.attic with tick := 80 }, memctl := { served.memctl with memTick := some 20 } }
     ∀ k ∈ s.memctl.memTick, msTicks 1 ≤ since s k) := by decide +kernel

theorem test_witness_discovery_busy : let s := (fetching 1).modTile 5 fun y => { y with eave := { y.eave with twinWork := some .sweep } }
    (s.tile 5).ctl.state = .fetch ∧ (s.tile 5).verify.phase = 1 ∧ fetchAllowed s 5 = true ∧
      ¬((s.tile 5).eave.mainWork = none ∧ (s.tile 5).eave.twinWork = none) ∧
      ((fetching 1).tile 5).eave.mainWork = none ∧ ((fetching 1).tile 5).eave.twinWork = none := by decide +kernel

theorem test_witness_fm_doe : (multi 2).host.mld = true ∧ (multi 2).host.fmBusy = false ∧ served.host.mld = false ∧
    (let a : WriteResult := { ok := true, differed := 2, unit := 0 }
     let b : WriteResult := { ok := false, differed := 3, unit := 0 }
     a.ok = true ∧ b.ok = false) := by decide

end Sys2Proof.Tests
end

section
/-! SUPPORT. The state before VDD_AON is applied (R15): what its vectors hold at every place, and the canonical form of its stores. -/

namespace Sys2Proof.Machine

open Sys2Proof

@[simp] theorem State.reset_tile (x : TileId) : State.reset.tile x = .reset := by simp [State.tile, State.reset]
@[simp] theorem State.reset_reg (r : Fin 320) : State.reset.reg r = .reset := by simp [State.reg, State.reset, Ridge.reset]
@[simp] theorem State.reset_slot (i : Fin 256) : State.reset.slot i = .reset := by simp [State.slot, State.reset, Keys.reset]
@[simp] theorem State.reset_mb (h : LdId) : State.reset.mb h = .reset := by simp [State.mb, State.reset]
@[simp] theorem State.reset_fn (f : LdId) : State.reset.fn f = .reset := by simp [State.fn, State.reset]

/-- A store that is canonical from an index is canonical from every lower one. -/
theorem Sparse.wfFrom_of_le {w : Nat} (d : BitVec w) (m : List (Nat × BitVec w)) {lo hi : Nat} (le : lo ≤ hi)
    (h : Sparse.wfFrom d hi m = true) : Sparse.wfFrom d lo m = true := by
  cases m with
  | nil => rfl
  | cons c m =>
    simp only [Sparse.wfFrom, Bool.and_eq_true, decide_eq_true_eq] at h ⊢
    obtain ⟨⟨hk, hv⟩, hm⟩ := h
    exact ⟨⟨Nat.le_trans le hk, hv⟩, hm⟩

/-- Rows of rising index, without those that read as the default, may stand before a canonical store that begins after them. -/
theorem Sparse.wfFrom_nonDefault_append {w : Nat} (d : BitVec w) (m rest : List (Nat × BitVec w)) (lo hi : Nat)
    (rising : (m.map (·.1)).Pairwise (· < ·)) (low : ∀ c ∈ m, lo ≤ c.1) (high : ∀ c ∈ m, c.1 < hi) (le : lo ≤ hi)
    (h : Sparse.wfFrom d hi rest = true) : Sparse.wfFrom d lo (m.filter (fun c => decide (c.2 ≠ d)) ++ rest) = true := by
  induction m generalizing lo with
  | nil => exact Sparse.wfFrom_of_le d rest le h
  | cons c m ih =>
    simp only [List.map_cons, List.pairwise_cons, List.mem_map, List.forall_mem_cons] at rising low high
    have tail := ih (c.1 + 1) rising.2 (fun b hb => rising.1 b.1 ⟨b, hb, rfl⟩) high.2 high.1
    by_cases e : c.2 = d
    · simpa [e] using Sparse.wfFrom_of_le d _ (by omega) tail
    · simpa [e, Sparse.wfFrom, low.1] using tail

/-- The array as shipped is canonical, whatever the digest of the FEATURE region is (R318). -/
theorem shippedRows_wf : Sparse.wfFrom (0 : Word) 0 Otp.shippedRows = true := by
  have digest := Sparse.wfFrom_nonDefault_append (0 : Word)
    ([322, 323, 324, 325].map fun r => (r, (Config.sha384 (List.replicate 16 0) >>> (32 * (r - 322))).setWidth 32))
    [(362, 0xF#32)] 1 362 (by simp) (by simp) (by simp) (by decide) (by decide)
  simpa [Otp.shippedRows, Sparse.wfFrom] using digest

theorem State.reset_canonical : Canonical State.reset where
  normal := shippedRows_wf
  strict := shippedRows_wf
  shadow := rfl
  purlin := rfl
  push := rfl
  copy x := by rw [State.reset_tile]; rfl
  opens x := by rw [State.reset_tile]; rfl
  staging x := by rw [State.reset_tile]; rfl
  buffer x := by rw [State.reset_tile]; rfl
  port x := by rw [State.reset_tile]; rfl
  own := rfl
  payload h := by rw [State.reset_mb]; rfl
  routes f := by rw [State.reset_fn]; rfl
  message f := by rw [State.reset_fn]; rfl

/-- Settles O4: every vector of the reset state holds its part's reset value at every place. -/
theorem resetState : Obligations.ResetState := by
  unfold Obligations.ResetState
  refine ⟨rfl, rfl, rfl, rfl, rfl, fun x => ?_, fun r => ?_, rfl, fun i => ?_, rfl, fun i => ?_, fun i => ?_, rfl, rfl,
    fun h => ?_, rfl, rfl, rfl, rfl, State.reset_canonical, fun x => ?_⟩
  · rw [State.reset_tile]
    exact ⟨rfl, rfl, rfl, rfl, rfl, rfl, rfl, rfl, rfl⟩
  · rw [State.reset_reg]
    exact ⟨rfl, rfl⟩
  · rw [State.reset_slot]; rfl
  · simp [State.reset, Engines.reset]
  · simp [State.reset, Engines.reset]
  · rw [State.reset_mb, State.reset_fn]
    exact ⟨rfl, rfl, rfl, rfl⟩
  · rw [State.reset_tile]; rfl

end Sys2Proof.Machine
end

section
/-! SUPPORT. Frames of one update each, and what the order of a cycle's raises (R467) leaves of a frame and of a record raised. -/

namespace Sys2Proof.Machine

open Sys2Proof

theorem Only.modTile (s : State) (x : TileId) (f : Tile → Tile) : Only [.tiles] s (s.modTile x f) :=
  { Only.refl [.tiles] s with tiles := fun n => absurd (List.mem_singleton_self _) n }

theorem Only.respond (s : State) (data : List Byte) (code : Nat) : Only [.resp] s (s.respond data code) :=
  { Only.refl [.resp] s with resp := fun n => absurd (List.mem_singleton_self _) n }

theorem sortRaises_frame (s t : State) : EventFrame t (sortRaises s t) := gutter_frame t _

theorem Only.sortRaises {ps : List Part} {s t : State} (h : Only ps s t) (b : State) (m : .events ∈ ps) :
    Only ps s (sortRaises b t) :=
  h.trans ((sortRaises_frame b t).only.mono (by simpa using m))

theorem sortRaises_quiet (s t : State) (q : t.gutter.queue = s.gutter.queue) : sortRaises s t = t :=
  sortRaises_of_le s t (by simp [q])

/-- A command that raises nothing answers the state it came to. -/
theorem inOneCycle_quiet (s t : State) (q : t.gutter.queue = s.gutter.queue) : inOneCycle s (.next t) = .next t :=
  congrArg _ (sortRaises_quiet s t q)

/-- A source raised in a state whose queue is that of `s` is logged since `s`. -/
theorem raiseT_logged {s t : State} (x : TileId) (k : Nat) (p : Payload) (on : fusedOff t x = false)
    (q : t.gutter.queue = s.gutter.queue) : Logged s (raiseT t x k p) (x.val * 14 + k) := by
  intro room
  rw [raiseT, if_neg (by simp [on]), raise_queue _ _ _ _ (by rw [q]; omega), q, List.drop_left]
  exact ⟨_, List.mem_singleton_self _, rfl⟩

/-- Sorting the raises of a cycle keeps a record logged. -/
theorem Logged.sortRaises {s t : State} {src : Nat} (h : Logged s t src) : Logged s (sortRaises s t) src := by
  intro room
  obtain ⟨w, hw, e⟩ := h room
  have long : s.gutter.queue.length < t.gutter.queue.length := by
    have := List.length_pos_of_mem hw
    rw [List.length_drop] at this
    omega
  refine ⟨w, ?_, e⟩
  have sorted := (foldl_insertRaise_perm (t.gutter.queue.drop s.gutter.queue.length) []).mem_iff (a := w)
  change w ∈ (t.gutter.queue.take s.gutter.queue.length ++ _).drop s.gutter.queue.length
  rw [List.drop_left' (by rw [List.length_take]; omega), sorted]
  simpa using hw

end Sys2Proof.Machine
end

section
/-! SUPPORT. The emulated registers of one tile under an update, and what the hold-offs of filter events touch (R212). -/

namespace Sys2Proof.Machine

open Sys2Proof

@[simp] theorem State.tile_modFilter (s : State) (x : TileId) (f : TileFilter → TileFilter) :
    (s.modFilter x f).tile x = { s.tile x with filter := f (s.tile x).filter } := State.tile_modTile s x _

theorem State.tile_modFilter_ne (s : State) (f : TileFilter → TileFilter) (x u : TileId) (n : u ≠ x) :
    (s.modFilter x f).tile u = s.tile u := State.tile_modTile_ne s _ x u n.symm

theorem State.modFilter_modFilter (s : State) (x : TileId) (f g : TileFilter → TileFilter) :
    (s.modFilter x f).modFilter x g = s.modFilter x fun r => g (f r) := by
  simp [State.modFilter, State.modTile, State.tile]

theorem Only.modFilter (s : State) (x : TileId) (f : TileFilter → TileFilter) : Only [.tiles] s (s.modFilter x f) :=
  Only.modTile s x _

theorem modFilter_respond_only (s : State) (x : TileId) (f : TileFilter → TileFilter) (data : List Byte) (code : Nat) :
    Only [.tiles, .resp] s ((s.modFilter x f).respond data code) :=
  ((Only.modFilter s x f).mono (by simp)).trans ((Only.respond _ data code).mono (by simp))

/-- Of tile `x` the hold-offs may differ, and beside it the recorder and what its records touch; nothing else does. -/
structure HoldoffFrame (x : TileId) (s t : State) : Prop where
  tile   : t.tile x = { s.tile x with filter := { (s.tile x).filter with holdoffs := (t.tile x).filter.holdoffs } }
  others : ∀ u, u ≠ x → t.tile u = s.tile u
  only   : Only [.tiles, .events] s t

theorem HoldoffFrame.event {x : TileId} {s t u : State} (h : HoldoffFrame x s t) (e : EventFrame t u) : HoldoffFrame x s u where
  tile := by rw [e.tile]; exact h.tile
  others v n := (e.tile v).trans (h.others v n)
  only := h.only.trans (e.only.mono (by simp))

theorem modHoldoffs_frame (s : State) (x : TileId) (f : List Holdoff → List Holdoff) :
    HoldoffFrame x s (s.modFilter x fun r => { r with holdoffs := f r.holdoffs }) where
  tile := by simp
  others u n := State.tile_modFilter_ne s _ x u n
  only := (Only.modFilter s x _).mono (by simp)

theorem holdGate_frame (s : State) (x : TileId) (key : Nat) : HoldoffFrame x s (holdGate s x key).1 := by
  have put : ∀ e : Holdoff, HoldoffFrame x s (s.modFilter x fun r =>
      { r with holdoffs := e :: r.holdoffs.filter fun h => decide (h.key ≠ key) }) :=
    fun e => modHoldoffs_frame s x fun l => e :: l.filter fun h => decide (h.key ≠ key)
  unfold holdGate
  dsimp only
  split
  · exact put _
  · split
    · exact put _
    · exact put _

@[simp] theorem holdGate_gutter (s : State) (x : TileId) (key : Nat) : (holdGate s x key).1.gutter = s.gutter := by
  unfold holdGate
  dsimp only
  split
  · rfl
  · split <;> rfl

@[simp] theorem holdGate_fusedOff (s : State) (x u : TileId) (key : Nat) :
    fusedOff (holdGate s x key).1 u = fusedOff s u := by
  rw [fusedOff, (holdGate_frame s x key).only.otp (by simp), fusedOff]

/-- The first event of a key is not held back. -/
theorem holdGate_first (s : State) (x : TileId) (key : Nat) (n : ∀ h ∈ (s.tile x).filter.holdoffs, h.key ≠ key) :
    (holdGate s x key).2 = some 0 := by
  have none_found : (s.tile x).filter.holdoffs.find? (fun h => decide (h.key = key)) = none := by
    simpa using n
  unfold holdGate
  dsimp only
  rw [none_found]

/-! ### EVT_FILTER_DENY and EVT_FRAME_BAD -/

/-- A denial counted in the registers (R213). -/
def TileFilter.countDenial (f : TileFilter) : TileFilter := { f with denyCount := satInc 0xFF f.denyCount }

/-- A denial is counted; then its event is held back, or raised with the count held back before. -/
theorem denyRaise_eq (s : State) (x : TileId) (sel : Sel) (reason region addr len : Nat) :
    ∃ p : Payload, denyRaise s x sel reason region addr len =
      let g := holdGate (s.modFilter x TileFilter.countDenial) x reason
      g.2.elim (g.1, false) fun _ => (raiseT g.1 x 4 p, true) := by
  unfold denyRaise
  dsimp only
  split
  next e => exact ⟨0, by rw [show holdGate (s.modFilter x TileFilter.countDenial) x reason = (_, none) from e]; rfl⟩
  next e => exact ⟨_, by rw [show holdGate (s.modFilter x TileFilter.countDenial) x reason = (_, some _) from e]; rfl⟩

theorem denyRaise_frame (s : State) (x : TileId) (sel : Sel) (reason region addr len : Nat) :
    HoldoffFrame x (s.modFilter x TileFilter.countDenial) (denyRaise s x sel reason region addr len).1 := by
  have gate := holdGate_frame (s.modFilter x TileFilter.countDenial) x reason
  obtain ⟨p, e⟩ := denyRaise_eq s x sel reason region addr len
  rw [e]
  dsimp only
  cases (holdGate (s.modFilter x TileFilter.countDenial) x reason).2 with
  | none => exact gate
  | some held => exact gate.event (raiseT_frame _ _ _ _)

/-- A denial whose reason has no hold-off running raises its event. -/
theorem denyRaise_first (s : State) (x : TileId) (sel : Sel) (reason region addr len : Nat) (on : fusedOff s x = false)
    (n : ∀ h ∈ (s.tile x).filter.holdoffs, h.key ≠ reason) :
    (denyRaise s x sel reason region addr len).2 = true ∧
      Logged s (denyRaise s x sel reason region addr len).1 (x.val * 14 + 4) := by
  obtain ⟨p, e⟩ := denyRaise_eq s x sel reason region addr len
  rw [e]
  dsimp only
  rw [holdGate_first (s.modFilter x TileFilter.countDenial) x reason (by rw [State.tile_modFilter]; exact n)]
  exact ⟨rfl, raiseT_logged x 4 _ (by rw [holdGate_fusedOff]; exact on) (by rw [holdGate_gutter]; rfl)⟩

theorem denyEvent_frame (s : State) (x : TileId) (sel : Sel) (reason region addr len : Nat) :
    HoldoffFrame x (s.modFilter x TileFilter.countDenial) (denyEvent s x sel reason region addr len) :=
  denyRaise_frame s x sel reason region addr len

theorem frameBadEvent_eq (s : State) (x : TileId) (select reason mode edges first words crc : Nat) :
    ∃ p : Payload, frameBadEvent s x select reason mode edges first words crc =
      let g := holdGate s x (0x100 * (1 + select) + reason)
      g.2.elim g.1 fun _ => raiseT g.1 x 7 p := by
  unfold frameBadEvent
  dsimp only
  split
  next e => exact ⟨0, by rw [e]; rfl⟩
  next e => exact ⟨_, by rw [e]; rfl⟩

theorem frameBadEvent_frame (s : State) (x : TileId) (select reason mode edges first words crc : Nat) :
    HoldoffFrame x s (frameBadEvent s x select reason mode edges first words crc) := by
  have gate := holdGate_frame s x (0x100 * (1 + select) + reason)
  obtain ⟨p, e⟩ := frameBadEvent_eq s x select reason mode edges first words crc
  rw [e]
  dsimp only
  cases (holdGate s x (0x100 * (1 + select) + reason)).2 with
  | none => exact gate
  | some held => exact gate.event (raiseT_frame _ _ _ _)

/-- A select discarded for a reason with no hold-off running raises its event. -/
theorem frameBadEvent_logged {s t : State} (x : TileId) (select reason mode edges first words crc : Nat)
    (on : fusedOff t x = false) (n : ∀ h ∈ (t.tile x).filter.holdoffs, h.key ≠ 0x100 * (1 + select) + reason)
    (q : t.gutter.queue = s.gutter.queue) :
    Logged s (frameBadEvent t x select reason mode edges first words crc) (x.val * 14 + 7) := by
  obtain ⟨p, e⟩ := frameBadEvent_eq t x select reason mode edges first words crc
  rw [e]
  dsimp only
  rw [holdGate_first t x _ n]
  exact raiseT_logged x 7 _ (by rw [holdGate_fusedOff]; exact on) (by rw [holdGate_gutter]; exact q)

end Sys2Proof.Machine
end

section
/-! SUPPORT. Selects of CS_FLASH_N (R72, R188 to R190): what each case of a select answers. -/

namespace Sys2Proof.Machine

open Sys2Proof

/-- Of tile `x` the emulated registers alone differ, being `g` but for the hold-offs; beside the tile only the recorder, what its
records touch, and the response differ. -/
structure RegsFrame (x : TileId) (g : TileFilter) (s t : State) : Prop where
  tile   : t.tile x = { s.tile x with filter := { g with holdoffs := (t.tile x).filter.holdoffs } }
  others : ∀ u, u ≠ x → t.tile u = s.tile u
  only   : Only [.tiles, .events, .resp] s t

namespace RegsFrame

variable {x : TileId} {g : TileFilter} {s t : State}

/-- An update of the registers, then events. -/
theorem of_holdoff (f : TileFilter → TileFilter) (h : HoldoffFrame x (s.modFilter x f) t) :
    RegsFrame x (f (s.tile x).filter) s t where
  tile := h.tile.trans (by rw [State.tile_modFilter])
  others u n := (h.others u n).trans (State.tile_modFilter_ne s f x u n)
  only := ((Only.modFilter s x f).mono (by simp)).trans (h.only.mono (by simp))

/-- A further update of registers other than the hold-offs. -/
theorem modFilter (h : RegsFrame x g s t) (f : TileFilter → TileFilter)
    (keeps : ∀ l, f { g with holdoffs := l } = { f g with holdoffs := l }) : RegsFrame x (f g) s (t.modFilter x f) where
  tile := by
    rw [State.tile_modFilter, h.tile]
    dsimp only
    rw [keeps]
  others u n := (State.tile_modFilter_ne t f x u n).trans (h.others u n)
  only := h.only.trans ((Only.modFilter t x f).mono (by simp))

theorem respond (h : RegsFrame x g s t) (data : List Byte) (code : Nat) : RegsFrame x g s (t.respond data code) where
  tile := h.tile
  others := h.others
  only := h.only.trans ((Only.respond t data code).mono (by simp))

theorem sortRaises (h : RegsFrame x g s t) (b : State) : RegsFrame x g s (sortRaises b t) where
  tile := h.tile
  others := h.others
  only := h.only.sortRaises b (by simp)

theorem filter (h : RegsFrame x g s t) : (t.tile x).filter = { g with holdoffs := (t.tile x).filter.holdoffs } := by
  rw [h.tile]

theorem mem (h : RegsFrame x g s t) : (t.tile x).mem = (s.tile x).mem := by rw [h.tile]
theorem ctl (h : RegsFrame x g s t) : (t.tile x).ctl = (s.tile x).ctl := by rw [h.tile]
theorem power (h : RegsFrame x g s t) : (t.tile x).power = (s.tile x).power := by rw [h.tile]

end RegsFrame

/-- RESET is disarmed (R192). -/
def TileFilter.disarm (f : TileFilter) : TileFilter := { f with resetArmed := false }

/-- A command of entry `e` is accepted (R189, R192). -/
def TileFilter.accept (e : Word) (f : TileFilter) : TileFilter := { f.disarm with wel := f.wel && !optWel e }

/-- A select ignored for want of WEL (R190). -/
def TileFilter.countNoWel (f : TileFilter) : TileFilter := { f.disarm with noWel := satInc 0xFF f.noWel }

/-- A select ignored while WIP is 1 (R190). -/
def TileFilter.countBusy (f : TileFilter) : TileFilter := { f.disarm with busyIgn := satInc 0xFF f.busyIgn }

section
variable {s : State} {x : TileId} {sel : Sel} (kind : Word → Bool) (body : State → Word → Bool → State)

theorem onSelect_fusedOff (off : fusedOff s x = true) : onSelect s x sel kind body = .next (s.respond [] 1) := by
  have case : selCase s x sel = .silent := by simp [selCase, off]
  unfold onSelect
  rw [case]
  exact inOneCycle_quiet s _ rfl

theorem onSelect_denied {r : Nat} (case : selCase s x sel = .denied r) :
    onSelect s x sel kind body = .next (sortRaises s (denySelect (s.modFilter x TileFilter.disarm) x sel r)) := by
  unfold onSelect
  rw [case]
  rfl

theorem onSelect_noWel (case : selCase s x sel = .noWel) :
    onSelect s x sel kind body =
      .next ((s.modFilter x TileFilter.countNoWel).respond [] 1) := by
  unfold onSelect
  rw [case]
  dsimp only
  rw [State.modFilter_modFilter]
  exact inOneCycle_quiet s _ rfl

theorem onSelect_busy (case : selCase s x sel = .busy) :
    onSelect s x sel kind body =
      .next ((s.modFilter x TileFilter.countBusy).respond [] 1) := by
  unfold onSelect
  rw [case]
  dsimp only
  rw [State.modFilter_modFilter]
  exact inOneCycle_quiet s _ rfl

theorem onSelect_carried {e : Word} (case : selCase s x sel = .carried e) (k : kind e = true) :
    onSelect s x sel kind body =
      .next (sortRaises s (body (s.modFilter x TileFilter.disarm) e (s.tile x).filter.resetArmed)) := by
  unfold onSelect
  rw [case]
  dsimp only
  rw [if_pos k]
  rfl

/-- A select carried out that updates emulated registers and drives bytes. -/
theorem onSelect_registers {e : Word} (case : selCase s x sel = .carried e) (k : kind e = true)
    (f : TileFilter → TileFilter) (data : List Byte)
    (h : body (s.modFilter x TileFilter.disarm) e (s.tile x).filter.resetArmed = (s.modFilter x f).respond data 0) :
    onSelect s x sel kind body = .next ((s.modFilter x f).respond data 0) := by
  rw [onSelect_carried kind body case k, h]
  exact congrArg _ (sortRaises_quiet s _ rfl)

end

/-! ### Which case a select is -/

section
variable {s : State} {x : TileId} {sel : Sel} (on : fusedOff s x = false) (released : (s.tile x).ctl.state.released = true)
  (framed : octal (s.tile x) = true → sel.op2 = ~~~sel.op)

include on released framed

theorem selCase_denied (denies : optProto (selEntry (s.tile x) sel) (s.tile x).filter.protocol.toNat = false ∨
      optAction (selEntry (s.tile x) sel) = 0 ∨ 4 < optAction (selEntry (s.tile x) sel)) :
    ∃ r, selCase s x sel = .denied r := by
  by_cases action : optAction (selEntry (s.tile x) sel) = 0 ∨ 4 < optAction (selEntry (s.tile x) sel)
  · exact ⟨0, by simpa [selCase, on, released, action] using framed⟩
  · have proto := denies.resolve_right action
    exact ⟨1, by simpa [selCase, on, released, action, proto] using framed⟩

variable (proto : optProto (selEntry (s.tile x) sel) (s.tile x).filter.protocol.toNat = true)
  (lo : 0 < optAction (selEntry (s.tile x) sel)) (hi : optAction (selEntry (s.tile x) sel) ≤ 4)

include proto lo hi

/-- A select that no rule of R190 denies comes to the checks of WEL and of WIP. -/
theorem selCase_permitted : selCase s x sel =
    if (optWel (selEntry (s.tile x) sel) ∨ optWrites (selEntry (s.tile x) sel)) ∧ !(s.tile x).filter.wel then .noWel
    else if selBusy (s.tile x) (selEntry (s.tile x) sel) then .busy else .carried (selEntry (s.tile x) sel) := by
  have action : ¬ (optAction (selEntry (s.tile x) sel) = 0 ∨ 4 < optAction (selEntry (s.tile x) sel)) := by omega
  have whole : ¬ (octal (s.tile x) ∧ sel.op2 ≠ ~~~sel.op) := fun h => h.2 (framed h.1)
  simp only [selCase, on, released, whole, action, proto]
  simp

end

theorem Select.carried {s : State} {x : TileId} {sel : Sel} {action func : Nat} (h : Select s x sel action func)
    (lo : 0 < action) (hi : action ≤ 4) : selCase s x sel = .carried (selEntry (s.tile x) sel) := by
  rw [selCase_permitted h.inUse h.released h.framed h.proto (by rw [h.action]; exact lo) (by rw [h.action]; exact hi)]
  rw [if_neg, if_neg]
  · simp [h.busy]
  · rintro ⟨needs, clear⟩
    simp [h.wel needs] at clear

end Sys2Proof.Machine
end

section
/-! Emulated commands, and selects that are not carried out (R72, R189 to R195, R209, R363). -/

namespace Sys2Proof.Machine

open Sys2Proof

/-- An update of the emulated registers and bytes driven, and nothing else. -/
theorem selectDone_modFilter (s : State) (x : TileId) (f : TileFilter → TileFilter) (data : List Byte) :
    SelectDone s ((s.modFilter x f).respond data 0) x data (f (s.tile x).filter) where
  resp := rfl
  tile := State.tile_modFilter s x f
  others u n := State.tile_modFilter_ne s f x u n
  only := modFilter_respond_only s x f data 0

theorem emuKind_of_select {s : State} {x : TileId} {sel : Sel} {func : Nat} (h : Select s x sel 2 func) :
    emuKind func (selEntry (s.tile x) sel) = true := by simp [emuKind, h.action, h.func]

/-- An emulated command carried out updates the registers as its acceptance left them, and drives nothing (R192). -/
theorem emulate_done {s : State} {x : TileId} {sel : Sel} {func : Nat} (h : Select s x sel 2 func)
    (f : Bool → TileFilter → TileFilter) :
    ∃ t, inOneCycle s (emulate s x sel func f) = .next t ∧
      SelectDone s t x [] (f (s.tile x).filter.resetArmed (acceptedRegs (s.tile x) sel)) := by
  have run : emulate s x sel func f = .next ((s.modFilter x fun r =>
      f (s.tile x).filter.resetArmed (r.accept (selEntry (s.tile x) sel))).respond [] 0) :=
    onSelect_registers _ _ (h.carried (by decide) (by decide)) (emuKind_of_select h) _ _
      (by rw [State.modFilter_modFilter]; rfl)
  rw [run]
  exact ⟨_, inOneCycle_quiet s _ rfl, selectDone_modFilter s x _ []⟩

/-- An emulated register read drives its bytes (R193 to R195). -/
theorem emuRead_done {s : State} {x : TileId} {sel : Sel} {func : Nat} (h : Select s x sel 2 func) (n : Nat)
    (byte : Tile → Nat → Byte) :
    ∃ t, inOneCycle s (emuRead s x sel func n byte) = .next t ∧
      SelectDone s t x ((List.range n).map (byte { s.tile x with filter := (s.tile x).filter.disarm }))
        (acceptedRegs (s.tile x) sel) := by
  have run : emuRead s x sel func n byte = .next ((s.modFilter x (TileFilter.accept (selEntry (s.tile x) sel))).respond
      ((List.range n).map (byte { s.tile x with filter := (s.tile x).filter.disarm })) 0) :=
    onSelect_registers _ _ (h.carried (by decide) (by decide)) (emuKind_of_select h) _ _
      (by rw [State.modFilter_modFilter, State.tile_modFilter]; rfl)
  rw [run]
  exact ⟨_, inOneCycle_quiet s _ rfl, selectDone_modFilter s x _ _⟩

/-! ### Configuration bytes (R195) -/

/-- A byte put into a word is the one read at its place. -/
theorem byte_of_put (w : Word) (b : Byte) (sh : Nat) (le : sh + 8 ≤ 32) :
    (((w &&& ~~~((0xFF#32) <<< sh)) ||| (b.setWidth 32 <<< sh)) >>> sh).setWidth 8 = b := by
  ext i hi
  have ones : ∀ j < 8, (0xFF#32).getLsbD j = true := by decide
  have mask := ones i hi
  simp only [BitVec.getElem_setWidth, BitVec.getLsbD_ushiftRight, BitVec.getLsbD_or, BitVec.getLsbD_and, BitVec.getLsbD_not,
    BitVec.getLsbD_shiftLeft, Nat.add_sub_cancel_left, mask]
  have inWord : sh + i < 32 := by omega
  have above : ¬ sh + i < sh := Nat.not_lt.2 (Nat.le_add_right sh i)
  simp [inWord, above, show i < 32 by omega, hi]

/-- A configuration byte written within its range is read back. -/
theorem configByte_setConfig (f : TileFilter) (i : Nat) (b : Byte) (ok : configOk i b = true) :
    configByte (setConfig f i b) i = b := by
  have bound : i % 8 < 8 := Nat.mod_lt _ (by decide)
  unfold configOk at ok
  unfold configByte setConfig
  generalize i % 8 = k at ok bound ⊢
  match k, bound with
  | 0, _ =>
    have le : b.toNat ≤ 3 := by simpa using ok
    exact BitVec.eq_of_toNat_eq (by simp; omega)
  | 1, _ => rfl
  | 2, _ =>
    have le : b.toNat ≤ 1 := by simpa using ok
    have cases : b = 0 ∨ b = 1 := by bv_omega
    rcases cases with rfl | rfl <;> rfl
  | 3, _ => rfl
  | k + 4, h => exact byte_of_put _ _ _ (by omega)

/-- WRITE_CONFIG of a byte within its range. -/
theorem writeConfig_done {s : State} {x : TileId} {sel : Sel} (h : Select s x sel 2 8) (b : Byte)
    (ok : configOk sel.addr b = true) :
    ∃ t, execWriteConfig x sel [b] s = .next t ∧ SelectDone s t x [] (setConfig (acceptedRegs (s.tile x) sel) sel.addr b) :=
  ⟨_, onSelect_registers _ _ (h.carried (by decide) (by decide)) (emuKind_of_select h)
    (fun r => setConfig (r.accept (selEntry (s.tile x) sel)) sel.addr b) []
    (by simp [ok, State.modFilter_modFilter]; rfl), selectDone_modFilter s x _ []⟩

/-- A denial is raised, and the entry clears WEL where it has wel (R189, R190). -/
theorem denyEvent_accept (s : State) (x : TileId) (sel : Sel) (reason region addr len : Nat) :
    RegsFrame x (acceptedRegs (s.tile x) sel).countDenial s
      ((denyEvent (s.modFilter x TileFilter.disarm) x sel reason region addr len).modFilter x fun f =>
        { f with wel := f.wel && !optWel (selEntry (s.tile x) sel) }) := by
  have event := denyEvent_frame (s.modFilter x TileFilter.disarm) x sel reason region addr len
  rw [State.modFilter_modFilter] at event
  exact (RegsFrame.of_holdoff _ event).modFilter
    (fun f => { f with wel := f.wel && !optWel (selEntry (s.tile x) sel) }) fun _ => rfl

/-- WRITE_CONFIG of a byte out of range discards it with a denial. -/
theorem writeConfig_denied {s : State} {x : TileId} {sel : Sel} (h : Select s x sel 2 8) (b : Byte)
    (bad : configOk sel.addr b = false) :
    ∃ t, execWriteConfig x sel [b] s = .next t ∧ t.resp = { data := [], code := 0 } ∧
      RegsFrame x (acceptedRegs (s.tile x) sel).countDenial s t := by
  refine ⟨_, onSelect_carried _ _ (h.carried (by decide) (by decide)) (emuKind_of_select h), ?_, ?_⟩
  · rfl
  · refine RegsFrame.sortRaises ?_ s
    simpa [bad] using (denyEvent_accept s x sel _ _ _ _).respond [] 0

/-! ### Selects that are not carried out -/

theorem exec_opcodeDeny (s : State) (x : TileId) (sel : Sel) :
    exec (.opcodeDeny x sel) s = onSelect s x sel (fun _ => false) fun s _ _ => s := rfl

theorem exec_program (s : State) (x : TileId) (sel : Sel) (data : List Byte) :
    ∃ body, exec (.program x sel data) s = onSelect s x sel (fun e => decide (optAction e = 3)) body := by
  change ∃ body, execProgram x sel data s = _
  unfold execProgram
  exact ⟨_, rfl⟩

theorem exec_erase (s : State) (x : TileId) (sel : Sel) :
    ∃ body, exec (.erase x sel) s = onSelect s x sel (fun e => decide (optAction e = 4)) body := by
  change ∃ body, execErase x sel s = _
  unfold execErase
  exact ⟨_, rfl⟩

/-- Both platform writes are selects. -/
theorem exec_write (s : State) (x : TileId) (sel : Sel) (c : Instr) (mem : c ∈ [Instr.erase x sel, Instr.program x sel [0]]) :
    ∃ kind body, exec c s = onSelect s x sel kind body := by
  simp only [List.mem_cons, List.not_mem_nil, or_false] at mem
  obtain rfl | rfl := mem
  · exact ⟨_, exec_erase s x sel⟩
  · exact ⟨_, exec_program s x sel [0]⟩

theorem denySelect_frame (s : State) (x : TileId) (sel : Sel) (reason : Nat) :
    RegsFrame x (acceptedRegs (s.tile x) sel).countDenial s (denySelect (s.modFilter x TileFilter.disarm) x sel reason) := by
  unfold denySelect
  rw [State.tile_modFilter]
  exact (denyEvent_accept s x sel _ _ _ _).respond [] 1

/-- A broken-off select counted (R211). -/
def TileFilter.countBad (f : TileFilter) : TileFilter := { f with frameBad := satInc 0xFF f.frameBad }

/-- A discarded select is counted, raises EVT_FRAME_BAD and drives nothing. -/
theorem discardSelect_eq (s : State) (x : TileId) (sel : Sel) (reason : Nat) :
    ∃ mode first, discardSelect s x sel reason =
      (frameBadEvent (s.modFilter x TileFilter.countBad) x 0 reason mode sel.edges first 0 0).respond [] 1 := ⟨_, _, rfl⟩

theorem discardSelect_frame (s : State) (x : TileId) (sel : Sel) (reason : Nat) :
    RegsFrame x (s.tile x).filter.disarm.countBad s (discardSelect (s.modFilter x TileFilter.disarm) x sel reason) := by
  obtain ⟨mode, first, e⟩ := discardSelect_eq (s.modFilter x TileFilter.disarm) x sel reason
  rw [e, State.modFilter_modFilter]
  exact (RegsFrame.of_holdoff (fun r => r.disarm.countBad) (frameBadEvent_frame _ x 0 reason mode _ first 0 0)).respond [] 1

theorem discardSelect_logged {s : State} {x : TileId} (sel : Sel) (reason : Nat) (on : fusedOff s x = false)
    (n : ∀ h ∈ (s.tile x).filter.holdoffs, h.key ≠ 0x100 + reason) :
    Logged s (discardSelect (s.modFilter x TileFilter.disarm) x sel reason) (x.val * 14 + 7) := by
  obtain ⟨mode, first, e⟩ := discardSelect_eq (s.modFilter x TileFilter.disarm) x sel reason
  rw [e, State.modFilter_modFilter]
  exact frameBadEvent_logged (s := s) x 0 reason _ _ _ _ _ on (by rw [State.tile_modFilter]; exact n) rfl

/-! ### States that do not answer (R72) -/

/-- After the first denial of an entry to such a state a select is counted, with its hold-off, and raises nothing. -/
theorem unanswered_again {s : State} {x : TileId} (sel : Sel) (denied : (s.tile x).power.stateDenied = true) :
    ∃ k : List Holdoff → List Holdoff, unanswered s x sel =
      (s.modFilter x fun f => { f.countDenial with holdoffs := k f.holdoffs }).respond [] 1 :=
  ⟨fun l => l.map fun h : Holdoff => if h.key = 0x08 then { h with held := h.held + 1 } else h, if_pos denied⟩

/-- The first one is a denial with reason STATE. -/
theorem unanswered_first {s : State} {x : TileId} (sel : Sel) (fresh : (s.tile x).power.stateDenied = false) :
    let d := denyRaise (s.respond [] 1) x sel 0x08 0xFF 0xFFFFFFFF 0
    unanswered s x sel = d.1.modTile x fun y => { y with power := { y.power with stateDenied := d.2 } } := by
  unfold unanswered
  dsimp only
  rw [if_neg (by simp [fresh])]

/-- Its event is raised, once for each entry to such a state, where no hold-off of the reason runs. -/
theorem unanswered_reported {s : State} {x : TileId} (sel : Sel) (on : fusedOff s x = false)
    (fresh : (s.tile x).power.stateDenied = false) (n : ∀ h ∈ (s.tile x).filter.holdoffs, h.key ≠ 8) :
    ((unanswered s x sel).tile x).power = { (s.tile x).power with stateDenied := true } ∧
      Logged s (unanswered s x sel) (x.val * 14 + 4) := by
  have frame := RegsFrame.of_holdoff _ (denyRaise_frame (s.respond [] 1) x sel 0x08 0xFF 0xFFFFFFFF 0)
  obtain ⟨raised, logged⟩ := denyRaise_first (s.respond [] 1) x sel 0x08 0xFF 0xFFFFFFFF 0 on n
  rw [unanswered_first sel fresh]
  dsimp only
  rw [State.tile_modTile, raised, frame.power]
  exact ⟨rfl, logged⟩

/-- A select in a state that does not answer counts a denial and drives nothing. -/
theorem unanswered_tile (s : State) (x : TileId) (sel : Sel) :
    (unanswered s x sel).tile x = { s.tile x with
      power := ((unanswered s x sel).tile x).power
      filter := { (s.tile x).filter.countDenial with holdoffs := ((unanswered s x sel).tile x).filter.holdoffs } } ∧
    (∀ u, u ≠ x → (unanswered s x sel).tile u = s.tile u) ∧ (unanswered s x sel).resp = { data := [], code := 1 } ∧
    Only [.tiles, .events, .resp] s (unanswered s x sel) := by
  cases denied : (s.tile x).power.stateDenied with
  | true =>
    obtain ⟨k, e⟩ := unanswered_again sel denied
    rw [e]
    refine ⟨by simp, fun u n => ?_, rfl, ?_⟩
    · rw [State.respond_tile]; exact State.tile_modFilter_ne s _ x u n
    · exact (modFilter_respond_only s x _ [] 1).mono (by simp)
  | false =>
    have event := denyRaise_frame (s.respond [] 1) x sel 0x08 0xFF 0xFFFFFFFF 0
    have frame := RegsFrame.of_holdoff _ event
    rw [unanswered_first sel denied]
    refine ⟨?_, fun u n => ?_, ?_, ?_⟩
    · rw [State.tile_modTile, frame.tile]; rfl
    · rw [State.tile_modTile_ne _ _ _ _ n.symm]; exact frame.others u n
    · exact event.only.resp (by simp)
    · exact ((Only.respond s [] 1).mono (by simp)).trans (frame.only.trans ((Only.modTile _ x _).mono (by simp)))

/-! ### What the commands answer -/

theorem exec_selectUnanswered {s : State} {x : TileId} (sel : Sel) (on : fusedOff s x = false)
    (held : (s.tile x).ctl.state.released = false) :
    exec (.selectUnanswered x sel) s = .next (unanswered s x sel) :=
  (if_neg (by simp [on])).trans (if_neg (by simp [held]))

theorem selectMalformed_done {s : State} {x : TileId} (sel : Sel) (reason : Fin 5) (on : fusedOff s x = false)
    (released : (s.tile x).ctl.state.released = true) :
    ∃ t, exec (.selectMalformed x sel reason) s = .next t ∧ t.resp = { data := [], code := 1 } ∧
      RegsFrame x (s.tile x).filter.disarm.countBad s t ∧
      ((∀ h ∈ (s.tile x).filter.holdoffs, h.key ≠ 0x100 + reason.val) → Logged s t (x.val * 14 + 7)) := by
  have run : exec (.selectMalformed x sel reason) s =
      .next (sortRaises s (discardSelect (s.modFilter x TileFilter.disarm) x sel reason.val)) :=
    congrArg (inOneCycle s) ((if_neg (by simp [on])).trans (if_neg (by simp [released])))
  exact ⟨_, run, rfl, (discardSelect_frame s x sel reason.val).sortRaises s,
    fun n => (discardSelect_logged sel reason.val on n).sortRaises⟩

theorem selectOverlap_done {s : State} {x : TileId} (edges : Nat) (on : fusedOff s x = false) :
    ∃ t, exec (.selectOverlap x edges) s = .next t ∧ t.resp = { data := [], code := 1 } ∧
      RegsFrame x (s.tile x).filter.disarm s t ∧
      ((∀ h ∈ (s.tile x).filter.holdoffs, h.key ≠ 0x320) → Logged s t (x.val * 14 + 7)) := by
  have run : exec (.selectOverlap x edges) s = .next ((frameBadEvent (s.modFilter x TileFilter.disarm) x 2 0x20
      ((s.modFilter x TileFilter.disarm).tile x).filter.protocol.toNat edges 0 0 0).respond [] 1) := if_neg (by simp [on])
  refine ⟨_, run, rfl, (RegsFrame.of_holdoff TileFilter.disarm (frameBadEvent_frame _ x 2 0x20 _ edges 0 0 0)).respond [] 1,
    fun n => ?_⟩
  exact frameBadEvent_logged x 2 0x20 _ edges 0 0 0 on (by rw [State.tile_modFilter]; exact n) rfl

theorem opcodeDeny_done {s : State} {x : TileId} {sel : Sel} {r : Nat} (case : selCase s x sel = .denied r) :
    ∃ t, exec (.opcodeDeny x sel) s = .next t ∧ t.resp = { data := [], code := 1 } ∧
      RegsFrame x (acceptedRegs (s.tile x) sel).countDenial s t :=
  ⟨_, (exec_opcodeDeny s x sel).trans (onSelect_denied _ _ case), rfl, (denySelect_frame s x sel r).sortRaises s⟩

/-- A command that is ignored updates the registers of its tile and nothing else. -/
theorem ignored_done {s : State} {x : TileId} {c : Instr} (f : TileFilter → TileFilter)
    (run : exec c s = .next ((s.modFilter x f).respond [] 1)) :
    Completes c s fun t => t.tile x = { s.tile x with filter := f (s.tile x).filter } ∧ t.resp = { data := [], code := 1 } ∧
      (∀ u, u ≠ x → t.tile u = s.tile u) ∧ Only [.tiles, .resp] s t :=
  ⟨_, run, State.tile_modFilter s x f, rfl, fun u n => State.tile_modFilter_ne s f x u n, modFilter_respond_only s x f [] 1⟩

end Sys2Proof.Machine
end

section
/-! The statement on emulated commands and selects not carried out. -/

namespace Sys2Proof.Machine

open Sys2Proof

/-- Settles O44: an emulated command carried out is one update of the emulated registers, and a select not carried out leaves
everything but its counters, its event and WEL. -/
theorem selectsOfEmulatedCommands : Obligations.SelectsOfEmulatedCommands := by
  unfold Obligations.SelectsOfEmulatedCommands
  refine ⟨fun s x sel => ?_, fun s x sel => ⟨fun off data => ?_, fun on held => ?_, fun on released => ?_⟩⟩
  · refine ⟨fun h => emulate_done h _, fun h => emulate_done h _, fun h => emulate_done h _, fun b rest h => emulate_done h _,
      fun h => emulate_done h _, fun h => emulate_done h _, fun h => emulate_done h _, fun h => ?_,
      fun h => emulate_done h _, fun h => emulate_done h _, fun h => emulate_done h _, fun n h => emuRead_done h n _,
      fun n h => ?_, fun n h => ?_, fun n h => emuRead_done h n _, fun b h => ⟨fun ok => ?_, fun bad => ?_⟩⟩
    · have reset := emulate_done h fun armed f =>
        if armed then { f with wel := false, protocol := 0, octalDummy := 0, addr4 := false, wrap := 0, spare := 0 } else f
      exact ⟨fun armed => by rw [armed] at reset; exact reset, fun idle => by rw [idle] at reset; exact reset⟩
    · have read := emuRead_done h n fun y _ => emuStatus y.filter
      rw [List.map_const', List.length_range] at read
      exact read
    · have read := emuRead_done h n fun y _ => emuFlag y.filter
      rw [List.map_const', List.length_range] at read
      exact read
    · obtain ⟨t, run, done⟩ := writeConfig_done h b ok
      exact ⟨t, run, done, by rw [done.tile]; exact configByte_setConfig _ _ b ok⟩
    · obtain ⟨t, run, resp, frame⟩ := writeConfig_denied h b bad
      exact ⟨t, run, resp, fun i => by rw [frame.filter]; rfl, by rw [frame.filter]; rfl, by rw [frame.filter]; rfl,
        frame.others, frame.only⟩
  · obtain ⟨body, program⟩ := exec_program s x sel data
    exact ⟨⟨_, program.trans (onSelect_fusedOff _ _ off), rfl⟩, ⟨_, if_pos off, rfl⟩⟩
  · obtain ⟨tile, others, resp, only⟩ := unanswered_tile s x sel
    refine ⟨_, exec_selectUnanswered sel on held, resp, by rw [tile]; rfl, fun denied => ?_, fun fresh first => ?_,
      by rw [tile], by rw [tile], by rw [tile]; rfl, others, only⟩
    · obtain ⟨k, e⟩ := unanswered_again sel denied
      rw [e]
      exact ⟨by simp, modFilter_respond_only s x _ [] 1⟩
    · exact unanswered_reported sel on fresh first
  · refine ⟨fun reason => ?_, fun edges => ?_, fun framed => ⟨fun denies => ?_, fun proto lo hi c mem => ⟨fun needs clear => ?_,
      fun set busy => ?_⟩⟩⟩
    · obtain ⟨t, run, resp, frame, logged⟩ := selectMalformed_done sel reason on released
      exact ⟨t, run, resp, by rw [frame.filter]; rfl, by rw [frame.filter]; rfl, frame.mem, frame.ctl, logged, frame.others,
        frame.only⟩
    · obtain ⟨t, run, resp, frame, logged⟩ := selectOverlap_done edges on
      exact ⟨t, run, resp, by rw [frame.filter]; rfl, frame.mem, frame.ctl, logged, frame.others, frame.only⟩
    · obtain ⟨r, case⟩ := selCase_denied on released framed denies
      obtain ⟨t, run, resp, frame⟩ := opcodeDeny_done case
      exact ⟨t, run, resp, by rw [frame.filter]; rfl, by rw [frame.filter]; rfl, by rw [frame.filter]; rfl, frame.mem, frame.ctl,
        frame.others, frame.only⟩
    · obtain ⟨kind, body, run⟩ := exec_write s x sel c mem
      have case : selCase s x sel = .noWel := by
        rw [selCase_permitted on released framed proto lo hi, if_pos ⟨needs, by simp [clear]⟩]
      exact ignored_done TileFilter.countNoWel (run.trans (onSelect_noWel _ _ case))
    · obtain ⟨kind, body, run⟩ := exec_write s x sel c mem
      have case : selCase s x sel = .busy := by
        rw [selCase_permitted on released framed proto lo hi, if_neg (fun h => by simp [set h.1] at h), if_pos busy]
      exact ignored_done TileFilter.countBusy (run.trans (onSelect_busy _ _ case))

end Sys2Proof.Machine
end

section
/-! SUPPORT. Frames of the ridge registers, the recorder and the key store: what extends, records, derivations and held
requests touch. -/

namespace Sys2Proof.Machine

open Sys2Proof

theorem Only.foldl {α : Type} {ps : List Part} (f : State → α → State) (h : ∀ s a, Only ps s (f s a)) (l : List α)
    (s : State) : Only ps s (l.foldl f s) := by
  induction l generalizing s with
  | nil => exact .refl ps s
  | cons a l ih => exact (h s a).trans (ih (f s a))

theorem Only.ite {ps : List Part} {s a b : State} (c : Prop) [Decidable c] (ha : Only ps s a) (hb : Only ps s b) :
    Only ps s (if c then a else b) := by
  split
  · exact ha
  · exact hb

theorem Only.ridge_set (s : State) (r : Ridge) : Only [.ridge] s { s with ridge := r } :=
  { Only.refl [.ridge] s with ridge := fun n => absurd (List.mem_singleton_self _) n }

theorem Only.keys_set (s : State) (k : Keys) : Only [.keys] s { s with keys := k } :=
  { Only.refl [.keys] s with keys := fun n => absurd (List.mem_singleton_self _) n }

theorem Only.eng_set (s : State) (e : Engines) : Only [.eng] s { s with eng := e } :=
  { Only.refl [.eng] s with eng := fun n => absurd (List.mem_singleton_self _) n }

theorem Only.boot_set (s : State) (b : Boot) : Only [.boot] s { s with boot := b } :=
  { Only.refl [.boot] s with boot := fun n => absurd (List.mem_singleton_self _) n }

theorem Only.otp_set (s : State) (o : Otp) : Only [.otp] s { s with otp := o } :=
  { Only.refl [.otp] s with otp := fun n => absurd (List.mem_singleton_self _) n }

theorem Only.cal_set (s : State) (c : Cal) : Only [.cal] s { s with cal := c } :=
  { Only.refl [.cal] s with cal := fun n => absurd (List.mem_singleton_self _) n }

theorem Only.purlin_set (s : State) (p : Purlin) : Only [.purlin] s { s with purlin := p } :=
  { Only.refl [.purlin] s with purlin := fun n => absurd (List.mem_singleton_self _) n }

theorem Only.fresh (s : State) (n : Nat) : Only [.freeCtr] s (s.fresh n) :=
  { Only.refl [.freeCtr] s with freeCtr := fun n => absurd (List.mem_singleton_self _) n }

/-! ### Ridge registers (R241) -/

/-- An extend touches the registers and their log, and the recorder where the register is saturated. -/
theorem extendNow_parts (s : State) (r : Fin 320) (who kind : BitVec 8) (gen : Word) (d : Digest) :
    Only [.ridge, .events] s (extendNow s r who kind gen d) := by
  unfold extendNow
  dsimp only
  split
  · exact (note_frame s _ _ _ _).only.mono (by simp)
  · split <;> exact (Only.ridge_set s _).mono (by simp)

theorem extendReg_parts (s : State) (r : Fin 320) (who kind : BitVec 8) (gen : Word) (d : Digest) :
    Only [.ridge, .events] s (extendReg s r who kind gen d) :=
  .ite _ ((Only.ridge_set s _).mono (by simp)) (extendNow_parts s r who kind gen d)

@[simp] theorem extendNow_powered (s : State) (r : Fin 320) (who kind : BitVec 8) (gen : Word) (d : Digest) :
    (extendNow s r who kind gen d).ridge.powered = s.ridge.powered := by
  unfold extendNow
  dsimp only
  split
  · rw [note_ridge]
  · split <;> rfl

@[simp] theorem extendReg_powered (s : State) (r : Fin 320) (who kind : BitVec 8) (gen : Word) (d : Digest) :
    (extendReg s r who kind gen d).ridge.powered = s.ridge.powered := by
  unfold extendReg
  split
  · rfl
  · exact extendNow_powered s r who kind gen d

/-- The register extended, where the port takes requests and the register is not saturated (R241). -/
theorem extendReg_same (s : State) (r : Fin 320) (who kind : BitVec 8) (gen : Word) (d : Digest)
    (port : s.boot.ridgeHeld = false) (room : (s.reg r).saturated = false) :
    ((extendReg s r who kind gen d).reg r).value = Config.sha384 (bytesOf 48 (s.reg r).value ++ bytesOf 48 d) ∧
      ((extendReg s r who kind gen d).reg r).counter = (s.reg r).counter + 1 ∧
      ((extendReg s r who kind gen d).reg r).lastBy = who := by
  rw [extendReg, if_neg (by simp [port])]
  unfold extendNow
  dsimp only
  rw [if_neg (by simp [room])]
  split
  · change (((s.setReg r _).reg r).value = _ ∧ ((s.setReg r _).reg r).counter = _ ∧ ((s.setReg r _).reg r).lastBy = _)
    rw [State.reg_setReg]
    exact ⟨rfl, rfl, rfl⟩
  · rw [State.reg_setReg]
    exact ⟨rfl, rfl, rfl⟩

/-! ### The mode of the ring (R468) -/

/-- The mode of the ring (R468): the journal's state and whether the oldest slot is always reused. -/
def Gutter.ringMode (g : Gutter) : BitVec 2 × Bool := (g.jState, g.overwrite)

theorem foldl_riseFn_gutter (fs : List LdId) (s : State) (src : Nat) :
    (fs.foldl (fun s f => riseFn s f src) s).gutter = s.gutter := by
  induction fs generalizing s with
  | nil => rfl
  | cons f fs ih => rw [List.foldl_cons, ih, riseFn_gutter]

theorem setLatch_gutter (s : State) (src : Nat) :
    (setLatch s src).gutter = { s.gutter with loft := putBit s.gutter.loft src true } :=
  foldl_riseFn_gutter _ _ _

theorem setLatch_ringMode (s : State) (src : Nat) : (setLatch s src).gutter.ringMode = s.gutter.ringMode := by
  rw [setLatch_gutter]; rfl

theorem dropRecord_ringMode (s : State) (reason : Nat) (w : Waiting) :
    (dropRecord s reason w).gutter.ringMode = s.gutter.ringMode := by
  unfold dropRecord
  dsimp only
  generalize counted : ({ s with gutter := _ } : State) = u
  have ringMode : u.gutter.ringMode = s.gutter.ringMode := by rw [← counted]; rfl
  split <;> split <;> simp only [setLatch_ringMode, ringMode]

/-- A record raised or dropped leaves the mode of the ring. -/
theorem enqueue_ringMode (s : State) (w : Waiting) : (enqueue s w).gutter.ringMode = s.gutter.ringMode := by
  unfold enqueue
  split
  · rfl
  · exact dropRecord_ringMode s 0 w

theorem note_ringMode (s : State) (code sev tile : Nat) (p : Payload) :
    (note s code sev tile p).gutter.ringMode = s.gutter.ringMode :=
  enqueue_ringMode s _

/-! ### The key store and the engines (R299 to R309) -/

/-- What the key store's work touches: its slots and keys, the engines with the contexts that loaded a key, the recorder. -/
abbrev keyParts : List Part := [.keys, .eng, .events]

theorem keys_keyParts (s : State) (k : Keys) : Only keyParts s { s with keys := k } := (Only.keys_set s k).mono (by simp)
theorem eng_keyParts (s : State) (e : Engines) : Only keyParts s { s with eng := e } := (Only.eng_set s e).mono (by simp)

theorem setSlot_keyParts (s : State) (i : Fin 256) (k : KeySlot) : Only keyParts s (s.setSlot i k) := keys_keyParts s _

theorem drbg_keyParts (s : State) (inst n : Nat) : Only keyParts s (drbg s inst n).1 := by
  simp only [drbg, apply_ite Prod.fst]
  exact .ite _ (.refl _ s) (.ite _ (.refl _ s) (.ite _ (eng_keyParts s _) (eng_keyParts s _)))

theorem writeSystem_keyParts (s : State) (i : Fin 256) (m : BitVec 512) : Only keyParts s (writeSystem s i m) :=
  (keys_keyParts s _).trans ((eng_keyParts _ _).trans (keys_keyParts _ _))

section
variable {derive : State → Fin 256 → State} (h : ∀ s i, Only keyParts s (derive s i))

include h

theorem badSlotBy_keyParts (s : State) (i : Fin 256) (found : Nat) : Only keyParts s (badSlotBy derive s i found) := by
  have bad := (keys_keyParts s { s.keys with tagFailures := satInc 0xFF s.keys.tagFailures }).trans
    (setSlot_keyParts _ i { s.slot i with state := .bad, material := 0 })
  refine Only.trans ?_ ((raise_frame _ _ _ _).only.mono (by simp))
  exact .ite _ (bad.trans (h _ i)) bad

theorem checkTagBy_keyParts (s : State) (i : Fin 256) (found : Nat) : Only keyParts s (checkTagBy derive s i found).1 := by
  unfold checkTagBy
  dsimp only
  split
  · exact .refl _ s
  · split
    · exact .refl _ s
    · exact badSlotBy_keyParts h s i found

end

theorem deriveAgain_keyParts (n : Nat) (s : State) (i : Fin 256) : Only keyParts s (deriveAgain n s i) := by
  induction n generalizing s i with
  | zero => exact .refl _ s
  | succ n ih =>
    unfold deriveAgain
    dsimp only
    have parent := Only.ite (i.val = 0) (Only.refl keyParts s) (checkTagBy_keyParts ih s (systemSlot s i.val).parent 2)
    split
    · exact parent.trans (writeSystem_keyParts _ _ _)
    · exact parent

theorem checkTag_keyParts (s : State) (i : Fin 256) (found : Nat) : Only keyParts s (checkTag s i found).1 :=
  checkTagBy_keyParts (deriveAgain_keyParts 5) s i found

theorem deriveSystem_keyParts (s : State) (i : Fin 256) : Only keyParts s (deriveSystem s i) := by
  unfold deriveSystem
  dsimp only
  split
  · exact writeSystem_keyParts _ _ _
  · exact (checkTag_keyParts s _ 2).trans (writeSystem_keyParts _ _ _)

theorem issueAlias_keyParts (s : State) : Only keyParts s (issueAlias s) := by
  have tag := checkTag_keyParts s 3 0
  unfold issueAlias
  dsimp only
  split
  next e => rw [e] at tag; exact tag.trans (keys_keyParts _ _)
  next u e =>
    rw [e] at tag
    have draw := drbg_keyParts u 1 48
    split
    next e => rw [e] at draw; exact (tag.trans draw).trans (keys_keyParts _ _)
    next e => rw [e] at draw; exact (tag.trans draw).trans (keys_keyParts _ _)

theorem deriveFirmwareSlots_keyParts (s : State) : Only keyParts s (deriveFirmwareSlots s) := by
  unfold deriveFirmwareSlots
  split
  · exact .refl _ s
  · exact (Only.foldl _ deriveSystem_keyParts _ s).trans (issueAlias_keyParts _)

theorem runKeyReq_keyParts (s : State) (q : KeyReq) : Only keyParts s (runKeyReq s q) := by
  cases q with
  | destroy i => exact (eng_keyParts s _).trans (keys_keyParts _ _)
  | advance i => exact keys_keyParts s _
  | firmware => exact deriveFirmwareSlots_keyParts s

/-- With no extend held the release of the Ridge port runs the key store's requests (R20). -/
theorem releaseRidge_keyParts (s : State) (none_held : s.ridge.held = []) :
    Only keyParts { s with boot := { s.boot with ridgeHeld := false } } (releaseRidge s) := by
  have ridge : ({ s.ridge with held := [] } : Ridge) = s.ridge := by rw [← none_held]
  unfold releaseRidge
  rw [none_held, ridge]
  exact (keys_keyParts _ _).trans (Only.foldl _ runKeyReq_keyParts _ _)

/-- The first draw of COLD step 5: the store key, or its fallback (R304). -/
def drawStoreKey (s : State) : State :=
  let d := drbg s 0 48
  match d.2 with
  | .ok b =>
    { d.1 with keys := { d.1.keys with
        storeKey := ofBytes 384 (kdf b (ascii "SHAKAN-STORE") [] 48), storeFallback := false } }
  | .error _ => { d.1 with keys := { d.1.keys with storeKey := Config.storeFallbackKey d.1.attic.cycles, storeFallback := true } }

/-- The second draw of COLD step 5: the boot nonce, where the DRBG answers (R294). -/
def drawBootNonce (s : State) : State :=
  let d := drbg s 0 48
  match d.2 with
  | .ok b => { d.1 with keys := { d.1.keys with bootNonce := some (ofBytes 384 b) } }
  | .error _ => { d.1 with keys := { d.1.keys with bootNonce := none } }

theorem coldKeys_eq (s : State) : coldKeys s = drawBootNonce (drawStoreKey s) := rfl

theorem drawStoreKey_keyParts (s : State) : Only keyParts s (drawStoreKey s) := by
  unfold drawStoreKey
  dsimp only
  split <;> exact (drbg_keyParts s 0 48).trans (keys_keyParts _ _)

theorem drawBootNonce_keyParts (s : State) : Only keyParts s (drawBootNonce s) := by
  unfold drawBootNonce
  dsimp only
  split <;> exact (drbg_keyParts s 0 48).trans (keys_keyParts _ _)

theorem coldKeys_keyParts (s : State) : Only keyParts s (coldKeys s) :=
  coldKeys_eq s ▸ (drawStoreKey_keyParts s).trans (drawBootNonce_keyParts _)

theorem deriveFromUds_keyParts (s : State) : Only keyParts s (deriveFromUds s) :=
  (Only.foldl _ deriveSystem_keyParts _ s).trans (keys_keyParts _ _)

theorem deriveJournalKey_keyParts (s : State) : Only keyParts s (deriveJournalKey s) :=
  .ite _ (keys_keyParts s _) (.ite _ (keys_keyParts s _) ((checkTag_keyParts s 0 2).trans (keys_keyParts _ _)))

theorem generateOwnerKey_keyParts (s : State) : Only keyParts s (generateOwnerKey s) := by
  have draw := drbg_keyParts s 0 56
  unfold generateOwnerKey
  dsimp only
  split
  · exact draw.trans ((keys_keyParts _ _).trans (keys_keyParts _ _))
  · exact draw.trans (keys_keyParts _ _)

end Sys2Proof.Machine
end

section
/-! Steps 4 to 7 of COLD and the start-up decision (R41, R43). -/

namespace Sys2Proof.Machine

open Sys2Proof

/-! ### Step 4: retired lanes, the sense and the feature set -/

/-- During COLD a LOCKDOWN cause waits for its end (R37). -/
theorem lockdown_cold (s : State) (cause : ModeCause) (mode : s.gmode.mode = .cold) (phase : s.boot.phase ≠ .ended) :
    lockdown s cause = { s with boot := { s.boot with heldLockdown := some (s.boot.heldLockdown.getD cause) } } :=
  if_pos ⟨mode, phase⟩

/-- What the retirement of lanes touches during COLD. -/
abbrev laneParts : List Part := [.boot, .eng, .freeCtr, .events]

/-- A lane retired during COLD: the engines, the recorder and a LOCKDOWN cause that waits (R279). -/
theorem retireLane_cold (s : State) (reason tile : Nat) (x : Nat × Nat) (mode : s.gmode.mode = .cold)
    (phase : s.boot.phase ≠ .ended) :
    Only laneParts s (retireLane s reason tile x) ∧ (retireLane s reason tile x).boot.phase = s.boot.phase := by
  unfold retireLane
  dsimp only
  split
  · exact ⟨.refl _ s, rfl⟩
  · generalize raised : raise _ _ _ _ = u
    have frame : Only laneParts s u := by
      rw [← raised]
      refine Only.trans ?_ ((raise_frame _ _ _ _).only.mono (by simp))
      exact ((Only.eng_set s _).mono (by simp)).trans ((Only.fresh _ 512).mono (by simp))
    have boot : u.boot = s.boot := by rw [← raised, raise_boot]; rfl
    have gmode : u.gmode = s.gmode := frame.gmode (by simp)
    split
    · rw [lockdown_cold u .thatch (by rw [gmode]; exact mode) (by rw [boot]; exact phase)]
      exact ⟨frame.trans ((Only.boot_set u _).mono (by simp)), by rw [boot]⟩
    · exact ⟨frame, by rw [boot]⟩

theorem retireLanes_cold (s : State) (reason tile : Nat) (xs : List (Nat × Nat)) (mode : s.gmode.mode = .cold)
    (phase : s.boot.phase ≠ .ended) :
    Only laneParts s (retireLanes s reason tile xs) ∧ (retireLanes s reason tile xs).boot.phase = s.boot.phase := by
  induction xs generalizing s with
  | nil => exact ⟨.refl _ s, rfl⟩
  | cons x xs ih =>
    obtain ⟨frame, same⟩ := retireLane_cold s reason tile x mode phase
    obtain ⟨rest, kept⟩ := ih (retireLane s reason tile x) (by rw [frame.gmode (by simp)]; exact mode)
      (by rw [same]; exact phase)
    exact ⟨frame.trans rest, kept.trans same⟩

/-- What a sense touches (R323). -/
abbrev senseParts : List Part := [.otp, .keys, .gmode, .attic, .events]

theorem Only.sense_set (s : State) (o : Otp) (k : Keys) (g : GMode) (a : Attic) :
    Only senseParts s { s with otp := o, keys := k, gmode := g, attic := a } :=
  { Only.refl senseParts s with
    otp := fun n => absurd (by simp) n, keys := fun n => absurd (by simp) n
    gmode := fun n => absurd (by simp) n, attic := fun n => absurd (by simp) n }

theorem applyReads_parts (s : State) (rs : List OtpRead) : Only senseParts s (applyReads s rs) :=
  Only.foldl _ (fun s _ => (Only.otp_set s _).mono (by simp)) rs s

theorem marginalEvent_parts (s : State) (row pass : Nat) (normal strict : Word) (used : Nat) :
    Only senseParts s (marginalEvent s row pass normal strict used) := (raise_frame s _ _ _).only.mono (by simp)

theorem otpFault_parts (s : State) (row region op intended strict cause pulses : Nat) :
    Only senseParts s (otpFault s row region op intended strict cause pulses) := (raise_frame s _ _ _).only.mono (by simp)

/-- A sense touches the array's reads and shadows, the device secret, barren, the sites and the recorder. -/
theorem senseOtp_parts (s : State) (drift : List OtpRead) : Only senseParts s (senseOtp s drift) := by
  have reads := (applyReads_parts s drift).trans
    ((Only.otp_set _ { (applyReads s drift).otp with redirected := redirections (applyReads s drift) }).mono (by simp))
  refine Only.trans ?_ (Only.foldl _ (fun u r => .ite _ (otpFault_parts u _ _ _ _ _ _ _) (.refl _ u)) _ _)
  refine Only.trans ?_ (Only.foldl _ (fun u r => marginalEvent_parts u r 0 _ _ _) _ _)
  exact reads.trans (Only.sense_set _ _ _ _ _)

/-- The end of SRAM initialisation: the lanes that failed are retired, the array is sensed and its feature set put in force. -/
def sensed (s : State) (katFail : List Nat) (drift : List OtpRead) : State :=
  senseOtp (retireLanes s 3 0xFF (katFail.map fun l => (l, 0xFF))) drift

theorem sensed_tiles (s : State) (katFail : List Nat) (drift : List OtpRead) (mode : s.gmode.mode = .cold)
    (phase : s.boot.phase ≠ .ended) : (sensed s katFail drift).tiles = s.tiles := by
  obtain ⟨lanes, -⟩ := retireLanes_cold s 3 0xFF (katFail.map fun l => (l, 0xFF)) mode phase
  exact ((senseOtp_parts _ drift).tiles (by simp)).trans (lanes.tiles (by simp))

/-- A tile as the sense leaves it (R3). -/
def featured (s : State) (t : TileId) : Tile :=
  let x := s.tile t
  if fusedOff s t then { x with ctl := { x.ctl with state := .absent, rstHeld := true } } else x

theorem State.tile_ofFn (s : State) (b : Boot) (f : TileId → Tile) (x : TileId) :
    ({ s with boot := b, tiles := Vector.ofFn f } : State).tile x = f x := by simp [State.tile]

theorem featured_state (s : State) (t : TileId) :
    (featured s t).ctl.state = if fusedOff s t then .absent else (s.tile t).ctl.state := by
  unfold featured
  dsimp only
  split <;> rfl

@[simp] theorem setBifurcation_tiles (s : State) (straps : BitVec 2) : (setBifurcation s straps).tiles = s.tiles := rfl

theorem exec_sramInitDone (s : State) (katFail : List Nat) (drift : List OtpRead) (phase : s.boot.phase = .sram) :
    exec (.sramInitDone katFail drift) s =
      let u := setBifurcation (sensed s katFail drift) (sensed s katFail drift).host.straps
      .next (sortRaises s { u with boot := { u.boot with phase := .sense }, tiles := Vector.ofFn (featured u) }) := by
  change execSramInitDone katFail drift s = _
  unfold execSramInitDone
  rw [if_neg (by simp [phase])]
  rfl

/-- Step 4 (R3, R41): fused-off tiles are ABSENT and every other keeps its state. -/
theorem sramInitDone_done (s : State) (katFail : List Nat) (drift : List OtpRead) (phase : s.boot.phase = .sram)
    (mode : s.gmode.mode = .cold) :
    Completes (.sramInitDone katFail drift) s fun t => t.boot.phase = .sense ∧
      ∀ x : TileId, (t.tile x).ctl.state = if fusedOff t x then .absent else (s.tile x).ctl.state := by
  have run := exec_sramInitDone s katFail drift phase
  have tiles : (setBifurcation (sensed s katFail drift) (sensed s katFail drift).host.straps).tiles = s.tiles := by
    rw [setBifurcation_tiles, sensed_tiles s katFail drift mode (by simp [phase])]
  dsimp only at run
  generalize setBifurcation _ _ = u at run tiles
  refine ⟨_, run, rfl, fun x => ?_⟩
  rw [sortRaises_tileAt, State.tile_ofFn, featured_state, State.tile, tiles]
  rfl

/-! ### Step 5: the Ridge domain -/

/-- The Ridge domain is powered with its ROM digest known. -/
def ridgePowered (s : State) (d : Digest) : State :=
  { s with
    boot := { s.boot with phase := .ridge, romDigest := d, romMatch := decide (d = Config.ridgeRomRef) }
    ridge := { s.ridge with powered := true } }

/-- Its PLL locked, its port takes requests again. -/
def ridgeLocked (s : State) (d : Digest) : State :=
  let u := ridgePowered s d
  releaseRidge { u with attic := { u.attic with locked := u.attic.locked ||| 0x10#5 } }

/-- Its ROM digest and the OTP configuration are extended. -/
def ridgeExtended (s : State) (d : Digest) : State :=
  let u := extendReg (ridgeLocked s d) 0 1 0 0 d
  extendReg u 2 1 0 0 (Config.sha384 (otpConfigRecord u))

/-- The keys of the power cycle are derived. -/
def ridgeKeys (s : State) : State :=
  let u := coldKeys s
  deriveJournalKey (if u.gmode.barren then generateOwnerKey u else if u.keys.uds.isSome then deriveFromUds u else u)

theorem ridgeKeys_keyParts (s : State) : Only keyParts s (ridgeKeys s) :=
  (coldKeys_keyParts s).trans ((Only.ite _ (generateOwnerKey_keyParts _) (.ite _ (deriveFromUds_keyParts _) (.refl _ _))).trans
    (deriveJournalKey_keyParts _))

theorem exec_otpSenseDone_unlocked (s : State) (d : Digest) (phase : s.boot.phase = .sense) :
    exec (.otpSenseDone d false) s =
      .next (sortRaises s { ridgePowered s d with boot := { (ridgePowered s d).boot with ridgeHeld := true } }) := by
  change execOtpSenseDone d false s = _
  unfold execOtpSenseDone
  rw [if_neg (by simp [phase])]
  rfl

theorem exec_otpSenseDone_locked (s : State) (d : Digest) (phase : s.boot.phase = .sense) :
    exec (.otpSenseDone d true) s = .next (sortRaises s (ridgeKeys (ridgeExtended s d))) := by
  change execOtpSenseDone d true s = _
  unfold execOtpSenseDone
  rw [if_neg (by simp [phase])]
  rfl

/-- Without lock the requests of the Ridge domain are held (R20). -/
theorem otpSenseDone_unlocked (s : State) (d : Digest) (phase : s.boot.phase = .sense) :
    Completes (.otpSenseDone d false) s fun t => t.boot.phase = .ridge ∧ t.ridge = { s.ridge with powered := true } ∧
      t.boot.ridgeHeld = true ∧ t.keys = s.keys ∧ t.gmode = s.gmode :=
  ⟨_, exec_otpSenseDone_unlocked s d phase, rfl, rfl, rfl, rfl, rfl⟩

theorem ridgeLocked_parts (s : State) (d : Digest) (none_held : s.ridge.held = []) :
    (ridgeLocked s d).boot = { (ridgePowered s d).boot with ridgeHeld := false } ∧
      (ridgeLocked s d).ridge = { s.ridge with powered := true } ∧ (ridgeLocked s d).gmode = s.gmode :=
  have keys := releaseRidge_keyParts
    { ridgePowered s d with attic := { (ridgePowered s d).attic with locked := (ridgePowered s d).attic.locked ||| 0x10#5 } }
    none_held
  ⟨keys.boot (by simp), keys.ridge (by simp), keys.gmode (by simp)⟩

/-- Locked, the Ridge domain extends its ROM digest into register 0 (R242). -/
theorem otpSenseDone_locked (s : State) (d : Digest) (phase : s.boot.phase = .sense) (none_held : s.ridge.held = [])
    (room : (s.reg 0).saturated = false) :
    Completes (.otpSenseDone d true) s fun t => t.boot.phase = .ridge ∧ t.ridge.powered = true ∧
      (t.reg 0).value = Config.sha384 (bytesOf 48 (s.reg 0).value ++ bytesOf 48 d) ∧
      (t.reg 0).counter = (s.reg 0).counter + 1 ∧ (t.reg 0).lastBy = 1 ∧ t.boot.ridgeHeld = false ∧ t.gmode = s.gmode := by
  refine ⟨_, exec_otpSenseDone_locked s d phase, ?_⟩
  obtain ⟨boot, ridge, gmode⟩ := ridgeLocked_parts s d none_held
  have reg : (ridgeLocked s d).reg 0 = s.reg 0 := by rw [State.reg, ridge]; rfl
  have keys := ridgeKeys_keyParts (ridgeExtended s d)
  have extended : Only [.ridge, .events] (ridgeLocked s d) (ridgeExtended s d) :=
    (extendReg_parts _ 0 1 0 0 d).trans (extendReg_parts _ 2 1 0 0 _)
  have bootEnd : (ridgeKeys (ridgeExtended s d)).boot = (ridgeLocked s d).boot :=
    (keys.boot (by simp)).trans (extended.boot (by simp))
  have powered : (ridgeExtended s d).ridge.powered = (ridgeLocked s d).ridge.powered := by
    simp only [ridgeExtended, extendReg_powered]
  have regEnd : (ridgeKeys (ridgeExtended s d)).reg 0 = (extendReg (ridgeLocked s d) 0 1 0 0 d).reg 0 := by
    rw [State.reg, keys.ridge (by simp)]
    exact extendReg_reg_ne _ 2 0 _ _ _ _ (by decide)
  obtain ⟨value, counter, lastBy⟩ := extendReg_same (ridgeLocked s d) 0 1 0 0 d (by rw [boot]) (by rw [reg]; exact room)
  exact ⟨by rw [sortRaises_boot, bootEnd, boot]; rfl, by rw [sortRaises_ridge, keys.ridge (by simp), powered, ridge],
    by rw [sortRaises_regAt, regEnd, value, reg], by rw [sortRaises_regAt, regEnd, counter, reg],
    by rw [sortRaises_regAt, regEnd, lastBy], by rw [sortRaises_boot, bootEnd, boot],
    by rw [sortRaises_gmode, keys.gmode (by simp), extended.gmode (by simp), gmode]⟩

/-! ### Step 7: the Underlay -/

/-- COLD does not end before the decision and the Underlay's training (R43). -/
theorem endCold_waits (s : State) (burns : List Burn) (h : s.boot.phase ≠ .decided ∨ s.boot.underlayDone = false) :
    endCold s burns = s :=
  if_pos (h.imp_right fun e => by rw [e]; rfl)

theorem applyCal_parts (s : State) : Only [.cal, .events] s (applyCal s) := by
  unfold applyCal
  dsimp only
  split
  · exact (Only.cal_set s _).mono (by simp)
  · exact ((Only.cal_set s _).mono (by simp)).trans ((raise_frame _ _ _ _).only.mono (by simp))

/-- The channels are up; the Purlin port is UP where the discovery finds its flash, else ABSENT (R360). -/
def underlayUp (s : State) (channels : BitVec 8) (answer : FlashAnswer) (sig : RafterRun) : State :=
  let up := decide ((discover false 0 none answer).result.val = 0)
  { s with
    memctl := { s.memctl with channelUp := channels }
    purlin := { s.purlin with disc := some (discover false 0 none answer), state := if up then 1 else 0 }
    boot := { s.boot with underlayDone := true, ownerRun := if up then some sig else none } }

/-- The calibration is applied, and the flash discovered within the trimmed port's limit (R360, R501). -/
def calibrated (s : State) (answer : FlashAnswer) : State :=
  let u := applyCal s
  { u with purlin := { u.purlin with disc := some (discoverOn u 32 none answer) } }

/-- The ring runs in JOURNAL mode where the port is UP, else in OVERWRITE mode (R468). -/
def recorderMode (s : State) (up : Bool) : State :=
  if up then { s with gutter := { s.gutter with overwrite := false, jState := 0 } }
  else
    note { s with gutter := { s.gutter with
      overwrite := true, jState := 3, started := true, seq := s.attic.keptSeq, mac := 0, verdict := 5 } }
      0x01 1 0xFF (payload [(0, 1, 5)])

/-- A port found ABSENT raises EVD_PURLIN_FAULT (R360). -/
def portChecked (s : State) (channels : BitVec 8) (answer : FlashAnswer) (sig : RafterRun) : State :=
  let found := (discover false 0 none answer).result.val
  let u := underlayUp s channels answer sig
  if decide (found = 0) then u else purlinFault u 0 found 0xFF 0xFFFFFFFF 0

/-- The end of the training before COLD may end. -/
def trained (s : State) (channels : BitVec 8) (answer : FlashAnswer) (sig : RafterRun) : State :=
  recorderMode (calibrated (portChecked s channels answer sig) answer)
    (decide ((discover false 0 none answer).result.val = 0))

theorem recorderMode_frame (s : State) (up : Bool) : EventFrame s (recorderMode s up) := by
  unfold recorderMode
  split
  · exact gutter_frame s _
  · exact (gutter_frame s _).trans (note_frame _ _ _ _ _)

theorem recorderMode_ringMode (s : State) : (recorderMode s false).gutter.ringMode = (3, true) := by
  unfold recorderMode
  rw [if_neg Bool.false_ne_true, note_ringMode]
  rfl

theorem portChecked_frame (s : State) (channels : BitVec 8) (answer : FlashAnswer) (sig : RafterRun) :
    EventFrame (underlayUp s channels answer sig) (portChecked s channels answer sig) :=
  .ite _ (.refl _) (raise_frame _ _ _ _)

theorem calibrated_parts (s : State) (answer : FlashAnswer) : Only [.cal, .purlin, .events] s (calibrated s answer) :=
  ((applyCal_parts s).mono (by simp)).trans ((Only.purlin_set _ _).mono (by simp))

theorem calibrated_purlin_state (s : State) (answer : FlashAnswer) : (calibrated s answer).purlin.state = s.purlin.state := by
  unfold calibrated
  dsimp only
  rw [(applyCal_parts s).purlin (by simp)]

/-- Beyond what `underlayUp` sets, the training touches the calibration, the Purlin port and the recorder. -/
theorem trained_parts (s : State) (channels : BitVec 8) (answer : FlashAnswer) (sig : RafterRun) :
    Only [.cal, .purlin, .events] (underlayUp s channels answer sig) (trained s channels answer sig) :=
  ((portChecked_frame s channels answer sig).only.mono (by simp)).trans
    ((calibrated_parts _ answer).trans ((recorderMode_frame _ _).only.mono (by simp)))

/-- The port is UP where the discovery succeeded, else ABSENT (R360). -/
theorem trained_purlin_state (s : State) (channels : BitVec 8) (answer : FlashAnswer) (sig : RafterRun) :
    (trained s channels answer sig).purlin.state = if (discover false 0 none answer).result.val = 0 then 1 else 0 := by
  rw [trained, (recorderMode_frame _ _).purlin, calibrated_purlin_state, (portChecked_frame _ _ _ _).purlin]
  simp only [underlayUp, decide_eq_true_eq]

/-- With the port ABSENT the ring runs in OVERWRITE mode (R468). -/
theorem trained_ringMode (s : State) (channels : BitVec 8) (answer : FlashAnswer) (sig : RafterRun)
    (missing : (discover false 0 none answer).result.val ≠ 0) :
    (trained s channels answer sig).gutter.ringMode = (3, true) := by
  rw [trained, decide_eq_false missing, recorderMode_ringMode]

theorem exec_underlayTrained (s : State) (channels : BitVec 8) (answer : FlashAnswer) (sig : RafterRun) (burns : List Burn)
    (phase : trainingPhase s.boot.phase = true) (untrained : s.boot.underlayDone = false) :
    exec (.underlayTrained channels answer sig burns) s =
      .next (sortRaises s (endCold (trained s channels answer sig) burns)) := by
  change execUnderlayTrained channels answer sig burns s = _
  unfold execUnderlayTrained
  rw [if_neg (by simp [phase, untrained])]
  rfl

theorem trainingPhase_early {p : ColdPhase} (h : p ∈ [ColdPhase.pll, .sram, .sense, .ridge]) :
    trainingPhase p = true ∧ p ≠ .decided := by
  cases p <;> revert h <;> decide

/-- Step 7 reports the channels and the Purlin port's state, and COLD goes on (R41, R360). -/
theorem underlayTrained_done (s : State) (channels : BitVec 8) (answer : FlashAnswer) (sig : RafterRun) (burns : List Burn)
    (phase : s.boot.phase ∈ [ColdPhase.pll, .sram, .sense, .ridge]) (untrained : s.boot.underlayDone = false) :
    Completes (.underlayTrained channels answer sig burns) s fun t => t.boot.underlayDone = true ∧
      t.memctl.channelUp = channels ∧ t.boot.phase = s.boot.phase ∧ t.gmode = s.gmode ∧
      let found := (discover false 0 none answer).result.val
      t.purlin.state = (if found = 0 then 1 else 0) ∧
      (found ≠ 0 → t.gutter.jState = 3 ∧ t.gutter.overwrite = true) := by
  obtain ⟨inStep, early⟩ := trainingPhase_early phase
  have run := exec_underlayTrained s channels answer sig burns inStep untrained
  have parts := trained_parts s channels answer sig
  have boot := parts.boot (by simp)
  rw [endCold_waits _ burns (.inl (by rw [boot]; exact early))] at run
  refine ⟨_, run, ?_, ?_, ?_, ?_, trained_purlin_state s channels answer sig, fun missing => ?_⟩
  · rw [sortRaises_boot, boot]; rfl
  · rw [sortRaises_memctl, parts.memctl (by simp)]; rfl
  · rw [sortRaises_boot, boot]; rfl
  · rw [sortRaises_gmode, parts.gmode (by simp)]; rfl
  · have ringMode := trained_ringMode s channels answer sig missing
    rw [sortRaises_gutter]
    exact ⟨congrArg Prod.fst ringMode, congrArg Prod.snd ringMode⟩

/-! ### Step 6: the start-up decision -/

/-- The decision rests on the OTP alone (R43). -/
theorem decide43_of_otp {s t : State} (h : t.otp = s.otp) (romOk locked : Bool) :
    decide43 t romOk locked = decide43 s romOk locked := by
  have read : ∀ u : State, decide43 u romOk locked = decide43 { State.reset with otp := u.otp } romOk locked := fun _ => rfl
  rw [read t, read s, h]

theorem RegionStatus.good_iff (r : RegionStatus) : r ≠ .fault ∧ r ≠ .retry ↔ r = .locked ∨ r = .unfinalised := by
  cases r <;> decide

/-- The table of R43. -/
theorem decide43_eq (s : State) (romOk locked : Bool) :
    decide43 s romOk locked =
      if locked = false then (.lockdown, .ridgeClock)
      else if romOk = false then (.lockdown, .ridgeRom)
      else if s.otp.undecodable then (.lockdown, .lifecycle)
      else match s.otp.lifecycle with
        | .raw => (.cold, .raw)
        | .blank => (.await, .blank)
        | .depot => (.depot, .depotFuse)
        | .provisioned =>
          if (regionStatus s 4 = .locked ∨ regionStatus s 4 = .unfinalised) ∧ anchors s ≠ [] then (.gate, .anchors)
          else (.await, .noAnchors) := by
  unfold decide43
  simp only [Bool.not_eq_true', ← RegionStatus.good_iff, and_assoc]
  cases s.otp.lifecycle <;> rfl

/-- The boot ROM's identity is extended and the mode that follows COLD chosen. -/
def romChecked (s : State) : State :=
  let u := extendReg s 1 2 0 0 Config.bootRomId
  { u with boot := { u.boot with
      phase := .decided, decision := some (decide43 u u.boot.romMatch (u.attic.locked.getLsbD 4)) } }

theorem exec_ridgeRomChecked (s : State) (burns : List Burn) (phase : s.boot.phase = .ridge) :
    exec (.ridgeRomChecked burns) s = .next (sortRaises s (endCold (romChecked s) burns)) := by
  change execRidgeRomChecked burns s = _
  unfold execRidgeRomChecked
  rw [if_neg (by simp [phase])]
  rfl

/-- While the Underlay is untrained the decision is kept and the device waits in COLD (R43). -/
theorem ridgeRomChecked_done (s : State) (burns : List Burn) (phase : s.boot.phase = .ridge)
    (untrained : s.boot.underlayDone = false) :
    Completes (.ridgeRomChecked burns) s fun t => t.boot.phase = .decided ∧ t.gmode = s.gmode ∧
      t.boot.decision = some (decide43 s s.boot.romMatch (s.attic.locked.getLsbD 4)) := by
  have rom := extendReg_parts s 1 2 0 0 Config.bootRomId
  have boot := rom.boot (by simp)
  have waits : endCold (romChecked s) burns = romChecked s :=
    endCold_waits _ burns (.inr (by rw [← untrained, ← boot]; rfl))
  refine ⟨_, exec_ridgeRomChecked s burns phase, ?_⟩
  rw [waits]
  refine ⟨rfl, rom.gmode (by simp), ?_⟩
  rw [← decide43_of_otp (rom.otp (by simp)), ← boot, ← rom.attic (by simp)]
  rfl

/-- Settles O15: the sense, the Ridge domain's step, the Underlay's training and the decision, each by its command's law. -/
theorem senseTrainingAndDecision : Obligations.SenseTrainingAndDecision := by
  unfold Obligations.SenseTrainingAndDecision
  refine ⟨fun s => ⟨sramInitDone_done s, otpSenseDone_unlocked s, otpSenseDone_locked s, underlayTrained_done s⟩,
    fun s burns phase untrained => ?_⟩
  obtain ⟨t, run, decided, gmode, decision⟩ := ridgeRomChecked_done s burns phase untrained
  exact ⟨t, run, decided, gmode, decision.trans (congrArg some (decide43_eq s _ _))⟩

end Sys2Proof.Machine
end
